-- ==== Sys2Proof/Word.lean ====
section
/-!
DEFINITION. The word types of the two serial links: a byte, and the big-endian 16-bit and 32-bit numbers made of bytes.
-/

namespace Sys2Proof

/-- One character of a link. -/
abbrev Byte := BitVec 8

/-- A two-byte number of a frame's body. -/
abbrev Half := BitVec 16

/-- A four-byte number of a frame's body; the battery clock's two counts (00 Conventions: 32-bit unsigned counts that wrap). -/
abbrev Word := BitVec 32

end Sys2Proof
end

