-- ==== Sys2Proof/Config.lean ====
section
/-!
DEFINITION. What the part fixes once: sizes, code values of the links, the default profile, and the one value the spec
leaves open.
-/

namespace Sys2Proof.Config

/-- The oven table holds 96 records (R1). -/
def maxOvens : Nat := 96

/-- Full progress F = 2^24 (section 1.1). -/
def fullProgress : Nat := 16777216

/-- Reset value of both heat words (R11). -/
def resetHeat : Nat := 13982

/-- Room of the notice queue (R191). -/
def noticeRoom : Nat := 32

/-- Room of the field transmit queue (R175). -/
def fieldRoom : Nat := 256

/-- Room of the out-of-turn queue (R43). -/
def outOfTurnRoom : Nat := 4

/-- Room of the deferred list (R44). -/
def deferredRoom : Nat := 8

/-- Lead byte of a supervisory frame (R184). -/
def supLead : Byte := 0xC3

/-- Longest body of a supervisory frame (R184). -/
def supMaxBody : Nat := 240

/-- Lead byte of a field frame (section 7.2). -/
def fieldLead : Byte := 0xD5

/-- Longest body of a field frame (section 7.2). -/
def fieldMaxBody : Nat := 120

/-- Kind of every notice frame (R184). -/
def noticeKind : Byte := 0xE0

/-- The generator polynomial of the CRC of both links (R168, R184). -/
def crcPolynomial : Half := 0x1021

/-- The CRC register's preset (R168, R184). -/
def crcPreset : Half := 0xFFFF

/-- A pressure field's code for "no valid reading" (section 5.3). -/
def invalidPressure : Half := 0x8000

/-- The default profile, held in both copies after RESET# (R109). -/
def defaultProfile : List Int :=
  [160, 150, 140, 130, 120, 120, 120, 120, 120, 60, 40, 30, 20, 20, 20, 20, 20]

/-- Every request kind with the body length it requires (section 8.5). -/
def requestKinds : List (Nat × Nat) :=
  [(0x01, 0), (0x02, 4), (0x03, 0), (0x04, 3), (0x05, 0), (0x06, 0), (0x10, 3), (0x11, 1), (0x12, 5),
   (0x13, 2), (0x14, 1), (0x15, 1), (0x16, 1), (0x17, 5), (0x20, 3), (0x21, 2), (0x22, 1), (0x23, 1),
   (0x24, 1), (0x25, 2), (0x26, 3), (0x27, 0), (0x30, 1), (0x31, 2), (0x32, 1), (0x33, 0), (0x34, 12),
   (0x40, 3), (0x41, 6), (0x42, 1), (0x50, 3), (0x51, 0), (0x52, 5), (0x53, 3), (0x54, 1), (0x55, 8),
   (0x56, 1), (0x60, 17), (0x61, 12), (0x62, 2), (0x63, 0), (0x70, 12), (0x71, 0), (0x72, 0), (0x73, 1)]

/-- FREE VALUE (log 8). What the ALARM output shows while the part is held in reset: R203 and R210 give the line after
reset and none during it. `true` is the line driven low. -/
opaque alarmLineInReset : Bool

end Sys2Proof.Config
end

