-- ==== Sys2Proof/Syntax.lean ====
section
/-!
DEFINITION. The commands of the part: one constructor of `Instr` per row of spec/opcode_table.json, with the row's operands,
and the types those operands are made of.
-/

namespace Sys2Proof

/-- The two sides of an oven (00 Conventions, Doors). -/
inductive Side where
  | p
  | c
deriving DecidableEq, Repr

/-- The two quench cars (R136). -/
inductive Car where
  | one
  | two
deriving DecidableEq, Repr

/-- The two machines whose silence aborts a push (R81). -/
inductive PushMachine where
  | pusher
  | guide
deriving DecidableEq, Repr

/-- The eighteen field nodes (R171). `oven m` is the node with id 16 + m. -/
inductive Node where
  | pusher
  | guide
  | car (c : Car)
  | tower
  | main
  | oven (m : Fin 12)
deriving DecidableEq, Repr

/-- The pusher's ram state (R57, R172). -/
inductive RamState where
  | home
  | forward
  | moving
deriving DecidableEq, Repr

/-- The status a car reports (R172). -/
inductive CarStatus where
  | empty
  | ready
  | loaded
  | dumping
deriving DecidableEq, Repr

/-- A location code of R139. `oven n` is the spot beneath oven n, `bay b` is BAYb. -/
inductive Location where
  | unknown
  | oven (n : Nat)
  | approachT
  | tower
  | approachW
  | bay (b : Nat)
deriving DecidableEq, Repr

/-- PUSHER_REPORT's body (R172). `force` is the raw 16-bit value: it is taken as 4000 above 4000 at PU. -/
structure PusherReport where
  position : Nat
  ram : RamState
  force : Half
  holding : Bool
  fault : Byte
deriving DecidableEq, Repr

/-- GUIDE_REPORT's body (R172). -/
structure GuideReport where
  position : Nat
  latched : Bool
  holding : Bool
  fault : Byte
deriving DecidableEq, Repr

/-- CAR_REPORT's body (R172). -/
structure CarReport where
  position : Location
  status : CarStatus
  fault : Byte
deriving DecidableEq, Repr

/-- TOWER_REPORT's body (R172). -/
structure TowerReport where
  spray : Bool
  carInTower : Option Car
deriving DecidableEq, Repr

/-- MAIN_REPORT's body (R172): raw pressure and raw feedback. -/
structure MainReport where
  pressure : Half
  feedback : Half
deriving DecidableEq, Repr

/-- One of the eight entries of OVEN_REPORT (R173): raw pressure, raw feedback, the flags and the two leak levels. -/
structure OvenEntry where
  pressure : Half
  feedback : Half
  capOpen : Bool
  presentP : Bool
  presentC : Bool
  leakP : BitVec 3
  leakC : BitVec 3
deriving DecidableEq, Repr

/-- A supervisory frame without its lead byte, length and CRC (R184). -/
structure Frame where
  kind : Byte
  tag : Byte
  body : List Byte
deriving DecidableEq, Repr

/-- A valid report of a field node, as its owners take it (R171, R174). -/
inductive Report where
  | pusher (r : PusherReport)
  | guide (r : GuideReport)
  | car (c : Car) (r : CarReport)
  | tower (r : TowerReport)
  | main (r : MainReport)
  | oven (m : Fin 12) (entries : List OvenEntry)
deriving DecidableEq, Repr

/-- The commands of the part. The docstring of each names its row and rule. A host request's first operand is its tag;
the others are its body's fields, in order. -/
inductive Instr where
  /-- STATUS (R195) -/
  | status (tag : Byte)
  /-- SET_TIME (R208) -/
  | setTime (tag : Byte) (minutes : Word)
  /-- ALARM_SUMMARY (R204) -/
  | alarmSummary (tag : Byte)
  /-- HOLD (R199) -/
  | hold (tag first count mask : Byte)
  /-- COLLECT (R200) -/
  | collect (tag : Byte)
  /-- RELEASE_HOLDS (R201) -/
  | releaseHolds (tag : Byte)
  /-- SET_HEAT (R11) -/
  | setHeat (tag selector : Byte) (value : Half)
  /-- SELECT_HEAT (R12) -/
  | selectHeat (tag selector : Byte)
  /-- SET_TRIM (R13) -/
  | setTrim (tag oven : Byte) (trim : Half) (inhibit offset : Byte)
  /-- SET_PLAN (R14) -/
  | setPlan (tag oven soak : Byte)
  /-- CHARGE_BEGIN (R5) -/
  | chargeBegin (tag oven : Byte)
  /-- CHARGE_END (R10) -/
  | chargeEnd (tag oven : Byte)
  /-- QUERY_OVEN (R25) -/
  | queryOven (tag oven : Byte)
  /-- SET_COKING_LIMITS (R24) -/
  | setCokingLimits (tag : Byte) (charge late : Half) (sticker : Byte)
  /-- SET_SERIES (R31) -/
  | setSeries (tag step offset start : Byte)
  /-- SET_PACER (R33) -/
  | setPacer (tag : Byte) (increment : Half)
  /-- SET_SCHEDULE_MODE (R35) -/
  | setScheduleMode (tag mode : Byte)
  /-- QUEUE_OUT_OF_TURN (R43) -/
  | queueOutOfTurn (tag oven : Byte)
  /-- WITHDRAW (R45) -/
  | withdraw (tag oven : Byte)
  /-- SET_EXCLUSION_FRAME (R39) -/
  | setExclusionFrame (tag granularity start : Byte)
  /-- WRITE_EXCLUSION_WORD (R40) -/
  | writeExclusionWord (tag index : Byte) (word : Half)
  /-- QUERY_SCHEDULE (R53) -/
  | querySchedule (tag : Byte)
  /-- PUSH_NOW (R58) -/
  | pushNow (tag oven : Byte)
  /-- ABORT_PUSH (R80) -/
  | abortPush (tag : Byte) (number : Half)
  /-- CLEAR_STALL (R78) -/
  | clearStall (tag result : Byte)
  /-- QUERY_PUSH (R83) -/
  | queryPush (tag : Byte)
  /-- SET_PUSH_LIMITS (R84) -/
  | setPushLimits (tag : Byte) (spot isolate doorsOff ram doorsOn sticker : Half)
  /-- DOOR_SERVICE (R100) -/
  | doorService (tag oven side action : Byte)
  /-- SET_DOOR_LIMITS (R105) -/
  | setDoorLimits (tag : Byte) (doorOff : Half) (settle base threshold persistence : Byte)
  /-- QUERY_DOORS (R106) -/
  | queryDoors (tag oven : Byte)
  /-- SET_PROFILE_POINT (R120) -/
  | setProfilePoint (tag index : Byte) (value : Half)
  /-- APPLY_PROFILE (R121) -/
  | applyProfile (tag : Byte)
  /-- SET_LOOP (R129) -/
  | setLoop (tag gain shift limit bias margin : Byte)
  /-- SET_VALVE_MANUAL (R115) -/
  | setValveManual (tag oven : Byte) (position : Half)
  /-- RELEASE_VALVE (R116) -/
  | releaseValve (tag oven : Byte)
  /-- SET_MAIN (R132) -/
  | setMain (tag : Byte) (setpoint : Half) (gain shift limit action : Byte) (position : Half)
  /-- QUERY_PRESSURE (R134) -/
  | queryPressure (tag selector : Byte)
  /-- SET_ZONES (R143): the zone shift and the eight entries, preferred then alternate. -/
  | setZones (tag shift : Byte) (entries : List (Byte × Byte))
  /-- SET_QUENCH_LIMITS (R163) -/
  | setQuenchLimits (tag : Byte) (quench drain hotCoke travel dump bayHold : Half)
  /-- CAR_SERVICE_IN (R140): CAR_SERVICE with action 1. -/
  | carServiceIn (tag car : Byte)
  /-- CAR_SERVICE_OUT (R141): CAR_SERVICE with action 0. -/
  | carServiceOut (tag car : Byte)
  /-- QUERY_QUENCH (R164) -/
  | queryQuench (tag : Byte)
  /-- OVEN_LOAD (R212) -/
  | ovenLoad (tag oven phase : Byte) (progress minutes : Word) (soak : Half)
  /-- START (R214) -/
  | start (tag : Byte)
  /-- STOP (R215) -/
  | stop (tag : Byte)
  /-- SET_BATTERY (R211) -/
  | setBattery (tag ovens : Byte)
  /-- UNKNOWN_KIND (R188): a good frame whose kind names no request. -/
  | unknownKind (tag kind : Byte) (body : List Byte)
  /-- SUP_FRAME_COMPLETE (R186): the frame's fields and the CRC received. -/
  | supFrameComplete (kind tag : Byte) (body : List Byte) (crc : Half)
  /-- SUP_SILENCE (R185) -/
  | supSilence
  /-- REPLY_SENT (R193) -/
  | replySent
  /-- NOTICE_SENT (R193) -/
  | noticeSent
  /-- S_RTS_ASSERTED (R193) -/
  | sRtsAsserted
  /-- S_RTS_DEASSERTED (R193) -/
  | sRtsDeasserted
  /-- FIELD_FRAME_RECEIVED (R170): the frame's fields and the CRC received. -/
  | fieldFrameReceived (id kind : Byte) (body : List Byte) (crc : Half)
  /-- FIELD_LINE_IDLE (R167) -/
  | fieldLineIdle
  /-- FIELD_FRAME_SENT (R175) -/
  | fieldFrameSent
  /-- PUSHER_REPORT at PU (R57) -/
  | pusherReport (r : PusherReport)
  /-- GUIDE_REPORT at PU (R57) -/
  | guideReport (r : GuideReport)
  /-- CAR_REPORT at QU (R139) -/
  | carReport (c : Car) (r : CarReport)
  /-- TOWER_REPORT at QU (R151) -/
  | towerReport (r : TowerReport)
  /-- MAIN_REPORT at PR (R131) -/
  | mainReport (r : MainReport)
  /-- OVEN_REPORT at DU (R89): the report of oven node 16 + m. -/
  | ovenReport (m : Fin 12) (entries : List OvenEntry)
  /-- OVEN_SAMPLE at PR (R117) -/
  | ovenSample (m : Fin 12) (entries : List OvenEntry)
  /-- STAGE_CONFIRMATION at PU (R63) -/
  | stageConfirmation (m : Fin 12) (entries : List OvenEntry)
  /-- BATTERY_SECOND (R205) -/
  | batterySecond
  /-- SLOT_CARRY (R32) -/
  | slotCarry
  /-- COKE_MINUTE_EXPIRY (R17) -/
  | cokeMinuteExpiry
  /-- CHARGE_TIMER_EXPIRY (R9) -/
  | chargeTimerExpiry (oven : Nat)
  /-- STAGE_TIMER_EXPIRY (R61) -/
  | stageTimerExpiry
  /-- SETTLE_TIMER_EXPIRY (R92) -/
  | settleTimerExpiry (oven : Nat) (side : Side)
  /-- DOOR_OFF_TIMER_EXPIRY (R96) -/
  | doorOffTimerExpiry (oven : Nat) (side : Side)
  /-- QUENCH_TIMER_EXPIRY (R151) -/
  | quenchTimerExpiry (c : Car)
  /-- DRAIN_TIMER_EXPIRY (R152) -/
  | drainTimerExpiry (c : Car)
  /-- DUMP_TIMER_EXPIRY (R155) -/
  | dumpTimerExpiry (c : Car)
  /-- BAY_HOLD_TIMER_EXPIRY (R156) -/
  | bayHoldTimerExpiry (bay : Nat)
  /-- TRAVEL_TIMER_EXPIRY (R157) -/
  | travelTimerExpiry (c : Car)
  /-- HOT_COKE_TIMER_EXPIRY (R158) -/
  | hotCokeTimerExpiry (c : Car)
  /-- SILENCE_WINDOW_EXPIRY (R178) -/
  | silenceWindowExpiry (n : Node)
  /-- MACHINE_SILENCE_AT_PU (R81) -/
  | machineSilenceAtPu (k : PushMachine)
  /-- SILENCE_AT_SU (R36) -/
  | silenceAtSu (n : Node)
  /-- CAR_NODE_SILENCE (R159) -/
  | carNodeSilence (c : Car)
  /-- TOWER_NODE_SILENCE (R153) -/
  | towerNodeSilence
  /-- MAIN_NODE_SILENCE (R133) -/
  | mainNodeSilence
  /-- OVEN_NODE_SILENCE (R118) -/
  | ovenNodeSilence (m : Fin 12)
  /-- OVEN_NODE_RETURN (R118) -/
  | ovenNodeReturn (m : Fin 12)
  /-- MAIN_NODE_RETURN (R133) -/
  | mainNodeReturn
  /-- TOWER_NODE_RETURN (R153) -/
  | towerNodeReturn
  /-- ESTOP_ASSERTION (R218) -/
  | estopAssertion
  /-- ESTOP_AT_PU (R79) -/
  | estopAtPu
  /-- ESTOP_AT_SU (R36) -/
  | estopAtSu
  /-- ESTOP_AT_QU (R161) -/
  | estopAtQu
  /-- ESTOP_RELEASE (R218) -/
  | estopRelease
  /-- ESTOP_RELEASE_AT_QU (R162) -/
  | estopReleaseAtQu
  /-- RESET_ASSERTED (R210) -/
  | resetAsserted
  /-- RESET_RELEASED (R210): the levels of BAUD1, BAUD0 (true = high) and whether ESTOP# is low at the release. -/
  | resetReleased (baud1 baud0 estopLow : Bool)
  /-- POWER_UP (R217): whether RESET# is high, and the levels sampled at the end of power-up. -/
  | powerUp (resetHigh baud1 baud0 estopLow : Bool)
  /-- SUPERVISORY_BYTE_RECEIVED (R185) -/
  | supervisoryByteReceived (b : Byte)
  /-- FIELD_BYTE_RECEIVED (R169) -/
  | fieldByteReceived (b : Byte)
deriving DecidableEq, Repr

/-- What SL makes of a taken frame before any owner's check (R187, steps 2 to 4). `badValue` is CAR_SERVICE with an
action above 1 (R140), which is neither of the table's two CAR_SERVICE rows. -/
inductive Verdict where
  | request (c : Instr)
  | badValue
  | badLength
  | unknownKind
deriving DecidableEq, Repr

end Sys2Proof
end

