-- ==== Sys2Proof/WellFormed.lean ====
section
/-!
DEFINITION. Which commands name something the part has. The types of `Instr` already bound every wire field; what is left is
checked here: oven records 1 to 96, bays 1 to 4, location codes, the eight entries of an oven report and of the zone table,
the longest bodies, and which node or kind a row is about.
-/

namespace Sys2Proof

/-- The oven table's records are numbered 1 to 96 (R1). -/
def wfOven (n : Nat) : Bool := decide (1 ≤ n ∧ n ≤ Config.maxOvens)

/-- The bays are numbered 1 to 4 (R138). -/
def wfBay (b : Nat) : Bool := decide (1 ≤ b ∧ b ≤ 4)

/-- A machine's reported position: 0 between ovens, or an oven number (R172). -/
def wfPosition (n : Nat) : Bool := decide (n ≤ Config.maxOvens)

/-- The location codes of R139. -/
def Location.wf : Location → Bool
  | .oven n => wfOven n
  | .bay b => wfBay b
  | .unknown => true
  | .approachT => true
  | .tower => true
  | .approachW => true

/-- A kind that names a request (section 8.5). -/
def isRequestKind (kind : Byte) : Bool := (Config.requestKinds.map (·.1)).contains kind.toNat

/-- The nodes whose silence reaches SU (R36, R180). -/
def Node.pausesSchedule : Node → Bool
  | .pusher => true
  | .guide => true
  | .oven _ => true
  | .car _ => false
  | .tower => false
  | .main => false

/-- The commands that can come about. -/
def Instr.wf : Instr → Bool
  | .setZones _ _ entries => decide (entries.length = 8)
  | .unknownKind _ kind body => !isRequestKind kind && decide (body.length ≤ Config.supMaxBody)
  | .supFrameComplete _ _ body _ => decide (body.length ≤ Config.supMaxBody)
  | .fieldFrameReceived _ _ body _ => decide (body.length ≤ Config.fieldMaxBody)
  | .pusherReport r => wfPosition r.position
  | .guideReport r => wfPosition r.position
  | .carReport _ r => r.position.wf
  | .ovenReport _ entries => decide (entries.length = 8)
  | .ovenSample _ entries => decide (entries.length = 8)
  | .stageConfirmation _ entries => decide (entries.length = 8)
  | .chargeTimerExpiry n => wfOven n
  | .settleTimerExpiry n _ => wfOven n
  | .doorOffTimerExpiry n _ => wfOven n
  | .bayHoldTimerExpiry b => wfBay b
  | .silenceAtSu n => n.pausesSchedule
  | .status .. | .setTime .. | .alarmSummary .. | .hold .. | .collect .. | .releaseHolds .. => true
  | .setHeat .. | .selectHeat .. | .setTrim .. | .setPlan .. | .chargeBegin .. | .chargeEnd .. => true
  | .queryOven .. | .setCokingLimits .. | .setSeries .. | .setPacer .. | .setScheduleMode .. => true
  | .queueOutOfTurn .. | .withdraw .. | .setExclusionFrame .. | .writeExclusionWord .. => true
  | .querySchedule .. | .pushNow .. | .abortPush .. | .clearStall .. | .queryPush .. => true
  | .setPushLimits .. | .doorService .. | .setDoorLimits .. | .queryDoors .. => true
  | .setProfilePoint .. | .applyProfile .. | .setLoop .. | .setValveManual .. | .releaseValve .. => true
  | .setMain .. | .queryPressure .. | .setQuenchLimits .. | .carServiceIn .. | .carServiceOut .. => true
  | .queryQuench .. | .ovenLoad .. | .start .. | .stop .. | .setBattery .. => true
  | .supSilence | .replySent | .noticeSent | .sRtsAsserted | .sRtsDeasserted => true
  | .fieldLineIdle | .fieldFrameSent | .towerReport .. | .mainReport .. => true
  | .batterySecond | .slotCarry | .cokeMinuteExpiry | .stageTimerExpiry => true
  | .quenchTimerExpiry .. | .drainTimerExpiry .. | .dumpTimerExpiry .. | .travelTimerExpiry .. => true
  | .hotCokeTimerExpiry .. | .silenceWindowExpiry .. | .machineSilenceAtPu .. | .carNodeSilence .. => true
  | .towerNodeSilence | .mainNodeSilence | .ovenNodeSilence .. | .ovenNodeReturn .. => true
  | .mainNodeReturn | .towerNodeReturn | .estopAssertion | .estopAtPu | .estopAtSu | .estopAtQu => true
  | .estopRelease | .estopReleaseAtQu | .resetAsserted | .resetReleased .. | .powerUp .. => true
  | .supervisoryByteReceived .. | .fieldByteReceived .. => true

end Sys2Proof
end

