-- ==== Sys2Proof/Decode.lean ====
section
/-!
DEFINITION. The wire forms of the two links: byte order, the CRC, the code values of the fields, a request read from a
supervisory frame and the frame of a request, a report read from a field frame and the body of a report. The opcode table
gives no row any bits, so `decodeTableWord` spells no command.
-/

namespace Sys2Proof

/-- The table gives no row bits: no word spells a command (log 19). -/
def decodeTableWord (_nbits _w : Nat) : Option Instr := none

/-! ### Byte order (00 Conventions: big-endian) -/

/-- The two bytes of a half, high byte first. -/
def halfBytes (h : Half) : List Byte := [h.extractLsb' 8 8, h.extractLsb' 0 8]

/-- The four bytes of a word, high byte first. -/
def wordBytes (w : Word) : List Byte :=
  [w.extractLsb' 24 8, w.extractLsb' 16 8, w.extractLsb' 8 8, w.extractLsb' 0 8]

/-- The half made of two bytes, high byte first. -/
def halfOf (hi lo : Byte) : Half := hi ++ lo

/-- The word made of four bytes, high byte first. -/
def wordOf (a b c d : Byte) : Word := a ++ b ++ c ++ d

/-! ### The CRC of both links (R168, R184) -/

/-- One bit of the CRC register's shift. -/
def crcShift (r : Half) : Half :=
  if r.msb then (r <<< 1) ^^^ Config.crcPolynomial else r <<< 1

/-- One byte into the CRC register, most significant bit first. -/
def crcByte (r : Half) (b : Byte) : Half :=
  (List.range 8).foldl (fun x _ => crcShift x) (r ^^^ (b ++ (0 : Byte)))

/-- The CRC-16 of a list of bytes: preset to 0xFFFF, no reflection, no final inversion. -/
def crc (bytes : List Byte) : Half := bytes.foldl crcByte Config.crcPreset

/-! ### Code values of operand fields -/

/-- 0 P, 1 C. -/
def Side.code : Side → Nat
  | .p => 0
  | .c => 1

/-- The side a code names. -/
def Side.ofCode : Nat → Option Side
  | 0 => some .p
  | 1 => some .c
  | _ => none

/-- Car numbers 1 and 2. -/
def Car.code : Car → Nat
  | .one => 1
  | .two => 2

/-- The car a number names. -/
def Car.ofCode : Nat → Option Car
  | 1 => some .one
  | 2 => some .two
  | _ => none

/-- Ram state codes of R172. -/
def RamState.code : RamState → Nat
  | .home => 0
  | .forward => 1
  | .moving => 2

/-- The ram state a code names. -/
def RamState.ofCode : Nat → Option RamState
  | 0 => some .home
  | 1 => some .forward
  | 2 => some .moving
  | _ => none

/-- Car status codes of R172. -/
def CarStatus.code : CarStatus → Nat
  | .empty => 0
  | .ready => 1
  | .loaded => 2
  | .dumping => 3

/-- The status a code names. -/
def CarStatus.ofCode : Nat → Option CarStatus
  | 0 => some .empty
  | 1 => some .ready
  | 2 => some .loaded
  | 3 => some .dumping
  | _ => none

/-- Location codes of R139. -/
def Location.code : Location → Nat
  | .unknown => 0
  | .oven n => n
  | .approachT => 200
  | .tower => 201
  | .approachW => 202
  | .bay b => 202 + b

/-- The location a code names. -/
def Location.ofCode (n : Nat) : Option Location :=
  if n = 0 then some .unknown
  else if n ≤ Config.maxOvens then some (.oven n)
  else if n = 200 then some .approachT
  else if n = 201 then some .tower
  else if n = 202 then some .approachW
  else if 203 ≤ n ∧ n ≤ 206 then some (.bay (n - 202))
  else none

/-- A yes-or-no code field: 0 or 1. -/
def boolOfCode : Nat → Option Bool
  | 0 => some false
  | 1 => some true
  | _ => none

/-- 1 for yes, 0 for no. -/
def boolCode (b : Bool) : Nat := if b then 1 else 0

/-- Node ids of R171. -/
def Node.id : Node → Nat
  | .pusher => 1
  | .guide => 2
  | .car c => 2 + c.code
  | .tower => 5
  | .main => 6
  | .oven m => 16 + m.val

/-- The eighteen nodes in id order (R171). -/
def Node.all : List Node :=
  [.pusher, .guide, .car .one, .car .two, .tower, .main, .oven 0, .oven 1, .oven 2, .oven 3, .oven 4, .oven 5,
   .oven 6, .oven 7, .oven 8, .oven 9, .oven 10, .oven 11]

/-- The node an id names (R171). -/
def Node.ofId (n : Nat) : Option Node := Node.all.find? (fun x => x.id == n)

/-- The place of a node in the node table: ids 1 to 6, then 16 to 27 (R195). -/
def Node.index : Node → Nat
  | .pusher => 0
  | .guide => 1
  | .car c => 1 + c.code
  | .tower => 4
  | .main => 5
  | .oven m => 6 + m.val

/-- The silence windows of R171, in seconds. -/
def Node.window : Node → Nat
  | .pusher => 2
  | .guide => 2
  | .car _ => 2
  | .tower => 3
  | .main => 2
  | .oven _ => 3

/-! ### Requests (section 8.5) -/

/-- The eight zone entries of SET_ZONES' body: pairs of bytes in order. -/
def zonePairs : List Byte → List (Byte × Byte)
  | a :: b :: rest => (a, b) :: zonePairs rest
  | _ => []

/-- The request that a body of the right length spells, by its kind (section 8.5 and the request's own rule). -/
def decodeBody (kind : Nat) (tag : Byte) (body : List Byte) : Option Instr :=
  match kind with
  | 0x01 => match body with | [] => some (.status tag) | _ => none
  | 0x02 => match body with | [a, b, c, d] => some (.setTime tag (wordOf a b c d)) | _ => none
  | 0x03 => match body with | [] => some (.alarmSummary tag) | _ => none
  | 0x04 => match body with | [f, n, m] => some (.hold tag f n m) | _ => none
  | 0x05 => match body with | [] => some (.collect tag) | _ => none
  | 0x06 => match body with | [] => some (.releaseHolds tag) | _ => none
  | 0x10 => match body with | [x, a, b] => some (.setHeat tag x (halfOf a b)) | _ => none
  | 0x11 => match body with | [x] => some (.selectHeat tag x) | _ => none
  | 0x12 => match body with | [n, a, b, i, o] => some (.setTrim tag n (halfOf a b) i o) | _ => none
  | 0x13 => match body with | [n, x] => some (.setPlan tag n x) | _ => none
  | 0x14 => match body with | [n] => some (.chargeBegin tag n) | _ => none
  | 0x15 => match body with | [n] => some (.chargeEnd tag n) | _ => none
  | 0x16 => match body with | [n] => some (.queryOven tag n) | _ => none
  | 0x17 => match body with
    | [a, b, c, d, e] => some (.setCokingLimits tag (halfOf a b) (halfOf c d) e)
    | _ => none
  | 0x20 => match body with | [k, j, n] => some (.setSeries tag k j n) | _ => none
  | 0x21 => match body with | [a, b] => some (.setPacer tag (halfOf a b)) | _ => none
  | 0x22 => match body with | [m] => some (.setScheduleMode tag m) | _ => none
  | 0x23 => match body with | [n] => some (.queueOutOfTurn tag n) | _ => none
  | 0x24 => match body with | [n] => some (.withdraw tag n) | _ => none
  | 0x25 => match body with | [g, n] => some (.setExclusionFrame tag g n) | _ => none
  | 0x26 => match body with | [i, a, b] => some (.writeExclusionWord tag i (halfOf a b)) | _ => none
  | 0x27 => match body with | [] => some (.querySchedule tag) | _ => none
  | 0x30 => match body with | [n] => some (.pushNow tag n) | _ => none
  | 0x31 => match body with | [a, b] => some (.abortPush tag (halfOf a b)) | _ => none
  | 0x32 => match body with | [r] => some (.clearStall tag r) | _ => none
  | 0x33 => match body with | [] => some (.queryPush tag) | _ => none
  | 0x34 => match body with
    | [a, b, c, d, e, f, g, h, i, j, k, l] =>
      some (.setPushLimits tag (halfOf a b) (halfOf c d) (halfOf e f) (halfOf g h) (halfOf i j) (halfOf k l))
    | _ => none
  | 0x40 => match body with | [n, x, a] => some (.doorService tag n x a) | _ => none
  | 0x41 => match body with
    | [a, b, c, d, e, f] => some (.setDoorLimits tag (halfOf a b) c d e f)
    | _ => none
  | 0x42 => match body with | [n] => some (.queryDoors tag n) | _ => none
  | 0x50 => match body with | [i, a, b] => some (.setProfilePoint tag i (halfOf a b)) | _ => none
  | 0x51 => match body with | [] => some (.applyProfile tag) | _ => none
  | 0x52 => match body with | [a, b, c, d, e] => some (.setLoop tag a b c d e) | _ => none
  | 0x53 => match body with | [n, a, b] => some (.setValveManual tag n (halfOf a b)) | _ => none
  | 0x54 => match body with | [n] => some (.releaseValve tag n) | _ => none
  | 0x55 => match body with
    | [a, b, c, d, e, f, g, h] => some (.setMain tag (halfOf a b) c d e f (halfOf g h))
    | _ => none
  | 0x56 => match body with | [n] => some (.queryPressure tag n) | _ => none
  | 0x60 => match body with
    | [z, a, b, c, d, e, f, g, h, i, j, k, l, m, n, o, p] =>
      some (.setZones tag z (zonePairs [a, b, c, d, e, f, g, h, i, j, k, l, m, n, o, p]))
    | _ => none
  | 0x61 => match body with
    | [a, b, c, d, e, f, g, h, i, j, k, l] =>
      some (.setQuenchLimits tag (halfOf a b) (halfOf c d) (halfOf e f) (halfOf g h) (halfOf i j) (halfOf k l))
    | _ => none
  | 0x62 => match body with
    | [c, a] => if a = 1 then some (.carServiceIn tag c) else if a = 0 then some (.carServiceOut tag c) else none
    | _ => none
  | 0x63 => match body with | [] => some (.queryQuench tag) | _ => none
  | 0x70 => match body with
    | [n, f, a, b, c, d, e, g, h, i, j, k] =>
      some (.ovenLoad tag n f (wordOf a b c d) (wordOf e g h i) (halfOf j k))
    | _ => none
  | 0x71 => match body with | [] => some (.start tag) | _ => none
  | 0x72 => match body with | [] => some (.stop tag) | _ => none
  | 0x73 => match body with | [n] => some (.setBattery tag n) | _ => none
  | _ => none

/-- The body length a kind requires, if it names a request (section 8.5). -/
def requestLength (kind : Byte) : Option Nat := Config.requestKinds.lookup kind.toNat

/-- What SL makes of a taken frame (R187, steps 2 to 4): kind, then body length, then the request. -/
def decodeRequest (f : Frame) : Verdict :=
  match requestLength f.kind with
  | none => .unknownKind
  | some len =>
    if f.body.length = len then
      match decodeBody f.kind.toNat f.tag f.body with
      | some c => .request c
      | none => .badValue
    else .badLength

/-- The frame of a host request: its kind of section 8.5, its tag and its body's fields in order. -/
def encodeRequest : Instr → Option Frame
  | .status t => some ⟨0x01, t, []⟩
  | .setTime t m => some ⟨0x02, t, wordBytes m⟩
  | .alarmSummary t => some ⟨0x03, t, []⟩
  | .hold t f n m => some ⟨0x04, t, [f, n, m]⟩
  | .collect t => some ⟨0x05, t, []⟩
  | .releaseHolds t => some ⟨0x06, t, []⟩
  | .setHeat t x v => some ⟨0x10, t, x :: halfBytes v⟩
  | .selectHeat t x => some ⟨0x11, t, [x]⟩
  | .setTrim t n v i o => some ⟨0x12, t, n :: (halfBytes v ++ [i, o])⟩
  | .setPlan t n x => some ⟨0x13, t, [n, x]⟩
  | .chargeBegin t n => some ⟨0x14, t, [n]⟩
  | .chargeEnd t n => some ⟨0x15, t, [n]⟩
  | .queryOven t n => some ⟨0x16, t, [n]⟩
  | .setCokingLimits t a b c => some ⟨0x17, t, halfBytes a ++ halfBytes b ++ [c]⟩
  | .setSeries t k j n => some ⟨0x20, t, [k, j, n]⟩
  | .setPacer t q => some ⟨0x21, t, halfBytes q⟩
  | .setScheduleMode t m => some ⟨0x22, t, [m]⟩
  | .queueOutOfTurn t n => some ⟨0x23, t, [n]⟩
  | .withdraw t n => some ⟨0x24, t, [n]⟩
  | .setExclusionFrame t g n => some ⟨0x25, t, [g, n]⟩
  | .writeExclusionWord t i w => some ⟨0x26, t, i :: halfBytes w⟩
  | .querySchedule t => some ⟨0x27, t, []⟩
  | .pushNow t n => some ⟨0x30, t, [n]⟩
  | .abortPush t n => some ⟨0x31, t, halfBytes n⟩
  | .clearStall t r => some ⟨0x32, t, [r]⟩
  | .queryPush t => some ⟨0x33, t, []⟩
  | .setPushLimits t a b c d e f =>
    some ⟨0x34, t, halfBytes a ++ halfBytes b ++ halfBytes c ++ halfBytes d ++ halfBytes e ++ halfBytes f⟩
  | .doorService t n x a => some ⟨0x40, t, [n, x, a]⟩
  | .setDoorLimits t a b c d e => some ⟨0x41, t, halfBytes a ++ [b, c, d, e]⟩
  | .queryDoors t n => some ⟨0x42, t, [n]⟩
  | .setProfilePoint t i v => some ⟨0x50, t, i :: halfBytes v⟩
  | .applyProfile t => some ⟨0x51, t, []⟩
  | .setLoop t a b c d e => some ⟨0x52, t, [a, b, c, d, e]⟩
  | .setValveManual t n v => some ⟨0x53, t, n :: halfBytes v⟩
  | .releaseValve t n => some ⟨0x54, t, [n]⟩
  | .setMain t a b c d e f => some ⟨0x55, t, halfBytes a ++ [b, c, d, e] ++ halfBytes f⟩
  | .queryPressure t n => some ⟨0x56, t, [n]⟩
  | .setZones t z es => some ⟨0x60, t, z :: es.flatMap (fun e => [e.1, e.2])⟩
  | .setQuenchLimits t a b c d e f =>
    some ⟨0x61, t, halfBytes a ++ halfBytes b ++ halfBytes c ++ halfBytes d ++ halfBytes e ++ halfBytes f⟩
  | .carServiceIn t c => some ⟨0x62, t, [c, 1]⟩
  | .carServiceOut t c => some ⟨0x62, t, [c, 0]⟩
  | .queryQuench t => some ⟨0x63, t, []⟩
  | .ovenLoad t n f p m x => some ⟨0x70, t, [n, f] ++ wordBytes p ++ wordBytes m ++ halfBytes x⟩
  | .start t => some ⟨0x71, t, []⟩
  | .stop t => some ⟨0x72, t, []⟩
  | .setBattery t n => some ⟨0x73, t, [n]⟩
  | .unknownKind t k b => some ⟨k, t, b⟩
  | .supFrameComplete .. | .supSilence | .replySent | .noticeSent | .sRtsAsserted | .sRtsDeasserted => none
  | .fieldFrameReceived .. | .fieldLineIdle | .fieldFrameSent | .pusherReport .. | .guideReport .. | .carReport .. => none
  | .towerReport .. | .mainReport .. | .ovenReport .. | .ovenSample .. | .stageConfirmation .. | .batterySecond => none
  | .slotCarry | .cokeMinuteExpiry | .chargeTimerExpiry .. | .stageTimerExpiry | .settleTimerExpiry .. => none
  | .doorOffTimerExpiry .. | .quenchTimerExpiry .. | .drainTimerExpiry .. | .dumpTimerExpiry .. => none
  | .bayHoldTimerExpiry .. | .travelTimerExpiry .. | .hotCokeTimerExpiry .. | .silenceWindowExpiry .. => none
  | .machineSilenceAtPu .. | .silenceAtSu .. | .carNodeSilence .. | .towerNodeSilence | .mainNodeSilence => none
  | .ovenNodeSilence .. | .ovenNodeReturn .. | .mainNodeReturn | .towerNodeReturn | .estopAssertion | .estopAtPu => none
  | .estopAtSu | .estopAtQu | .estopRelease | .estopReleaseAtQu | .resetAsserted | .resetReleased .. | .powerUp .. => none
  | .supervisoryByteReceived .. | .fieldByteReceived .. => none

/-! ### Reports (R171 to R173) -/

/-- A machine's position field: a code field of 0 to 96 (R172). -/
def positionOf (b : Byte) : Option Nat := if b.toNat ≤ Config.maxOvens then some b.toNat else none

/-- PUSHER_REPORT's fields (R172); a code field with an undefined value discards the report (R170). -/
def decodePusher : List Byte → Option PusherReport
  | [p, r, hi, lo, h, f] => do
    let position ← positionOf p
    let ram ← RamState.ofCode r.toNat
    let holding ← boolOfCode h.toNat
    pure ⟨position, ram, halfOf hi lo, holding, f⟩
  | _ => none

/-- GUIDE_REPORT's fields (R172). -/
def decodeGuide : List Byte → Option GuideReport
  | [p, l, h, f] => do
    let position ← positionOf p
    let latched ← boolOfCode l.toNat
    let holding ← boolOfCode h.toNat
    pure ⟨position, latched, holding, f⟩
  | _ => none

/-- CAR_REPORT's fields (R172). -/
def decodeCar : List Byte → Option CarReport
  | [p, x, f] => do
    let position ← Location.ofCode p.toNat
    let status ← CarStatus.ofCode x.toNat
    pure ⟨position, status, f⟩
  | _ => none

/-- TOWER_REPORT's fields (R172). -/
def decodeTower : List Byte → Option TowerReport
  | [x, c] => do
    let spray ← boolOfCode x.toNat
    if c = 0 then pure ⟨spray, none⟩
    else do
      let car ← Car.ofCode c.toNat
      pure ⟨spray, some car⟩
  | _ => none

/-- MAIN_REPORT's fields (R172). -/
def decodeMain : List Byte → Option MainReport
  | [a, b, c, d] => some ⟨halfOf a b, halfOf c d⟩
  | _ => none

/-- One entry of OVEN_REPORT; undefined bits of the flags and the leak byte are ignored (R173). -/
def decodeEntry (a b c d flags leak : Byte) : OvenEntry :=
  ⟨halfOf a b, halfOf c d, flags.getLsbD 0, flags.getLsbD 1, flags.getLsbD 2, leak.extractLsb' 0 3, leak.extractLsb' 4 3⟩

/-- The entries of OVEN_REPORT's body, six bytes each (R173). -/
def decodeEntries : List Byte → List OvenEntry
  | a :: b :: c :: d :: e :: f :: rest => decodeEntry a b c d e f :: decodeEntries rest
  | _ => []

/-- The valid report in a field frame from a node: report kind, length and code fields as R170 and R171 require. -/
def decodeReport (node : Node) (kind : Byte) (body : List Byte) : Option Report :=
  match node with
  | .pusher => if kind = 0x01 then (decodePusher body).map .pusher else none
  | .guide => if kind = 0x02 then (decodeGuide body).map .guide else none
  | .car c => if kind = 0x03 then (decodeCar body).map (.car c) else none
  | .tower => if kind = 0x04 then (decodeTower body).map .tower else none
  | .main => if kind = 0x05 then (decodeMain body).map .main else none
  | .oven m => if kind = 0x06 ∧ body.length = 48 then some (.oven m (decodeEntries body)) else none

/-- A flags byte of OVEN_REPORT (R173). -/
def entryFlags (e : OvenEntry) : Byte :=
  BitVec.ofNat 8 (boolCode e.capOpen + 2 * boolCode e.presentP + 4 * boolCode e.presentC)

/-- The six bytes of one entry (R173). -/
def encodeEntry (e : OvenEntry) : List Byte :=
  halfBytes e.pressure ++ halfBytes e.feedback ++ [entryFlags e, BitVec.ofNat 8 (e.leakP.toNat + 16 * e.leakC.toNat)]

/-- The node a report comes from, its kind and its body (R171 to R173). -/
def encodeReport : Report → Node × Byte × List Byte
  | .pusher r => (.pusher, 0x01,
      [BitVec.ofNat 8 r.position, BitVec.ofNat 8 r.ram.code] ++ halfBytes r.force ++
      [BitVec.ofNat 8 (boolCode r.holding), r.fault])
  | .guide r => (.guide, 0x02,
      [BitVec.ofNat 8 r.position, BitVec.ofNat 8 (boolCode r.latched), BitVec.ofNat 8 (boolCode r.holding), r.fault])
  | .car c r => (.car c, 0x03, [BitVec.ofNat 8 r.position.code, BitVec.ofNat 8 r.status.code, r.fault])
  | .tower r => (.tower, 0x04,
      [BitVec.ofNat 8 (boolCode r.spray), BitVec.ofNat 8 ((r.carInTower.map Car.code).getD 0)])
  | .main r => (.main, 0x05, halfBytes r.pressure ++ halfBytes r.feedback)
  | .oven m es => (.oven m, 0x06, es.flatMap encodeEntry)

end Sys2Proof
end

