-- ==== Sys2Proof/Machine/State.lean ====
section
/-!
DEFINITION. The state of the part as plain data, block by block (the block overview of 00), its values after RESET#, and the
reasons a step can stop.
-/

namespace Sys2Proof.Machine

/-- A countdown timer: not running, or seconds remaining. `some 0` has run out and its expiry has not been taken (log 3). -/
abbrev Timer := Option Nat

/-- The oven phases (section 1.2). -/
inductive Phase where
  | empty
  | charging
  | coking
  | soaking
  | ready
  | pushing
  | stalled
deriving DecidableEq, Repr

/-- The door states (R86). -/
inductive DoorState where
  | sealed
  | off
  | seated
  | leaking
deriving DecidableEq, Repr

/-- The valve modes of the ovens, shared by the main (R108, R110). -/
inductive ValveMode where
  | auto
  | aspirate
  | closed
  | hold
  | manual
deriving DecidableEq, Repr

/-- The schedule modes (R34). -/
inductive ScheduleMode where
  | manual
  | auto
  | paused
deriving DecidableEq, Repr

/-- The part modes (R209). -/
inductive PartMode where
  | config
  | run
deriving DecidableEq, Repr

/-- How a push was begun (R55). -/
inductive Origin where
  | series
  | deferred
  | outOfTurn
  | manual
deriving DecidableEq, Repr

/-- The stages of a push (R55). -/
inductive Stage where
  | spot
  | isolate
  | doorsOff
  | ram
  | doorsOn
  | retreat
deriving DecidableEq, Repr

/-- The abort causes (R70). -/
inductive AbortCause where
  | timeout
  | host
  | estop
  | pusherSilent
  | guideSilent
  | car
  | recheck
deriving DecidableEq, Repr

/-- The car states (R137). -/
inductive CarState where
  | outOfService
  | parked
  | toSpot
  | spotted
  | loaded
  | toTower
  | waitingTower
  | quenching
  | draining
  | waitingBay
  | toWharf
  | dumping
  | faulted
deriving DecidableEq, Repr

/-- Why a car faulted (R159). -/
inductive FaultCause where
  | report
  | travel
  | silent
  | offSpot
  | dump
deriving DecidableEq, Repr

/-- The bay states (R138). -/
inductive BayState where
  | free
  | reserved
  | occupied
deriving DecidableEq, Repr

/-- The liveness of a node table entry (R177). -/
inductive Liveness where
  | neverHeard
  | live
  | silent
deriving DecidableEq, Repr

/-- The supervisory rates (R183). -/
inductive Baud where
  | b9600
  | b38400
  | b115200
  | b230400
deriving DecidableEq, Repr

/-- A door record (R86). -/
structure Door where
  state : DoorState
  clampStep : Nat
  learnedStep : Nat
  leakLevel : Nat
  persistence : Nat
  unexpected : Bool
  offLong : Bool
  permit : Bool
  doorOffTimer : Timer
  settleTimer : Timer
deriving DecidableEq, Repr

/-- The four indications of the last setpoint and step (R126). -/
structure Trace where
  leakBias : Bool
  floorRaised : Bool
  clampActed : Bool
  stepLimited : Bool
deriving DecidableEq, Repr

/-- The pressure unit's fields of one oven (R108). -/
structure Valve where
  mode : ValveMode
  manualFlag : Bool
  manualPosition : Nat
  setpoint : Int
  lastPressure : Option Int
  command : Nat
  aspiration : Bool
  feedback : Nat
  capOpen : Bool
  trace : Trace
  lastStep : Int
deriving DecidableEq, Repr

/-- Held status (R198). -/
structure HeldStatus where
  phase : Phase
  late : Bool
  doorP : DoorState
  doorC : DoorState
  mode : ValveMode
  command : Nat
  setpoint : Int
  lastPressure : Option Int
deriving DecidableEq, Repr

/-- Held age (R198). -/
structure HeldAge where
  progress : Nat
  minutes : Word
  soakRemaining : Nat
deriving DecidableEq, Repr

/-- An oven record (section 1.1). -/
structure Oven where
  phase : Phase
  progress : Nat
  trim : Int
  trimInhibit : Bool
  profileOffset : Nat
  planSoak : Nat
  planPending : Bool
  activeSoak : Nat
  soakRemaining : Nat
  chargedAt : Word
  late : Bool
  chargeLong : Bool
  stickerPending : Bool
  hardPushCount : Nat
  lastPushNumber : Half
  chargeTimer : Timer
  doorP : Door
  doorC : Door
  valve : Valve
  heldStatus : Option HeldStatus
  heldAge : Option HeldAge
deriving DecidableEq, Repr

/-- The coking limits (R24). -/
structure CokingLimits where
  chargeLimit : Nat
  lateLimit : Nat
  stickerSoak : Nat
deriving DecidableEq, Repr

/-- CC: the heat words, their selection, the coke-minute timer and the coking limits (R11, R16, R24). `minutesDue` counts the
coke-minute expiries that have come and that no step has taken yet; it is the model's own (log 3). -/
structure CokingClock where
  heatA : Nat
  heatB : Nat
  selectB : Bool
  minuteTimer : Nat
  minutesDue : Nat
  limits : CokingLimits
deriving DecidableEq, Repr

/-- SU's state (R28). `carriesDue` counts the slot carries that have come and that no step has taken yet; it is the model's own
(log 3). -/
structure ScheduleUnit where
  mode : ScheduleMode
  step : Nat
  offset : Nat
  startOven : Nat
  cursor : Nat
  increment : Nat
  accumulator : Nat
  carriesDue : Nat
  slotFlag : Bool
  outOfTurn : List Nat
  deferred : List Nat
  granularity : Nat
  exclusionStart : Nat
  exclusion : BitVec 64
deriving DecidableEq, Repr

/-- The push record (R55). -/
structure PushRecord where
  number : Half
  oven : Nat
  origin : Origin
  car : Car
  claimed : Bool
  stage : Stage
  entered : Word
  timer : Nat
  latchSent : Bool
  forwardSeen : Bool
  peakForce : Nat
  emptyCar : Bool
  doorFault : Bool
  abortCause : Option AbortCause
deriving DecidableEq, Repr

/-- The stall record (R76). -/
structure StallRecord where
  oven : Nat
  number : Half
  origin : Origin
  car : Car
  claimed : Bool
  stage : Stage
  cause : AbortCause
  firstCause : Option AbortCause
  peakForce : Nat
  second : Word
deriving DecidableEq, Repr

/-- The push limits (R84). -/
structure PushLimits where
  spot : Nat
  isolate : Nat
  doorsOff : Nat
  ram : Nat
  doorsOn : Nat
  sticker : Nat
deriving DecidableEq, Repr

/-- The pusher view (R54, R57). -/
structure PusherView where
  position : Nat
  ram : RamState
  force : Nat
  holding : Bool
  fault : Nat
deriving DecidableEq, Repr

/-- The guide view (R54, R57). -/
structure GuideView where
  position : Nat
  latched : Bool
  holding : Bool
  fault : Nat
deriving DecidableEq, Repr

/-- An oven node report that PU has taken and DU has not yet, with the pushed oven and the stage it found (R90; log 21). -/
structure TakenReport where
  oven : Nat
  entries : List OvenEntry
  stage : Stage
deriving DecidableEq, Repr

/-- PU's state (R54). `taken` is the model's own (log 21). -/
structure PushUnit where
  push : Option PushRecord
  stall : Option StallRecord
  counter : Half
  limits : PushLimits
  pusher : PusherView
  guide : GuideView
  taken : Option TakenReport
deriving DecidableEq, Repr

/-- DU's limits (R88). -/
structure DoorLimits where
  doorOffLimit : Nat
  settleTime : Nat
  baseStep : Nat
  leakThreshold : Nat
  leakPersistence : Nat
deriving DecidableEq, Repr

/-- The main record (R110). -/
structure MainRecord where
  mode : ValveMode
  setpoint : Int
  gain : Nat
  shift : Nat
  stepLimit : Nat
  manualFlag : Bool
  manualPosition : Nat
  command : Nat
  pressure : Option Int
  feedback : Nat
  lastStep : Int
deriving DecidableEq, Repr

/-- PR's settings (R109), its main record (R110), and whether the main floor stands: restored at the main node's return and withdrawn
at its silence, as PR takes them (R133, R135, R180; log 10). -/
structure PressureUnit where
  active : List Int
  shadow : List Int
  gain : Nat
  shift : Nat
  stepLimit : Nat
  leakBias : Nat
  margin : Nat
  main : MainRecord
  floorOn : Bool
deriving DecidableEq, Repr

/-- The coke a car carries (R136, R146). -/
structure Load where
  number : Half
  oven : Nat
  second : Word
deriving DecidableEq, Repr

/-- A car record (R136). In service, the fault flag and tower-wait are functions of the state and the waiter list (log 17). -/
structure CarRecord where
  state : CarState
  position : Location
  target : Option Location
  travelTimer : Timer
  load : Option Load
  hotTimer : Timer
  hotLate : Bool
  quenchTimer : Timer
  drainTimer : Timer
  dumpTimer : Timer
  reservedBay : Option Nat
  lastFault : Option FaultCause
  status : CarStatus
  fault : Nat
deriving DecidableEq, Repr

/-- A bay record (R138). -/
structure Bay where
  state : BayState
  car : Option Car
  holdTimer : Timer
deriving DecidableEq, Repr

/-- A zone entry (R142). -/
structure Zone where
  preferred : Car
  alternate : Option Car
deriving DecidableEq, Repr

/-- The quench limits (R163). -/
structure QuenchLimits where
  quench : Nat
  drain : Nat
  hotCoke : Nat
  travel : Nat
  dump : Nat
  bayHold : Nat
deriving DecidableEq, Repr

/-- QU's state (R136, R138). -/
structure QuenchUnit where
  car1 : CarRecord
  car2 : CarRecord
  holder : Option Car
  waiters : List Car
  bayWaiters : List Car
  sprayReported : Bool
  carInTower : Option Car
  bays : List Bay
  zoneShift : Nat
  zones : List Zone
  limits : QuenchLimits
deriving DecidableEq, Repr

/-- A node table entry (R177). -/
structure NodeEntry where
  liveness : Liveness
  inUse : Bool
  quiet : Nat
  lastReport : Word
deriving DecidableEq, Repr

/-- The commands of R174's table, with their bodies. -/
inductive FieldCommand where
  | travel (n : Nat)
  | extract
  | replace
  | ramForward
  | ramHalt
  | halt
  | latch
  | move (l : Location)
  | spray (on : Bool)
  | gate (bay : Nat) (opened : Bool)
  | mainValve (position : Nat)
  | valve (n position : Nat)
  | cap (n : Nat) (opened : Bool)
  | clamp (n : Nat) (side : Side) (step : Nat)
  | aspiration (n : Nat) (on : Bool)
deriving DecidableEq, Repr

/-- A command frame in the transmit queue: the node addressed and the command. -/
structure Outgoing where
  node : Node
  command : FieldCommand
deriving DecidableEq, Repr

/-- FL's receiver (R167, R169): the line is idle and a lead byte may come; bytes are ignored until the line is idle; or a
frame's bytes after the lead are being collected. -/
inductive FieldReceiver where
  | idle
  | skip
  | collect (bytes : List Byte)
deriving DecidableEq, Repr

/-- FL's state (R167, R175, R176, R177). `fDe` is the F_DE output: the head of the queue is being sent. -/
structure FieldLink where
  nodes : List NodeEntry
  queue : List Outgoing
  fullRaised : Bool
  fDe : Bool
  receiver : FieldReceiver
deriving DecidableEq, Repr

/-- The notices of section 8.6 with their subject fields, in the table's order. -/
inductive NoticeBody where
  | chargeLong (oven : Nat)
  | ovenReady (oven : Nat) (minutes : Word)
  | ovenLate (oven : Nat) (minutes : Word)
  | slotOverrun
  | schedulePaused (cause : Nat) (node : Nat)
  | pushStarted (number : Half) (oven : Nat) (origin : Origin) (car : Car)
  | hardPush (oven : Nat) (number : Half) (force : Nat)
  | pushDone (number : Half) (oven : Nat) (car : Car) (force : Nat) (emptyCar doorFault : Bool)
  | pushAborted (number : Half) (oven : Nat) (stage : Stage) (cause : AbortCause)
  | stalled (number : Half) (oven : Nat) (stage : Stage) (cause : AbortCause) (first : Option AbortCause)
  | stallCleared (number : Half) (oven : Nat) (result : Nat)
  | doorUnexpected (oven : Nat) (side : Side)
  | doorOffLong (oven : Nat) (side : Side)
  | doorLeaking (oven : Nat) (side : Side) (level : Nat)
  | doorResealed (oven : Nat) (side : Side)
  | carFault (car : Car) (cause : FaultCause) (fault : Nat) (left : CarState)
  | hotCokeLate (car : Car) (oven : Nat) (number : Half)
  | loadDumped (car : Car) (bay oven : Nat) (number : Half)
  | loadDiscarded (car : Car) (oven : Nat) (number : Half)
  | nodeSilent (node : Node) (second : Word)
  | nodeBack (node : Node) (code : Nat)
  | fieldQueueFull (node : Node) (kind : Nat)
deriving DecidableEq, Repr

/-- A notice in the queue: the battery second of its event and its body (R191). -/
structure Notice where
  second : Word
  body : NoticeBody
deriving DecidableEq, Repr

/-- SL's receiver (R185); COLLECT holds the bytes received after the lead. -/
inductive SupReceiver where
  | hunt
  | collect (bytes : List Byte)
  | skip
deriving DecidableEq, Repr

/-- SL's transmitter (R193): idle, sending the reply of the reply slot, or sending one notice. -/
inductive Transmitter where
  | idle
  | reply
  | notice (n : Notice)
deriving DecidableEq, Repr

/-- SL's state (R194), the transmitter (R193), the level of S_RTS and the rate in force (R183). -/
structure SupLink where
  receiver : SupReceiver
  spare : Option Frame
  inService : Option Frame
  replySlot : Option Frame
  notices : List Notice
  noticeLost : Bool
  discards : Nat
  overruns : Nat
  transmitter : Transmitter
  rts : Bool
  baud : Baud
deriving DecidableEq, Repr

/-- BK's state (R205). -/
structure BatteryClock where
  seconds : Word
  minutes : Word
  mode : PartMode
deriving DecidableEq, Repr

/-- The levels of the pins the part acts on: held in reset (R210), and the debounced ESTOP# (R218; true = asserted). -/
structure Pins where
  inReset : Bool
  estop : Bool
deriving DecidableEq, Repr

/-- The whole part. `pending` is the queue of waiting commands and `due` the events the part has brought about and no step
has taken yet (log 1, log 2): both are the model's own. -/
structure State where
  ovens : List Oven
  ovenCount : Nat
  cc : CokingClock
  su : ScheduleUnit
  pu : PushUnit
  du : DoorLimits
  pr : PressureUnit
  qu : QuenchUnit
  fl : FieldLink
  sl : SupLink
  bk : BatteryClock
  pins : Pins
  due : List Instr
  pending : List Instr
deriving DecidableEq, Repr

/-- Why the model stops on a command. -/
inductive Fault where
  /-- Raised by a meaning whose command is not well-formed (`Instr.wf`): it names an oven record, bay, node, code or length
  that the part does not have, so no event of the plant is that command. Safe (log 16). -/
  | illFormed
deriving DecidableEq, Repr

/-- Why the model has no answer for a command. -/
inductive Refusal where
  /-- Raised by an arm of `exec` whose command has no meaning yet; no arm does. Safe. -/
  | notModelled (mnemonic : String)
deriving DecidableEq, Repr

/-- A door record after RESET# (R87). -/
def Door.reset : Door :=
  { state := .sealed, clampStep := 4, learnedStep := 4, leakLevel := 0, persistence := 0, unexpected := false,
    offLong := false, permit := false, doorOffTimer := none, settleTimer := none }

/-- PR's fields of an oven after RESET# (R3, R108). -/
def Valve.reset : Valve :=
  { mode := .hold, manualFlag := false, manualPosition := 0, setpoint := 0, lastPressure := none, command := 0,
    aspiration := false, feedback := 0, capOpen := false, trace := ⟨false, false, false, false⟩, lastStep := 0 }

/-- An oven record after RESET# (R3). -/
def Oven.reset : Oven :=
  { phase := .empty, progress := 0, trim := 0, trimInhibit := false, profileOffset := 0, planSoak := 30,
    planPending := false, activeSoak := 30, soakRemaining := 0, chargedAt := 0, late := false, chargeLong := false,
    stickerPending := false, hardPushCount := 0, lastPushNumber := 0, chargeTimer := none, doorP := .reset,
    doorC := .reset, valve := .reset, heldStatus := none, heldAge := none }

/-- CC after RESET# (R11, R16, R24). -/
def CokingClock.reset : CokingClock :=
  { heatA := Config.resetHeat, heatB := Config.resetHeat, selectB := false, minuteTimer := 0, minutesDue := 0,
    limits := ⟨600, 1440, 30⟩ }

/-- SU after RESET# (R28). -/
def ScheduleUnit.reset : ScheduleUnit :=
  { mode := .paused, step := 5, offset := 2, startOven := 1, cursor := 0, increment := 0, accumulator := 0,
    carriesDue := 0, slotFlag := false, outOfTurn := [], deferred := [], granularity := 0, exclusionStart := 1, exclusion := 0 }

/-- PU after RESET# (R54, R84). -/
def PushUnit.reset : PushUnit :=
  { push := none, stall := none, counter := 0, limits := ⟨240, 20, 90, 150, 90, 2600⟩, pusher := ⟨0, .home, 0, false, 0⟩,
    guide := ⟨0, false, false, 0⟩, taken := none }

/-- DU's limits after RESET# (R88). -/
def DoorLimits.reset : DoorLimits := ⟨420, 30, 4, 3, 3⟩

/-- The main record after RESET# (R110). -/
def MainRecord.reset : MainRecord :=
  { mode := .hold, setpoint := 60, gain := 2, shift := 4, stepLimit := 8, manualFlag := false, manualPosition := 0,
    command := 0, pressure := none, feedback := 0, lastStep := 0 }

/-- PR's settings after RESET# (R109). -/
def PressureUnit.reset : PressureUnit :=
  { active := Config.defaultProfile, shadow := Config.defaultProfile, gain := 4, shift := 3, stepLimit := 16,
    leakBias := 40, margin := 20, main := .reset, floorOn := false }

/-- A car record after RESET# (R136). -/
def CarRecord.reset : CarRecord :=
  { state := .outOfService, position := .unknown, target := none, travelTimer := none, load := none, hotTimer := none,
    hotLate := false, quenchTimer := none, drainTimer := none, dumpTimer := none, reservedBay := none, lastFault := none,
    status := .empty, fault := 0 }

/-- QU after RESET# (R136, R138, R163). -/
def QuenchUnit.reset : QuenchUnit :=
  { car1 := .reset, car2 := .reset, holder := none, waiters := [], bayWaiters := [], sprayReported := false,
    carInTower := none, bays := List.replicate 4 ⟨.free, none, none⟩, zoneShift := 4,
    zones := List.replicate 8 ⟨.one, some .two⟩, limits := ⟨90, 40, 240, 300, 45, 1200⟩ }

/-- FL after RESET#: N = 96, so all eighteen entries are in use (R177, R210); the line counts as not idle (R167). -/
def FieldLink.reset : FieldLink :=
  { nodes := List.replicate 18 ⟨.neverHeard, true, 0, 0⟩, queue := [], fullRaised := false, fDe := false,
    receiver := .skip }

/-- SL after RESET# (R194); S_RTS and the rate are DESIGN CHOICES (log 6). -/
def SupLink.reset : SupLink :=
  { receiver := .hunt, spare := none, inService := none, replySlot := none, notices := [], noticeLost := false,
    discards := 0, overruns := 0, transmitter := .idle, rts := false, baud := .b115200 }

/-- BK after RESET# (R205). -/
def BatteryClock.reset : BatteryClock := ⟨0, 0, .config⟩

/-- The part right after reset (R210); ESTOP# released is a DESIGN CHOICE (log 6). -/
def State.reset : State :=
  { ovens := List.replicate Config.maxOvens Oven.reset, ovenCount := Config.maxOvens, cc := .reset, su := .reset,
    pu := .reset, du := .reset, pr := .reset, qu := .reset, fl := .reset, sl := .reset, bk := .reset,
    pins := ⟨false, false⟩, due := [], pending := [] }

end Sys2Proof.Machine
end

