-- ==== Sys2Proof/Machine/Operands.lean ====
section
/-!
DEFINITION. The operand forms of the part: ranges and clamping, the code values reported on the links, the fields of replies,
notices and field commands as bytes, the pressures of a report, and the rounding of R123 and R127.
-/

namespace Sys2Proof.Machine

/-! ### Ranges -/

/-- A quantity clamped to lo..hi (00 Conventions, Refused and clamped). -/
def clampNat (lo hi x : Nat) : Nat := max lo (min hi x)

/-- A signed quantity clamped to lo..hi. -/
def clampInt (lo hi x : Int) : Int := max lo (min hi x)

/-- A count that stays at 65535 (R194). -/
def bump (n : Nat) : Nat := min 65535 (n + 1)

/-- A countdown by one battery second; at 0 it has run out and stays (log 3). -/
def tick : Timer → Timer := Option.map (fun n => n - 1)

/-- The timer has run out and its expiry has not been taken. -/
def ranOut (t : Timer) : Bool := t == some 0

/-- The remaining time as a query reports it: 0 when not running (R106, R164). -/
def remaining (t : Timer) : Nat := t.getD 0

/-- A signed 16-bit field. -/
def signedOf (h : Half) : Int := h.toInt

/-- A pressure of a report: INVALID for 0x8000, any other value clamped to -1000..1000 (R117, R131). -/
def pressureOf (h : Half) : Option Int :=
  if h = Config.invalidPressure then none else some (clampInt (-1000) 1000 (signedOf h))

/-- A valve feedback of a report: taken as 1023 above 1023 (R117, R131). -/
def feedbackOf (h : Half) : Nat := min 1023 h.toNat

/-- A peak force of a report: taken as 4000 above 4000 (R172). -/
def forceOf (h : Half) : Nat := min 4000 h.toNat

/-- q shifted right arithmetically by k places, plus the last bit shifted out; not shifted for k = 0 (R123, R127). -/
def roundShift (q : Int) (k : Nat) : Int :=
  if k = 0 then q else q / (2 ^ k : Nat) + (q / (2 ^ (k - 1) : Nat)) % 2

/-! ### Code values (R190, section 1.2, R28, R55, R70, R86, R108, R137, R138, R159, R177) -/

/-- The status codes of R190. -/
inductive Status where
  | ok
  | badLength
  | unknownKind
  | badOven
  | badValue
  | wrongMode
  | busy
  | wrongPhase
  | doorsNotSealed
  | excluded
  | duplicate
  | full
  | badSeries
  | noCar
  | nodeSilent
  | notFound
deriving DecidableEq, Repr

/-- The codes of R190. -/
def Status.code : Status → Byte
  | .ok => 0
  | .badLength => 1
  | .unknownKind => 2
  | .badOven => 3
  | .badValue => 4
  | .wrongMode => 5
  | .busy => 6
  | .wrongPhase => 7
  | .doorsNotSealed => 8
  | .excluded => 9
  | .duplicate => 10
  | .full => 11
  | .badSeries => 12
  | .noCar => 13
  | .nodeSilent => 14
  | .notFound => 15

/-- Phase codes (section 1.2). -/
def Phase.code : Phase → Nat
  | .empty => 0
  | .charging => 1
  | .coking => 2
  | .soaking => 3
  | .ready => 4
  | .pushing => 5
  | .stalled => 6

/-- The phases OVEN_LOAD takes (R212). -/
def Phase.ofLoad : Nat → Option Phase
  | 0 => some .empty
  | 1 => some .charging
  | 2 => some .coking
  | 3 => some .soaking
  | 4 => some .ready
  | _ => none

/-- Door state codes (R86). -/
def DoorState.code : DoorState → Nat
  | .sealed => 0
  | .off => 1
  | .seated => 2
  | .leaking => 3

/-- Valve mode codes (R108). -/
def ValveMode.code : ValveMode → Nat
  | .auto => 0
  | .aspirate => 1
  | .closed => 2
  | .hold => 3
  | .manual => 4

/-- Schedule mode codes (R28). -/
def ScheduleMode.code : ScheduleMode → Nat
  | .manual => 0
  | .auto => 1
  | .paused => 2

/-- The schedule mode a code names (R35). -/
def ScheduleMode.ofCode : Nat → Option ScheduleMode
  | 0 => some .manual
  | 1 => some .auto
  | 2 => some .paused
  | _ => none

/-- Part mode codes (R189). -/
def PartMode.code : PartMode → Nat
  | .config => 0
  | .run => 1

/-- Origin codes (R55). -/
def Origin.code : Origin → Nat
  | .series => 0
  | .deferred => 1
  | .outOfTurn => 2
  | .manual => 3

/-- Stage codes (R55). -/
def Stage.code : Stage → Nat
  | .spot => 1
  | .isolate => 2
  | .doorsOff => 3
  | .ram => 4
  | .doorsOn => 5
  | .retreat => 6

/-- Abort cause codes (R70). -/
def AbortCause.code : AbortCause → Nat
  | .timeout => 1
  | .host => 2
  | .estop => 3
  | .pusherSilent => 4
  | .guideSilent => 5
  | .car => 6
  | .recheck => 7

/-- Car state codes (R137). -/
def CarState.code : CarState → Nat
  | .outOfService => 0
  | .parked => 1
  | .toSpot => 2
  | .spotted => 3
  | .loaded => 4
  | .toTower => 5
  | .waitingTower => 6
  | .quenching => 7
  | .draining => 8
  | .waitingBay => 9
  | .toWharf => 10
  | .dumping => 11
  | .faulted => 12

/-- Fault cause codes (R159). -/
def FaultCause.code : FaultCause → Nat
  | .report => 1
  | .travel => 2
  | .silent => 3
  | .offSpot => 4
  | .dump => 5

/-- Bay state codes (R138). -/
def BayState.code : BayState → Nat
  | .free => 0
  | .reserved => 1
  | .occupied => 2

/-- Liveness codes (R177). -/
def Liveness.code : Liveness → Nat
  | .neverHeard => 0
  | .live => 1
  | .silent => 2

/-- A code that is 0 when absent. -/
def optCode {α : Type} (f : α → Nat) (x : Option α) : Nat := (x.map f).getD 0

/-! ### Fields of replies, notices and commands -/

/-- A one-byte field. -/
def byteOf (n : Nat) : Byte := BitVec.ofNat 8 n

/-- A two-byte field. -/
def half (n : Nat) : List Byte := halfBytes (BitVec.ofNat 16 n)

/-- A four-byte field. -/
def word (n : Nat) : List Byte := wordBytes (BitVec.ofNat 32 n)

/-- A two-byte signed field. -/
def signed (x : Int) : List Byte := halfBytes (BitVec.ofInt 16 x)

/-- A pressure field: 0x8000 for INVALID (R134, R198). -/
def pressureField : Option Int → List Byte
  | some p => signed p
  | none => halfBytes Config.invalidPressure

/-- A one-byte flag. -/
def flag (b : Bool) : Byte := byteOf (boolCode b)

/-- A flags byte, bit 0 first. -/
def bits : List Bool → Nat
  | [] => 0
  | b :: rest => boolCode b + 2 * bits rest

/-- The whole wire form of a supervisory frame: lead, length, kind, tag, body, CRC (R184). -/
def supFrameWire (f : Frame) : List Byte :=
  let inner := byteOf f.body.length :: f.kind :: f.tag :: f.body
  Config.supLead :: inner ++ halfBytes (crc inner)

/-- The CRC a supervisory frame must carry (R184). -/
def supFrameCrc (f : Frame) : Half := crc (byteOf f.body.length :: f.kind :: f.tag :: f.body)

/-- The notice codes of section 8.6. -/
def NoticeBody.code : NoticeBody → Byte
  | .chargeLong .. => 0x10
  | .ovenReady .. => 0x11
  | .ovenLate .. => 0x12
  | .slotOverrun => 0x20
  | .schedulePaused .. => 0x21
  | .pushStarted .. => 0x30
  | .hardPush .. => 0x31
  | .pushDone .. => 0x32
  | .pushAborted .. => 0x33
  | .stalled .. => 0x34
  | .stallCleared .. => 0x35
  | .doorUnexpected .. => 0x40
  | .doorOffLong .. => 0x41
  | .doorLeaking .. => 0x42
  | .doorResealed .. => 0x43
  | .carFault .. => 0x60
  | .hotCokeLate .. => 0x61
  | .loadDumped .. => 0x62
  | .loadDiscarded .. => 0x63
  | .nodeSilent .. => 0x70
  | .nodeBack .. => 0x71
  | .fieldQueueFull .. => 0x72

/-- The subject fields of section 8.6, in the table's order. -/
def NoticeBody.subject : NoticeBody → List Byte
  | .chargeLong n => [byteOf n]
  | .ovenReady n m => byteOf n :: wordBytes m
  | .ovenLate n m => byteOf n :: wordBytes m
  | .slotOverrun => []
  | .schedulePaused cause node => [byteOf cause, byteOf node]
  | .pushStarted k n o c => halfBytes k ++ [byteOf n, byteOf o.code, byteOf c.code]
  | .hardPush n k f => byteOf n :: (halfBytes k ++ half f)
  | .pushDone k n c f e d => halfBytes k ++ [byteOf n, byteOf c.code] ++ half f ++ [byteOf (bits [e, d])]
  | .pushAborted k n st c => halfBytes k ++ [byteOf n, byteOf st.code, byteOf c.code]
  | .stalled k n st c f => halfBytes k ++ [byteOf n, byteOf st.code, byteOf c.code, byteOf (optCode AbortCause.code f)]
  | .stallCleared k n r => halfBytes k ++ [byteOf n, byteOf r]
  | .doorUnexpected n d => [byteOf n, byteOf d.code]
  | .doorOffLong n d => [byteOf n, byteOf d.code]
  | .doorLeaking n d l => [byteOf n, byteOf d.code, byteOf l]
  | .doorResealed n d => [byteOf n, byteOf d.code]
  | .carFault c cause f left => [byteOf c.code, byteOf cause.code, byteOf f, byteOf left.code]
  | .hotCokeLate c n k => [byteOf c.code, byteOf n] ++ halfBytes k
  | .loadDumped c b n k => [byteOf c.code, byteOf b, byteOf n] ++ halfBytes k
  | .loadDiscarded c n k => [byteOf c.code, byteOf n] ++ halfBytes k
  | .nodeSilent x t => byteOf x.id :: wordBytes t
  | .nodeBack x r => [byteOf x.id, byteOf r]
  | .fieldQueueFull x k => [byteOf x.id, byteOf k]

/-- A notice's frame: kind 0xE0, tag 0, the code, the battery second and the subject fields (R191). -/
def Notice.frame (n : Notice) : Frame :=
  ⟨Config.noticeKind, 0, n.body.code :: (wordBytes n.second ++ n.body.subject)⟩

/-- The command kinds of R174. -/
def FieldCommand.kind : FieldCommand → Nat
  | .travel _ => 0x81
  | .extract => 0x82
  | .replace => 0x83
  | .ramForward => 0x84
  | .ramHalt => 0x85
  | .halt => 0x86
  | .latch => 0x87
  | .move _ => 0x88
  | .spray _ => 0x89
  | .gate .. => 0x8A
  | .mainValve _ => 0x8B
  | .valve .. => 0x8B
  | .cap .. => 0x8C
  | .clamp .. => 0x8D
  | .aspiration .. => 0x8E

/-- The command bodies of R174. -/
def FieldCommand.body : FieldCommand → List Byte
  | .travel n => [byteOf n]
  | .extract => []
  | .replace => []
  | .ramForward => []
  | .ramHalt => []
  | .halt => []
  | .latch => []
  | .move l => [byteOf l.code]
  | .spray on => [flag on]
  | .gate b o => [byteOf b, flag o]
  | .mainValve x => half x
  | .valve n x => byteOf n :: half x
  | .cap n o => [byteOf n, flag o]
  | .clamp n d k => [byteOf n, byteOf d.code, byteOf k]
  | .aspiration n on => [byteOf n, flag on]

/-- The whole wire form of a command frame: lead, node id, length, kind, body, CRC (R168). -/
def Outgoing.wire (o : Outgoing) : List Byte :=
  let body := o.command.body
  let inner := byteOf o.node.id :: byteOf body.length :: byteOf o.command.kind :: body
  Config.fieldLead :: inner ++ halfBytes (crc inner)

/-- The rate the straps select (R183). -/
def baudOf (baud1 baud0 : Bool) : Baud :=
  match baud1, baud0 with
  | false, false => .b9600
  | false, true => .b38400
  | true, false => .b115200
  | true, true => .b230400

end Sys2Proof.Machine
end

