-- ==== Sys2Proof/Machine/Ops.lean ====
section
/-!
DEFINITION. The shared operations on the state: whole-block updates, access to the records of ovens, doors, cars, bays and
nodes, raising a notice (R191 to R193), issuing a field command (R175, R176), and the events brought about (log 2).
-/

namespace Sys2Proof.Machine

/-! ### Whole-block updates -/

/-- Replace the oven table. -/
def State.withOvens (s : State) (x : List Oven) : State := { s with ovens := x }
/-- Replace the oven count. -/
def State.withOvenCount (s : State) (x : Nat) : State := { s with ovenCount := x }
/-- Replace CC's state. -/
def State.withCc (s : State) (x : CokingClock) : State := { s with cc := x }
/-- Replace SU's state. -/
def State.withSu (s : State) (x : ScheduleUnit) : State := { s with su := x }
/-- Replace PU's state. -/
def State.withPu (s : State) (x : PushUnit) : State := { s with pu := x }
/-- Replace DU's limits. -/
def State.withDu (s : State) (x : DoorLimits) : State := { s with du := x }
/-- Replace PR's settings and main record. -/
def State.withPr (s : State) (x : PressureUnit) : State := { s with pr := x }
/-- Replace QU's state. -/
def State.withQu (s : State) (x : QuenchUnit) : State := { s with qu := x }
/-- Replace FL's state. -/
def State.withFl (s : State) (x : FieldLink) : State := { s with fl := x }
/-- Replace SL's state. -/
def State.withSl (s : State) (x : SupLink) : State := { s with sl := x }
/-- Replace BK's state. -/
def State.withBk (s : State) (x : BatteryClock) : State := { s with bk := x }
/-- Replace the pin levels. -/
def State.withPins (s : State) (x : Pins) : State := { s with pins := x }
/-- Replace the events brought about. -/
def State.withDue (s : State) (x : List Instr) : State := { s with due := x }
/-- Replace the queue of waiting commands. -/
def State.withPending (s : State) (x : List Instr) : State := { s with pending := x }

/-! ### Ovens and doors -/

/-- An oven number within 1..N (R1). -/
def State.inRange (s : State) (n : Nat) : Bool := decide (1 ≤ n ∧ n ≤ s.ovenCount)

/-- The oven record n, for n in 1..96 (R1). -/
def State.oven (s : State) (n : Nat) : Oven := s.ovens.getD (n - 1) Oven.reset

/-- Write the oven record n. -/
def State.setOven (s : State) (n : Nat) (o : Oven) : State := s.withOvens (s.ovens.set (n - 1) o)

/-- The ovens 1 to N in ascending order. -/
def State.ovenNumbers (s : State) : List Nat := (List.range s.ovenCount).map (· + 1)

/-- The records 1 to N with their numbers. -/
def State.inUse (s : State) : List (Oven × Nat) := (s.ovens.take s.ovenCount).zipIdx 1

/-- The door record of a side (R86). -/
def Oven.door (o : Oven) : Side → Door
  | .p => o.doorP
  | .c => o.doorC

/-- Write the door record of a side. -/
def Oven.setDoor (o : Oven) (d : Side) (x : Door) : Oven :=
  match d with
  | .p => { o with doorP := x }
  | .c => { o with doorC := x }

/-- Write PR's fields of an oven. -/
def Oven.setValve (o : Oven) (v : Valve) : Oven := { o with valve := v }

/-- Set the phase of oven n. -/
def State.setPhase (s : State) (n : Nat) (p : Phase) : State := s.setOven n { s.oven n with phase := p }

/-- Minutes since charge: the current battery minute less charged at, modulo 2^32 (R10, R21, R25). -/
def State.minutesSince (s : State) (n : Nat) : Word := s.bk.minutes - (s.oven n).chargedAt

/-- The part is in RUN (R209). -/
def State.running (s : State) : Bool := s.bk.mode == .run

/-! ### Nodes -/

/-- The number m of the oven node serving oven n: (n - 1) ÷ 8 (R171). -/
def nodeNumber (n : Nat) : Fin 12 := Fin.ofNat 12 ((n - 1) / 8)

/-- The oven node serving oven n, id 16 + ((n - 1) ÷ 8) (R5, R174). -/
def servingNode (n : Nat) : Node := .oven (nodeNumber n)

/-- The node table entry of a node (R177). -/
def FieldLink.entry (f : FieldLink) (x : Node) : NodeEntry := f.nodes.getD x.index ⟨.neverHeard, false, 0, 0⟩

/-- Write the node table entry of a node. -/
def FieldLink.setEntry (f : FieldLink) (x : Node) (e : NodeEntry) : FieldLink :=
  { f with nodes := f.nodes.set x.index e }

/-- A node is live for every other block when its liveness is LIVE (R177). -/
def State.live (s : State) (x : Node) : Bool := (s.fl.entry x).liveness == .live

/-- The oven nodes in use, ids 16 to 15 + ceil(N/8), ascending (R171). -/
def ovenNodesFor (n : Nat) : List Node :=
  (List.finRange 12).filterMap (fun m => if m.val < (n + 7) / 8 then some (Node.oven m) else none)

/-- The pusher, the guide and every oven node in use, in that order (R35, R213). -/
def State.pushNodes (s : State) : List Node := .pusher :: .guide :: ovenNodesFor s.ovenCount

/-! ### Supervisory transmitter and notices -/

/-- The transmitter, when free, chooses the next frame: the reply of the slot, else the oldest notice under S_RTS, else it
stays idle (R193). While a request is in service and its reply is still being formed, no notice is begun: the request's
notices follow its reply (R193; log 12). -/
def SupLink.choose (l : SupLink) : SupLink :=
  match l.transmitter, l.replySlot, l.notices with
  | .idle, some _, _ => { l with transmitter := .reply }
  | .idle, none, n :: rest =>
    if l.rts && l.inService.isNone then { l with transmitter := .notice n, notices := rest } else l
  | _, _, _ => l

/-- A notice joins the queue, or is discarded with notice-lost set when the queue holds 32 (R191, R192). -/
def SupLink.raise (l : SupLink) (second : Word) (b : NoticeBody) : SupLink :=
  if l.notices.length < Config.noticeRoom then
    SupLink.choose { l with notices := l.notices ++ [⟨second, b⟩] }
  else { l with noticeLost := true }

/-- A block raises a notice at the current battery second (R191). -/
def State.raise (s : State) (b : NoticeBody) : State := s.withSl (s.sl.raise s.bk.seconds b)

/-- Several notices, in the order listed. -/
def State.raiseAll (s : State) (bs : List NoticeBody) : State :=
  s.withSl (bs.foldl (fun l b => l.raise s.bk.seconds b) s.sl)

/-! ### Field transmit queue -/

/-- The part begins the head frame when the line is idle, it is receiving no frame and none is being sent (R167). -/
def FieldLink.begin (f : FieldLink) : FieldLink :=
  match f.receiver, f.queue with
  | .idle, _ :: _ => if f.fDe then f else { f with fDe := true, receiver := .skip }
  | _, _ => f

/-- A command takes the tail of the transmit queue, or is discarded when the queue holds 256 (R175, R176). -/
def FieldLink.enqueue (f : FieldLink) (o : Outgoing) : FieldLink :=
  if f.queue.length < Config.fieldRoom then FieldLink.begin { f with queue := f.queue ++ [o] }
  else { f with fullRaised := true }

/-- The two links after one command is issued: the first discard since the queue was last empty raises
FIELD_QUEUE_FULL (R176). -/
def issueStep (second : Word) (p : FieldLink × SupLink) (o : Outgoing) : FieldLink × SupLink :=
  (p.1.enqueue o,
   if p.1.queue.length < Config.fieldRoom || p.1.fullRaised then p.2
   else p.2.raise second (.fieldQueueFull o.node o.command.kind))

/-- Several commands issued in the order listed (R175). -/
def State.issueAll (s : State) (cs : List Outgoing) : State :=
  let p := cs.foldl (issueStep s.bk.seconds) (s.fl, s.sl)
  (s.withFl p.1).withSl p.2

/-- One command to one node. -/
def State.issue (s : State) (x : Node) (c : FieldCommand) : State := s.issueAll [⟨x, c⟩]

/-! ### Cars and bays -/

/-- The record of a car (R136). -/
def QuenchUnit.car (q : QuenchUnit) : Car → CarRecord
  | .one => q.car1
  | .two => q.car2

/-- Write the record of a car. -/
def QuenchUnit.setCar (q : QuenchUnit) (c : Car) (r : CarRecord) : QuenchUnit :=
  match c with
  | .one => { q with car1 := r }
  | .two => { q with car2 := r }

/-- The record of a car. -/
def State.car (s : State) (c : Car) : CarRecord := s.qu.car c

/-- Write the record of a car. -/
def State.setCar (s : State) (c : Car) (r : CarRecord) : State := s.withQu (s.qu.setCar c r)

/-- In service: set in every state but OUT_OF_SERVICE (R137). -/
def CarRecord.inService (r : CarRecord) : Bool := r.state != .outOfService

/-- The fault flag: the car is FAULTED (R136). -/
def CarRecord.faulted (r : CarRecord) : Bool := r.state == .faulted

/-- The cars 1 and 2. -/
def allCars : List Car := [.one, .two]

/-- The bays 1 to 4. -/
def allBays : List Nat := [1, 2, 3, 4]

/-- The bay record b, for b in 1..4 (R138). -/
def QuenchUnit.bay (q : QuenchUnit) (b : Nat) : Bay := q.bays.getD (b - 1) ⟨.free, none, none⟩

/-- Write the bay record b. -/
def QuenchUnit.setBay (q : QuenchUnit) (b : Nat) (x : Bay) : QuenchUnit := { q with bays := q.bays.set (b - 1) x }

/-- What claims a car: the oven, the push number and whether the record is at RAM (R136, R146). -/
structure Claim where
  oven : Nat
  number : Half
  atRam : Bool
deriving DecidableEq, Repr

/-- The claim of a car, read from the push record or the stall record that names it with car claimed set (R136). -/
def PushUnit.claim (p : PushUnit) (c : Car) : Option Claim :=
  match p.push, p.stall with
  | some r, _ => if r.car = c ∧ r.claimed then some ⟨r.oven, r.number, r.stage == .ram⟩ else none
  | none, some r => if r.car = c ∧ r.claimed then some ⟨r.oven, r.number, r.stage == .ram⟩ else none
  | none, none => none

/-! ### Events brought about -/

/-- Events brought about join `due`, in the order listed (log 2). -/
def State.bring (s : State) (cs : List Instr) : State := s.withDue (s.due ++ cs)

/-- Expiries that have come and are not taken join `due`, each as often as it does not stand there already (log 2, log 3). -/
def State.bringOwed (s : State) (cs : List Instr) : State := s.bring (s.due.foldl List.erase cs)

/-- A step of the part: nothing happens while it is held in reset (R210); otherwise the event leaves `due`, if it stood
there, and acts. -/
def State.event (s : State) (c : Instr) (f : State → State) : Host.Outcome State Fault Refusal :=
  .next (if s.pins.inReset then s else f (s.withDue (s.due.erase c)))

/-- A step whose command must be well-formed (log 16). -/
def State.checked (s : State) (c : Instr) (f : State → State) : Host.Outcome State Fault Refusal :=
  if c.wf then s.event c f else .fault .illFormed

/-- What an owner answers to a request: the state after it, the status and the fields after the state byte (R188). -/
structure Answer where
  state : State
  status : Status
  fields : List Byte
deriving DecidableEq, Repr

/-- A refusal changes no state and carries no field (R188). -/
def State.refuse (s : State) (x : Status) : Answer := ⟨s, x, []⟩

/-- A request taken. -/
def State.reply (s : State) (fields : List Byte) : Answer := ⟨s, .ok, fields⟩

end Sys2Proof.Machine
end

