-- ==== Sys2Proof/Machine/Flags.lean ====
section
/-!
DEFINITION. Everything the part shows as flags: the alarm conditions and the ALARM line (R202, R203), the state byte (R189),
S_CTS (R186), and the flags bytes of the query replies.
-/

namespace Sys2Proof.Machine

/-- A subject of ALARM_SUMMARY: kind, number, side (R204). -/
structure Subject where
  kind : Nat
  number : Nat
  side : Nat
deriving DecidableEq, Repr

/-- Kind 1: ESTOP, as the debounced level (R202). -/
def State.estopSubjects (s : State) : List Subject := if s.pins.estop then [⟨1, 0, 0⟩] else []

/-- Kind 2: in-use node table entries with liveness SILENT, in id order (R202). -/
def State.silentSubjects (s : State) : List Subject :=
  Node.all.filterMap fun x =>
    if (s.fl.entry x).inUse && (s.fl.entry x).liveness == .silent then some ⟨2, x.id, 0⟩ else none

/-- Kind 3: the stall record (R202). -/
def State.stallSubjects (s : State) : List Subject :=
  match s.pu.stall with
  | some r => [⟨3, r.oven, 0⟩]
  | none => []

/-- Kinds 4 to 6: one door condition over ovens 1 to N, oven then side (R202, R204). -/
def State.doorSubjects (s : State) (kind : Nat) (p : Door → Bool) : List Subject :=
  s.inUse.flatMap fun x =>
    (if p x.1.doorP then [⟨kind, x.2, 0⟩] else []) ++ (if p x.1.doorC then [⟨kind, x.2, 1⟩] else [])

/-- Kind 7: charge-long over ovens 1 to N (R202). -/
def State.chargeSubjects (s : State) : List Subject :=
  s.inUse.filterMap fun x => if x.1.chargeLong then some ⟨7, x.2, 0⟩ else none

/-- Kinds 8 and 9: a condition of the car records (R202). -/
def State.carSubjects (s : State) (kind : Nat) (p : CarRecord → Bool) : List Subject :=
  allCars.filterMap fun c => if p (s.car c) then some ⟨kind, c.code, 0⟩ else none

/-- The nine kinds, kind 1 first (R202). -/
def State.alarmKinds (s : State) : List (List Subject) :=
  [s.estopSubjects, s.silentSubjects, s.stallSubjects, s.doorSubjects 4 Door.offLong, s.doorSubjects 5 Door.unexpected,
   s.doorSubjects 6 (fun d => d.state == .leaking), s.chargeSubjects, s.carSubjects 8 CarRecord.hotLate,
   s.carSubjects 9 CarRecord.faulted]

/-- The present alarm conditions in R204's order. -/
def State.alarms (s : State) : List Subject := s.alarmKinds.flatten

/-- At least one alarm condition is present (R203). -/
def State.alarmPresent (s : State) : Bool := !s.alarms.isEmpty

/-- The ALARM output: driven low while at least one condition is present (R203); a free value while in reset (log 8). -/
def State.alarmLine (s : State) : Bool := if s.pins.inReset then Config.alarmLineInReset else s.alarmPresent

/-- S_CTS asserted: while the spare buffer is empty, and not in reset (R186, R210). -/
def State.ctsAsserted (s : State) : Bool := !s.pins.inReset && s.sl.spare.isNone

/-- The state byte of every reply (R189). -/
def State.stateByte (s : State) : Byte :=
  byteOf (s.bk.mode.code + 2 * s.su.mode.code + 8 * boolCode s.pins.estop + 16 * boolCode s.alarmPresent +
    32 * boolCode s.sl.noticeLost + 64 * boolCode (!s.sl.notices.isEmpty))

/-- The flags byte of STATUS (R195). -/
def State.statusFlags (s : State) : Byte :=
  byteOf (bits [s.pins.estop, s.alarmPresent, s.pu.push.isSome, s.pu.stall.isSome])

/-- A node's liveness byte in STATUS: bits 0 and 1 the liveness, bit 7 in use (R195). -/
def NodeEntry.livenessByte (e : NodeEntry) : Byte := byteOf (e.liveness.code + 128 * boolCode e.inUse)

/-- The flags byte of QUERY_OVEN (R25). -/
def Oven.flags (o : Oven) (excluded : Bool) : Byte :=
  byteOf (bits [o.late, o.chargeLong, o.stickerPending, o.planPending, o.trimInhibit, excluded])

/-- The flags byte of one door in QUERY_DOORS (R106). -/
def Door.flags (d : Door) : Byte := byteOf (bits [d.unexpected, d.offLong, d.permit])

/-- The trace byte of QUERY_PRESSURE (R126, R134). -/
def Trace.byte (t : Trace) : Byte := byteOf (bits [t.leakBias, t.floorRaised, t.clampActed, t.stepLimited])

/-- The flags byte of QUERY_PRESSURE's oven form (R134). -/
def Valve.flags (v : Valve) (live : Bool) : Byte := byteOf (bits [v.manualFlag, v.aspiration, v.capOpen, live])

/-- The flags byte of QUERY_PUSH (R83). -/
def PushRecord.flags (r : PushRecord) : Byte := byteOf (bits [r.forwardSeen, r.emptyCar, r.doorFault, r.latchSent])

/-- The flags byte of one car in QUERY_QUENCH (R164). -/
def CarRecord.flags (r : CarRecord) (waiting claimed : Bool) : Byte :=
  byteOf (bits [r.inService, waiting, r.hotLate, r.faulted, claimed, r.load.isSome])

end Sys2Proof.Machine
end

