-- ==== Sys2Proof/Machine/Service.lean ====
section
/-!
DEFINITION. How a host request is taken and answered: the reply with its status and state byte (R188, R189), placing a good
frame (R186), and the tag reserved for notices (R187).
-/

namespace Sys2Proof.Machine

/-- A reply's kind: the request's plus 0x80, or 0xFF for a kind of 0x80 or above, which names no request (R188). -/
def replyKind (kind : Byte) : Byte := if kind.msb then 0xFF else kind + 0x80

/-- The reply to a request: status, state byte, fields (R188). The state byte is the part's as the reply is formed, after
the request's own effects (R189). -/
def replyFrame (f : Frame) (a : Answer) : Frame :=
  ⟨replyKind f.kind, f.tag, a.status.code :: a.state.stateByte :: a.fields⟩

/-- The reply is formed: it takes the reply slot, notice-lost is cleared, and the transmitter, if free, begins it
(R192, R193). -/
def SupLink.answer (l : SupLink) (reply : Frame) : SupLink :=
  SupLink.choose { l with replySlot := some reply, noticeLost := false }

/-- A request taken into service, acted on by its owner and answered (R186 to R188). -/
def serve (f : Frame) (owner : State → Answer) (s : State) : State :=
  let a := owner (s.withSl { s.sl with inService := some f })
  a.state.withSl (a.state.sl.answer (replyFrame f a))

/-- A taken frame: tag 0 is discarded without a reply (R187), any other is served. -/
def takeRequest (f : Frame) (owner : State → Answer) (s : State) : State :=
  if f.tag = 0 then s.withSl { s.sl with discards := bump s.sl.discards } else serve f owner s

/-- A good frame: taken at once with no request in service and the spare buffer empty, placed in the spare buffer behind a
request in service, discarded as an overrun with the spare buffer full (R186). -/
def acceptFrame (f : Frame) (owner : State → Answer) (s : State) : State :=
  match s.sl.spare, s.sl.inService with
  | none, none => takeRequest f owner s
  | none, some _ => s.withSl { s.sl with spare := some f }
  | some _, _ => s.withSl { s.sl with overruns := bump s.sl.overruns }

/-- A host request of the table: its frame, complete and good, reaches SL (log 4). -/
def hostRequest (c : Instr) (owner : State → Answer) (s : State) : Host.Outcome State Fault Refusal :=
  match encodeRequest c with
  | some f => s.checked c (acceptFrame f owner)
  | none => .fault .illFormed

end Sys2Proof.Machine
end

