-- ==== Sys2Proof/Machine/Valves.lean ====
section
/-!
DEFINITION. PR's shared operations (chapter 5): the valve mode evaluation and its entry commands (R111 to R113), the main mode
(R130), and the setpoint and loop computations (R122 to R127).
-/

namespace Sys2Proof.Machine

/-- At a sample a node counts as silent until its return has been taken at PR (R118, R133; log 10). -/
def State.hears (s : State) (x : Node) (back : Instr) : Bool := s.live x && !(s.due.contains back)

/-- The oven node serving oven n at a sample of that oven (R118). -/
def State.hearsOven (s : State) (n : Nat) : Bool := s.hears (servingNode n) (.ovenNodeReturn (nodeNumber n))

/-- The main node at a main sample (R133). -/
def State.hearsMain (s : State) : Bool := s.hears .main .mainNodeReturn

/-- The push record names oven n at ISOLATE or later (R111, condition 1). -/
def State.pastSpot (s : State) (n : Nat) : Bool :=
  match s.pu.push with
  | some r => r.oven == n && r.stage != .spot
  | none => false

/-- A door is OFF with its unexpected flag set (R111, condition 6). -/
def Door.offUnexpected (d : Door) : Bool := d.state == .off && d.unexpected

/-- R111's table, with the oven node's liveness as `heard` gives it: the first condition that holds gives the mode. -/
def State.valveModeBy (s : State) (heard : Bool) (n : Nat) : ValveMode :=
  let o := s.oven n
  if o.phase = .stalled ∨ (o.phase = .pushing ∧ s.pastSpot n) then .closed
  else if o.valve.manualFlag then .manual
  else if s.bk.mode = .config then .hold
  else if o.phase = .empty then .closed
  else if o.phase = .charging then .aspirate
  else if o.doorP.offUnexpected || o.doorC.offUnexpected then .aspirate
  else if !heard || o.valve.lastPressure.isNone then .hold
  else .auto

/-- The valve mode evaluation, on FL's node table as it stands (R111, R177). -/
def State.valveMode (s : State) (n : Nat) : ValveMode := s.valveModeBy (s.live (servingNode n)) n

/-- A command for an oven goes to the node serving it (R174). -/
def toOven (n : Nat) (c : FieldCommand) : Outgoing := ⟨servingNode n, c⟩

/-- ASPIRATION n off, if aspiration is on (R113). -/
def endAspiration (n : Nat) (v : Valve) : List Outgoing := if v.aspiration then [toOven n (.aspiration n false)] else []

/-- Entry to a mode: the fields and the commands (R113). -/
def enterMode (n : Nat) (m : ValveMode) (v : Valve) : Valve × List Outgoing :=
  match m with
  | .closed =>
    ({ v with mode := .closed, command := 0, aspiration := false }, toOven n (.valve n 0) :: endAspiration n v)
  | .aspirate =>
    ({ v with mode := .aspirate, command := 1023, aspiration := true },
     [toOven n (.valve n 1023), toOven n (.aspiration n true)])
  | .manual =>
    ({ v with mode := .manual, command := v.manualPosition, aspiration := false },
     toOven n (.valve n v.manualPosition) :: endAspiration n v)
  | .auto => ({ v with mode := .auto, aspiration := false }, endAspiration n v)
  | .hold => ({ v with mode := .hold }, [])

/-- The valve and the commands after an evaluation that gives mode m: the mode already in force changes nothing and sends
nothing (R112). -/
def turnTo (n : Nat) (m : ValveMode) (v : Valve) : Valve × List Outgoing := if m = v.mode then (v, []) else enterMode n m v

/-- Write the valve of oven n and issue its commands. -/
def State.applyValve (s : State) (n : Nat) (r : Valve × List Outgoing) : State :=
  (s.setOven n ((s.oven n).setValve r.1)).issueAll r.2

/-- PR evaluates the valve mode of oven n (R112). -/
def State.evalValve (s : State) (n : Nat) : State := s.applyValve n (turnTo n (s.valveMode n) (s.oven n).valve)

/-- PR evaluates the valve mode of oven n with its node counted as silent (R118). -/
def State.evalSilent (s : State) (n : Nat) : State := s.applyValve n (turnTo n (s.valveModeBy false n) (s.oven n).valve)

/-- PR evaluates the valve mode of each of the ovens listed. -/
def State.evalValves (s : State) (ns : List Nat) : State := ns.foldl State.evalValve s

/-- The ovens 1 to N that node 16 + m serves: 8m + 1 to 8m + 8 (R171). -/
def State.served (s : State) (m : Fin 12) : List Nat :=
  ((List.range 8).map (fun k => 8 * m.val + 1 + k)).filter (fun n => n ≤ s.ovenCount)

/-! ### The main mode -/

/-- R130's table, with the main node's liveness as `heard` gives it. -/
def State.mainModeBy (s : State) (heard : Bool) : ValveMode :=
  if s.pr.main.manualFlag then .manual
  else if s.bk.mode = .config ∨ !heard ∨ s.pr.main.pressure.isNone then .hold
  else .auto

/-- The main mode evaluation, on FL's node table as it stands (R130, R177). -/
def State.mainMode (s : State) : ValveMode := s.mainModeBy (s.live .main)

/-- Write the main record. -/
def State.withMain (s : State) (m : MainRecord) : State := s.withPr { s.pr with main := m }

/-- The main goes to MANUAL: VALVE with the manual position, which the command takes (R130, R132). -/
def State.sendMainManual (s : State) : State :=
  (s.withMain { s.pr.main with mode := .manual, command := s.pr.main.manualPosition }).issue .main
    (.mainValve s.pr.main.manualPosition)

/-- The main after an evaluation that gives mode m: the mode in force sends nothing; entry to MANUAL sends the manual position;
entry to HOLD or AUTO sends nothing (R130). -/
def State.turnMain (s : State) (m : ValveMode) : State :=
  if m = s.pr.main.mode then s
  else if m = .manual then s.sendMainManual
  else s.withMain { s.pr.main with mode := m }

/-- The main floor is restored or withdrawn (R180). -/
def State.setFloor (s : State) (on : Bool) : State := s.withPr { s.pr with floorOn := on }

/-- PR evaluates the main mode (R130). -/
def State.evalMain (s : State) : State := s.turnMain s.mainMode

/-! ### Setpoint (section 5.5) -/

/-- The index u (R122). -/
def profileIndex (o : Oven) : Nat := min (o.progress + o.profileOffset * 65536) Config.fullProgress

/-- The base setpoint from the active profile (R122, R123). -/
def baseSetpoint (profile : List Int) (u : Nat) : Int :=
  let k := u / 1048576
  let f := u / 4096 % 256
  if k = 16 then profile.getD 16 0
  else
    let d := (profile.getD (k + 1) 0 - profile.getD k 0) * (f : Int)
    profile.getD k 0 + roundShift d 8

/-- A door of the oven is LEAKING (R124). -/
def Oven.leaking (o : Oven) : Bool := o.doorP.state == .leaking || o.doorC.state == .leaking

/-- The main floor m + main margin, while the floor stands and m is valid (R125). A sample taken before the main node's silence has
the floor with the last m, one taken after it none (R135), and the floor is applied again after the return (R133). -/
def State.mainFloor (s : State) : Option Int :=
  if s.pr.floorOn then s.pr.main.pressure.map (fun m => m + (s.pr.margin : Int)) else none

/-- The setpoint and its three trace indications (R122 to R126). -/
def State.setpoint (s : State) (o : Oven) : Int × Bool × Bool × Bool :=
  let base := baseSetpoint s.pr.active (profileIndex o)
  let biased := if o.leaking then base - (s.pr.leakBias : Int) else base
  let floored := match s.mainFloor with
    | some f => max biased f
    | none => biased
  let clamped := clampInt (-500) 500 floored
  (clamped, o.leaking, decide (floored ≠ biased), decide (clamped ≠ floored))

/-! ### The valve loop (section 5.6) -/

/-- The step before its limit: the rounded shift of e × Kn (R127, steps 1 to 3). -/
def rawStep (p setpoint : Int) (gain shift : Nat) : Int := roundShift ((p - setpoint) * (gain : Int)) shift

/-- The step clamped to the step limit (R127, step 4). -/
def limitStep (limit : Nat) (d : Int) : Int := clampInt (-(limit : Int)) (limit : Int) d

/-- A valve command stepped and clamped to 0..1023 (R127, step 5). -/
def stepCommand (command : Nat) (d : Int) : Nat := (clampInt 0 1023 ((command : Int) + d)).toNat

/-- One computation of the oven loop on sample p: setpoint, trace, step and command (R126, R127). -/
def State.loopValve (s : State) (o : Oven) (p : Int) : Valve :=
  let sp := s.setpoint o
  let raw := rawStep p sp.1 s.pr.gain s.pr.shift
  let d := limitStep s.pr.stepLimit raw
  { o.valve with
    setpoint := sp.1
    trace := ⟨sp.2.1, sp.2.2.1, sp.2.2.2, decide (d ≠ raw)⟩
    command := stepCommand o.valve.command d
    lastStep := d }

end Sys2Proof.Machine
end

