-- ==== Sys2Proof/Machine/Cars.lean ====
section
/-!
DEFINITION. QU's shared operations (chapter 6): moves under ESTOP# (R157, R161), car selection (R142), claim, release and
dispatch (R144, R147, R148), the tower arbiter (R150) and the bays (R152, R156).
-/

namespace Sys2Proof.Machine

/-- A car's command goes to the car's node (R174). -/
def toCar (c : Car) (x : FieldCommand) : Outgoing := ⟨.car c, x⟩

/-- A move of car c: the target is set; MOVE is sent and the travel timer loaded, unless ESTOP# is asserted, when the move is
held (R157, R161). A move the car is still making then, the assertion not yet taken at QU, is ended by HALT as at the assertion
(log 36). `r` is the car's record as its rule leaves it. -/
def State.moveCar (s : State) (c : Car) (l : Location) (r : CarRecord) : State :=
  if s.pins.estop then
    (s.setCar c { r with target := some l, travelTimer := none }).issueAll (if r.travelTimer.isSome then [toCar c .halt] else [])
  else (s.setCar c { r with target := some l, travelTimer := some s.qu.limits.travel }).issue (.car c) (.move l)

/-! ### Zones and car selection (R142) -/

/-- The zone of oven n: the smaller of 7 and (n - 1) shifted right by z (R142). -/
def zoneOf (z n : Nat) : Nat := min 7 ((n - 1) / 2 ^ z)

/-- A car is available when it is in service and PARKED (R142). -/
def State.available (s : State) (c : Car) : Bool := (s.car c).state == .parked

/-- The car QU offers for oven n: the preferred car of the zone, else its alternate, else none (R142). -/
def State.offerCar (s : State) (n : Nat) : Option Car :=
  let z := s.qu.zones.getD (zoneOf s.qu.zoneShift n) ⟨.one, none⟩
  if s.available z.preferred then some z.preferred
  else match z.alternate with
    | some c => if s.available c then some c else none
    | none => none

/-! ### Claim and release (R144, R147) -/

/-- QU claims the chosen car at push start: TO_SPOT, target the pushed oven, MOVE n (R144). -/
def State.claimCar (s : State) (c : Car) (n : Nat) : State :=
  s.moveCar c (.oven n) { s.car c with state := .toSpot }

/-- Release of a claimed car: its move is cleared, with HALT if its travel timer was running; TO_SPOT and SPOTTED become
PARKED; FAULTED stays (R147). The car's claim still stands in its record here, so R48 runs no evaluation (log 13). -/
def State.releaseCar (s : State) (c : Car) : State :=
  let r := s.car c
  let halt := r.target.isSome && r.travelTimer.isSome
  let r1 := if r.target.isSome then { r with target := none, travelTimer := none } else r
  let r2 := if r.state = .toSpot ∨ r.state = .spotted then { r1 with state := .parked } else r1
  (s.setCar c r2).issueAll (if halt then [toCar c .halt] else [])

/-! ### The tower arbiter (R148 to R150) -/

/-- The age of a car's load: the battery seconds since its load second, modulo 2^32 (R150; log 14). -/
def State.loadAge (s : State) (c : Car) : Nat :=
  match (s.car c).load with
  | some l => (s.bk.seconds - l.second).toNat
  | none => 0

/-- Car a stands before car b in the waiter list: the older load, and car 1 of two equal ones (R150). -/
def State.waitsBefore (s : State) (a b : Car) : Bool :=
  decide (s.loadAge b < s.loadAge a) || (s.loadAge a == s.loadAge b && a == .one)

/-- The waiter list with car c joined, in order of load second, oldest first (R150). -/
def State.joinWaiters (s : State) (c : Car) : List Car → List Car
  | [] => [c]
  | w :: rest => if s.waitsBefore c w then c :: w :: rest else w :: s.joinWaiters c rest

/-- The tower grant goes to car c: target TOWER, the timer afresh, TO_TOWER (R148, R150). -/
def State.grantTower (s : State) (c : Car) : State :=
  State.moveCar (s.withQu { s.qu with holder := some c }) c .tower { s.car c with state := .toTower }

/-- Dispatch of a loaded car: the grant if there is no holder and no waiter, else the waiter list and a move to the tower
approach (R148). -/
def State.dispatchCar (s : State) (c : Car) : State :=
  if s.qu.holder = none ∧ s.qu.waiters = [] then s.grantTower c
  else
    State.moveCar (s.withQu { s.qu with waiters := s.joinWaiters c s.qu.waiters }) c .approachT
      { s.car c with state := .toTower }

/-- The grant is released and handed on at once to the first waiter, if there is one (R150). -/
def State.releaseTower (s : State) : State :=
  match s.qu.waiters with
  | [] => s.withQu { s.qu with holder := none }
  | w :: rest => State.grantTower (s.withQu { s.qu with waiters := rest }) w

/-- Car c awaits spray: TO_TOWER, holding the grant, its move to the tower ended (R149; log 15). -/
def State.awaitsSpray (s : State) (c : Car) : Bool :=
  s.qu.holder == some c && (s.car c).state == .toTower && (s.car c).target == none

/-! ### The bays (R152, R154, R156) -/

/-- Bay b is reserved for car c, which moves to it (R152, R156). -/
def State.reserveBay (s : State) (b : Nat) (c : Car) : State :=
  State.moveCar (s.withQu (s.qu.setBay b ⟨.reserved, some c, none⟩)) c (.bay b)
    { s.car c with state := .toWharf, reservedBay := some b }

/-- A bay becomes FREE and is handed on at once to the first car of the bay waiting list (R156). -/
def State.freeBay (s : State) (b : Nat) : State :=
  match s.qu.bayWaiters with
  | [] => s.withQu (s.qu.setBay b ⟨.free, none, none⟩)
  | w :: rest => State.reserveBay (s.withQu { s.qu with bayWaiters := rest }) b w

/-- The lowest-numbered FREE bay (R152). -/
def QuenchUnit.firstFree (q : QuenchUnit) : Option Nat := allBays.find? (fun b => (q.bay b).state == .free)

/-- A bay becomes OCCUPIED: no reserving car, its hold timer loaded (R141, R155). -/
def QuenchUnit.occupy (q : QuenchUnit) (b : Nat) : QuenchUnit := q.setBay b ⟨.occupied, none, some q.limits.bayHold⟩

end Sys2Proof.Machine
end

