-- ==== Sys2Proof/Machine/Series.lean ====
section
/-!
DEFINITION. SU's shared operations (chapter 2): the permutation and its cursor (R29, R30), exclusion (R38, R41), the neighbour
rule (R47), the candidate lists (R43 to R46) and the schedule mode (R33, R36).
-/

namespace Sys2Proof.Machine

/-! ### The series (R29, R30) -/

/-- The ovens of one pass: from its start in steps of k while within 1..N (R29). -/
def passOvens (n step start : Nat) : List Nat :=
  ((List.range n).map (· + 1)).filter (fun x => decide (start ≤ x) && (x - start) % step == 0)

/-- The permutation of the ovens 1 to N built from k and j (R29). -/
def permutation (n step offset : Nat) : List Nat :=
  (List.range step).flatMap (fun p => passOvens n step (1 + p * offset % step))

/-- A series is valid for N when gcd(j, k) = 1 and k ≤ N (R29). -/
def seriesValid (n step offset : Nat) : Bool := Nat.gcd offset step == 1 && decide (step ≤ n)

/-- The permutation under the stored series and the current N. -/
def State.permutation (s : State) : List Nat := Sys2Proof.Machine.permutation s.ovenCount s.su.step s.su.offset

/-- The oven at a cursor position (R30). -/
def State.ovenAt (s : State) (pos : Nat) : Nat := s.permutation.getD pos 0

/-- The position of oven n: the ovens of the passes before its own, plus those of its own pass below it (R30). -/
def positionOf (n step offset x : Nat) : Nat := (Sys2Proof.Machine.permutation n step offset).idxOf x

/-- The position after pos: after N - 1 comes 0 (R30). -/
def State.nextPosition (s : State) (pos : Nat) : Nat := if pos + 1 < s.ovenCount then pos + 1 else 0

/-! ### Exclusion (R38, R41) -/

/-- Ovens per bit (R38). -/
def ScheduleUnit.perBit (u : ScheduleUnit) : Nat := 2 ^ u.granularity

/-- The excluded state of oven n, computed afresh (R2, R38). -/
def State.excluded (s : State) (n : Nat) : Bool :=
  s.inRange n && decide (s.su.exclusionStart ≤ n) && decide (n < s.su.exclusionStart + 64 * s.su.perBit) &&
    s.su.exclusion.getLsbD ((n - s.su.exclusionStart) / s.su.perBit)

/-- Excluded ovens leave both lists; the others keep their order (R41). -/
def State.dropExcluded (s : State) : State :=
  s.withSu { s.su with
    outOfTurn := s.su.outOfTurn.filter (fun n => !s.excluded n)
    deferred := s.su.deferred.filter (fun n => !s.excluded n) }

/-- The entries of both lists together. -/
def ScheduleUnit.listed (u : ScheduleUnit) : Nat := u.outOfTurn.length + u.deferred.length

/-! ### The neighbour rule (R47) -/

/-- A neighbour braces: COKING, SOAKING or READY, or excluded (R47). -/
def State.braces (s : State) (m : Nat) : Bool :=
  decide ((s.oven m).phase = .coking ∨ (s.oven m).phase = .soaking ∨ (s.oven m).phase = .ready) || s.excluded m

/-- The existing neighbours of oven n, the lower-numbered first (00 Conventions). -/
def State.neighbours (s : State) (n : Nat) : List Nat := [n - 1, n + 1].filter s.inRange

/-- The neighbours that fail the rule, the lower-numbered first. -/
def State.failing (s : State) (n : Nat) : List Nat := (s.neighbours n).filter (fun m => !s.braces m)

/-- Oven n passes the neighbour rule (R47). -/
def State.braced (s : State) (n : Nat) : Bool := (s.failing n).isEmpty

/-- An oven 1..N that is READY and passes the neighbour rule (R49, R50). -/
def State.pushable (s : State) (n : Nat) : Bool := s.inRange n && (s.oven n).phase == .ready && s.braced n

/-! ### The lists -/

/-- Oven n leaves whichever list holds it (R45, R46). -/
def ScheduleUnit.unlist (u : ScheduleUnit) (n : Nat) : ScheduleUnit :=
  { u with outOfTurn := u.outOfTurn.erase n, deferred := u.deferred.erase n }

/-! ### The schedule mode -/

/-- The pacer accumulator and the slot flag are cleared (R33), and with them a slot carry not taken yet (R52; log 3). -/
def ScheduleUnit.clearPacer (u : ScheduleUnit) : ScheduleUnit :=
  { u with accumulator := 0, carriesDue := 0, slotFlag := false }

/-- The schedule mode becomes m; leaving AUTO clears the pacer (R33). -/
def ScheduleUnit.turnTo (u : ScheduleUnit) (m : ScheduleMode) : ScheduleUnit :=
  if u.mode = .auto ∧ m ≠ .auto then { u.clearPacer with mode := m } else { u with mode := m }

/-- An event in RUN moves the schedule to PAUSED, with the notice's cause and node id; a schedule already PAUSED is left
without a notice (R36). -/
def State.pauseSchedule (s : State) (cause node : Nat) : State :=
  if s.running && s.su.mode != .paused then (s.withSu (s.su.turnTo .paused)).raise (.schedulePaused cause node) else s

end Sys2Proof.Machine
end

