-- ==== Sys2Proof/Machine/PushOps.lean ====
section
/-!
DEFINITION. PU's shared operations (chapter 3): push start (R59), candidate evaluation (R48 to R51), stage entry and completion
(R61 to R69), aborts (R70 to R75) and the stall (R76).
-/

namespace Sys2Proof.Machine

/-! ### The record -/

/-- Write the push record. -/
def State.setPush (s : State) (r : Option PushRecord) : State := s.withPu { s.pu with push := r }

/-- The limit a stage's timer is loaded with; RETREAT takes the DOORS_ON limit (R61, R84). -/
def PushLimits.of (l : PushLimits) : Stage → Nat
  | .spot => l.spot
  | .isolate => l.isolate
  | .doorsOff => l.doorsOff
  | .ram => l.ram
  | .doorsOn => l.doorsOn
  | .retreat => l.doorsOn

/-- The record in a stage just entered: stage, stage entered, timer (R61). -/
def State.inStage (s : State) (r : PushRecord) (x : Stage) : PushRecord :=
  { r with stage := x, entered := s.bk.seconds, timer := s.pu.limits.of x }

/-- The same command to the pusher and to the guide. -/
def toBoth (c : FieldCommand) : List Outgoing := [⟨.pusher, c⟩, ⟨.guide, c⟩]

/-! ### Push start (R59) -/

/-- SU's part in a push start: the oven leaves its list, SERIES advances the cursor, every origin but MANUAL clears the slot
flag (R51, R59). -/
def State.trimSchedule (s : State) (n : Nat) (o : Origin) : State :=
  let u := s.su.unlist n
  s.withSu { u with
    cursor := if o = .series then s.nextPosition u.cursor else u.cursor
    slotFlag := if o = .manual then u.slotFlag else false }

/-- The push record at push start (R55, R59). -/
def State.newPush (s : State) (n : Nat) (o : Origin) (c : Car) : PushRecord :=
  { number := s.pu.counter + 1, oven := n, origin := o, car := c, claimed := true, stage := .spot,
    entered := s.bk.seconds, timer := s.pu.limits.spot, latchSent := false, forwardSeen := false, peakForce := 0,
    emptyCar := false, doorFault := false, abortCause := none }

/-- A push of oven n starts, with its origin and car: the steps of R59 in order. -/
def State.startPush (s : State) (n : Nat) (o : Origin) (c : Car) : State :=
  let r := s.newPush n o c
  let s1 := s.withPu { s.pu with counter := s.pu.counter + 1, push := some r }
  let s2 := (s1.setOven n { s1.oven n with phase := .pushing, late := false }).evalValve n
  let s3 := (s2.trimSchedule n o).claimCar c n
  (s3.issueAll (toBoth (.travel n))).raise (.pushStarted r.number n o c)

/-! ### Candidate evaluation (R48 to R51) -/

/-- The conditions under which an event runs an evaluation (R48). -/
def State.mayEvaluate (s : State) : Bool :=
  s.running && s.su.mode == .auto && s.su.slotFlag && s.pu.push.isNone && s.pu.stall.isNone && !s.pins.estop

/-- Step 1: the out-of-turn head, READY and passing the neighbour rule (R49). -/
def State.headCandidate (s : State) : Option Nat := s.su.outOfTurn.head?.filter s.pushable

/-- Step 2: the first deferred entry that is READY and passes the neighbour rule (R49). -/
def State.deferredCandidate (s : State) : Option Nat := s.su.deferred.find? s.pushable

/-- The cursor after passing over excluded ovens, for at most `fuel` advances (R50). -/
def State.skipExcluded (s : State) : Nat → Nat → Nat
  | 0, pos => pos
  | fuel + 1, pos => if s.excluded (s.ovenAt pos) then s.skipExcluded fuel (s.nextPosition pos) else pos

/-- A candidate is offered to QU; with a car the push starts, without one nothing changes (R51). -/
def State.tryPush (s : State) (n : Nat) (o : Origin) : State :=
  match s.offerCar n with
  | some c => s.startPush n o c
  | none => s

/-- The cursor oven is COKING, SOAKING or READY and not pushable: deferred where it is in neither list and there is room; the
cursor stays where there is none (R50's table). -/
def State.passOver (s : State) (n : Nat) : State :=
  if n ∈ s.su.outOfTurn ∨ n ∈ s.su.deferred then s.withSu { s.su with cursor := s.nextPosition s.su.cursor }
  else if s.su.deferred.length < Config.deferredRoom then
    s.withSu { s.su with cursor := s.nextPosition s.su.cursor, deferred := s.su.deferred ++ [n] }
  else s

/-- Step 3 at the cursor oven n, the excluded ovens passed over (R50's table). An oven PUSHING or STALLED is never judged: no
evaluation runs while a push or a stall exists (R48). A valid series puts an oven 1..N at every position (R29). -/
def State.judgeCursor (s : State) (n : Nat) : State :=
  if !s.inRange n || s.excluded n then s
  else if s.pushable n then s.tryPush n .series
  else match (s.oven n).phase with
    | .empty => s.withSu { s.su with cursor := s.nextPosition s.su.cursor }
    | .charging => s.withSu { s.su with cursor := s.nextPosition s.su.cursor }
    | .coking => s.passOver n
    | .soaking => s.passOver n
    | .ready => s.passOver n
    | .pushing => s
    | .stalled => s

/-- Step 3: the series cursor (R50). -/
def State.trySeries (s : State) : State :=
  let s1 := s.withSu { s.su with cursor := s.skipExcluded s.ovenCount s.su.cursor }
  s1.judgeCursor (s1.ovenAt s1.su.cursor)

/-- Candidate evaluation: the steps in order, stopping at the first that yields a candidate (R48 to R51). -/
def State.evaluate (s : State) : State :=
  if s.mayEvaluate then
    match s.headCandidate with
    | some n => s.tryPush n .outOfTurn
    | none =>
      match s.deferredCandidate with
      | some n => s.tryPush n .deferred
      | none => s.trySeries
  else s

/-! ### Stages (R61 to R69) -/

/-- ISOLATE is entered: the valve closes by its evaluation, and CAP n open is sent (R63). -/
def State.enterIsolate (s : State) (r : PushRecord) : State :=
  ((s.setPush (some (s.inStage r .isolate))).evalValve r.oven).issueAll [toOven r.oven (.cap r.oven true)]

/-- The three conditions of SPOT (R62). -/
def State.spotComplete (s : State) (r : PushRecord) : Bool :=
  s.pu.pusher.position == r.oven && s.pu.guide.position == r.oven && s.pu.guide.latched && r.claimed &&
    (s.car r.car).state == .spotted && (s.car r.car).position == .oven r.oven

/-- An event of SPOT: the stage completes if its three conditions hold together (R62). -/
def State.judgeSpot (s : State) : State :=
  match s.pu.push with
  | some r => if r.stage = .spot ∧ s.spotComplete r then s.enterIsolate r else s
  | none => s

/-- The abort is a machine's silence, which is also SU's (R36, R81). -/
def AbortCause.bySilence : AbortCause → Bool
  | .pusherSilent => true
  | .guideSilent => true
  | .timeout => false
  | .host => false
  | .estop => false
  | .car => false
  | .recheck => false

/-- The valve input after a record's end: PR evaluates, then SU has its evaluation event (R48, R112; log 13). A push that a
machine's silence ends has none: the silence, which came first, pauses AUTO (R36, R52; log 39). -/
def State.endPush (s : State) (n : Nat) (silent : Bool) : State :=
  let s1 := (s.setPush none).evalValve n
  if silent then s1 else s1.evaluate

/-- Completion into EMPTY (R69): phase and progress, last push number, CAP close, PUSH_DONE, record removed. -/
def State.completePush (s : State) (r : PushRecord) (silent : Bool) : State :=
  let s1 := s.setOven r.oven { s.oven r.oven with phase := .empty, progress := 0, lastPushNumber := r.number }
  let s2 := s1.issueAll [toOven r.oven (.cap r.oven false)]
  (s2.raise (.pushDone r.number r.oven r.car r.peakForce r.emptyCar r.doorFault)).endPush r.oven silent

/-- The oven returns to READY with PUSH_ABORTED; the record is removed (R71, R73). -/
def State.returnReady (s : State) (r : PushRecord) (stage : Stage) (cause : AbortCause) (silent : Bool) : State :=
  ((s.setPhase r.oven .ready).raise (.pushAborted r.number r.oven stage cause)).endPush r.oven silent

/-- QU releases the claimed car, if the record still claims one (R71, R73). -/
def State.releaseClaimed (s : State) (r : PushRecord) : State := if r.claimed then s.releaseCar r.car else s

/-- An abort in SPOT or ISOLATE undoes the push (R71). -/
def State.undoPush (s : State) (r : PushRecord) (cause : AbortCause) : State :=
  let s1 := s.issueAll (toBoth .halt ++ [toOven r.oven (.cap r.oven false)])
  (s1.releaseClaimed r).returnReady r r.stage cause cause.bySilence

/-- RETREAT is entered with the cause; a car's own fault detaches it (R72). -/
def State.enterRetreat (s : State) (r : PushRecord) (cause : AbortCause) : State :=
  let r1 := { r with abortCause := some cause, claimed := r.claimed && cause != .car }
  (s.issueAll (toBoth .replace)).setPush (some (s.inStage r1 .retreat))

/-- The push record becomes the stall record (R76). -/
def State.makeStall (s : State) (r : PushRecord) (cause : AbortCause) (first : Option AbortCause) : State :=
  let x : StallRecord :=
    { oven := r.oven, number := r.number, origin := r.origin, car := r.car, claimed := r.claimed, stage := r.stage,
      cause := cause, firstCause := first, peakForce := r.peakForce, second := s.bk.seconds }
  let s1 := s.withPu { s.pu with push := none, stall := some x }
  let s2 := (s1.setPhase r.oven .stalled).evalValve r.oven
  (s2.raise (.stalled r.number r.oven r.stage cause first)).pauseSchedule 2 0

/-- An abort in DOORS_ON completes the push with a door fault (R75). -/
def State.abortDoorsOn (s : State) (r : PushRecord) (cause : AbortCause) : State :=
  (s.issueAll (toBoth .halt)).completePush { r with doorFault := true } cause.bySilence

/-- A second failure in RETREAT: stall, with HALT for ESTOP; a faulted car is detached and RETREAT goes on (R73, R79). -/
def State.abortRetreat (s : State) (r : PushRecord) (cause : AbortCause) : State :=
  match cause with
  | .car => s.setPush (some { r with claimed := false })
  | .estop => (s.issueAll (toBoth .halt)).makeStall r .estop r.abortCause
  | c => s.makeStall r c r.abortCause

/-- The push aborts with a cause, as its stage requires (R70 to R75, R79). -/
def State.abortPush (s : State) (cause : AbortCause) : State :=
  match s.pu.push with
  | none => s
  | some r =>
    match r.stage with
    | .spot => s.undoPush r cause
    | .isolate => s.undoPush r cause
    | .doorsOff =>
      if cause = .estop then (s.issueAll (toBoth .halt)).makeStall r .estop none else s.enterRetreat r cause
    | .ram => (s.issueAll [⟨.pusher, .ramHalt⟩, ⟨.guide, .halt⟩]).makeStall r cause none
    | .doorsOn => s.abortDoorsOn r cause
    | .retreat => s.abortRetreat r cause

/-- RETREAT completes (R73). -/
def State.completeRetreat (s : State) (r : PushRecord) : State :=
  let s1 := s.issueAll [toOven r.oven (.cap r.oven false)]
  (s1.releaseClaimed r).returnReady r .doorsOff (r.abortCause.getD .timeout) false

/-- The RAM entry re-check (R65). It reads the level of ESTOP#, which is set before the assertion is taken at PU: a third order
that R82's table does not name (log 34). -/
def State.recheck (s : State) (r : PushRecord) : Bool :=
  s.pu.guide.latched && s.pu.pusher.holding && s.pu.guide.holding && r.claimed && (s.car r.car).state == .spotted &&
    (s.car r.car).position == .oven r.oven && !s.pins.estop

/-- DOORS_OFF completes: RAM is entered, or the push retreats with cause RECHECK (R64, R65). -/
def State.completeDoorsOff (s : State) (r : PushRecord) : State :=
  if s.recheck r then
    (s.issueAll [⟨.pusher, .ramForward⟩]).setPush
      (some (s.inStage { r with forwardSeen := false, peakForce := 0 } .ram))
  else s.enterRetreat r .recheck

/-- The stroke is judged: above the sticker threshold it is a hard push (R67). -/
def State.judgeStroke (s : State) (r : PushRecord) : State :=
  if s.pu.limits.sticker < r.peakForce then
    let o := s.oven r.oven
    (s.setOven r.oven { o with hardPushCount := min 255 (o.hardPushCount + 1), stickerPending := true }).raise
      (.hardPush r.oven r.number r.peakForce)
  else s

/-- The car is handed over: dispatched if LOADED, else released empty; car claimed is cleared (R68). -/
def State.handOver (s : State) (r : PushRecord) : State :=
  if (s.car r.car).state = .loaded then (s.setPush (some { r with claimed := false })).dispatchCar r.car
  else (s.setPush (some { r with claimed := false, emptyCar := true })).releaseCar r.car

/-- RAM completes: stroke, car, DOORS_ON, REPLACE (R67, R68). -/
def State.completeRam (s : State) (r : PushRecord) : State :=
  let s1 := (s.judgeStroke r).handOver r
  match s1.pu.push with
  | some r1 => (s1.setPush (some (s1.inStage r1 .doorsOn))).issueAll (toBoth .replace)
  | none => s1

/-! ### Car faults (R159) -/

/-- A car leaves the waiter list and the bay waiting list. -/
def QuenchUnit.unlist (q : QuenchUnit) (c : Car) : QuenchUnit :=
  { q with waiters := q.waiters.erase c, bayWaiters := q.bayWaiters.erase c }

/-- The commands of entry to FAULTED: HALT if the travel timer was running with a target, SPRAY off if QUENCHING (R159). -/
def faultCommands (c : Car) (r : CarRecord) : List Outgoing :=
  (if r.target.isSome && r.travelTimer.isSome then [toCar c .halt] else []) ++
    (if r.state = .quenching then [⟨.tower, .spray false⟩] else [])

/-- Entry to FAULTED at QU: the steps 1 to 5 of R159. -/
def State.enterFaulted (s : State) (c : Car) (cause : FaultCause) : State :=
  let r := s.car c
  let r1 := { r with
    state := .faulted, lastFault := some cause, target := none, travelTimer := none, quenchTimer := none,
    drainTimer := none, dumpTimer := none }
  let s1 := (s.withQu ((s.qu.setCar c r1).unlist c)).issueAll (faultCommands c r)
  s1.raise (.carFault c cause r.fault r.state)

/-- The push record claims car c (R159, step 6). -/
def State.pushClaims (s : State) (c : Car) : Bool :=
  match s.pu.push with
  | some r => r.car == c && r.claimed
  | none => false

/-- A car becomes FAULTED; a fault of the push's claimed car reaches PU as abort cause CAR (R159, R70). -/
def State.faultCar (s : State) (c : Car) (cause : FaultCause) : State :=
  let s1 := s.enterFaulted c cause
  if s.pushClaims c then s1.abortPush .car else s1

end Sys2Proof.Machine
end

