-- ==== Sys2Proof/Machine/OvenTable.lean ====
section
/-!
DEFINITION. Chapter 1: the oven table's and the coking clock's requests, the charge timer and the coke-minute expiry.
-/

namespace Sys2Proof.Machine

/-! ### Charging (R5 to R10) -/

/-- The soak of the next charge: the plan soak, plus one sticker soak if sticker pending is set, at most 256 (R7). -/
def Oven.nextSoak (o : Oven) (sticker : Nat) : Nat :=
  if o.stickerPending then min 256 (o.planSoak + sticker) else o.planSoak

/-- The oven record when CHARGE_BEGIN is taken (R6 to R8), with both doors' permits cleared (R99). -/
def Oven.beginCharge (o : Oven) (l : CokingLimits) (minute : Word) : Oven :=
  { o with
    phase := .charging, progress := 0, chargedAt := minute, activeSoak := o.nextSoak l.stickerSoak,
    stickerPending := false, planPending := false, late := false, chargeTimer := some l.chargeLimit,
    doorP := { o.doorP with permit := false }, doorC := { o.doorC with permit := false } }

/-- The first failing check of CHARGE_BEGIN, in the order of R5's table. -/
def State.chargeRefusal (s : State) (n : Nat) : Option Status :=
  if !s.running then some .wrongMode
  else if !s.inRange n then some .badOven
  else if (s.oven n).phase ≠ .empty then some .wrongPhase
  else if s.excluded n then some .excluded
  else if (s.oven n).doorP.state ≠ .sealed ∨ (s.oven n).doorC.state ≠ .sealed then some .doorsNotSealed
  else if !s.live (servingNode n) then some .nodeSilent
  else none

/-- CHARGE_BEGIN at OT (R5, R6). -/
def chargeBegin (oven : Byte) (s : State) : Answer :=
  let n := oven.toNat
  match s.chargeRefusal n with
  | some x => s.refuse x
  | none =>
    let o := (s.oven n).beginCharge s.cc.limits s.bk.minutes
    ((s.setOven n o).evalValve n).reply (oven :: byteOf (o.activeSoak - 1) :: wordBytes o.chargedAt)

/-- The oven record when CHARGE_END is taken (R10). -/
def Oven.endCharge (o : Oven) : Oven := { o with phase := .coking, chargeTimer := none, chargeLong := false }

/-- CHARGE_END at OT (R10). -/
def chargeEnd (oven : Byte) (s : State) : Answer :=
  let n := oven.toNat
  if !s.running then s.refuse .wrongMode
  else if !s.inRange n then s.refuse .badOven
  else if (s.oven n).phase ≠ .charging then s.refuse .wrongPhase
  else ((s.setOven n (s.oven n).endCharge).evalValve n).reply (oven :: wordBytes (s.minutesSince n))

/-- A charge timer runs out while its oven is CHARGING (R9). -/
def chargeTimerExpiry (n : Nat) (s : State) : State :=
  let o := s.oven n
  if s.running && s.inRange n && ranOut o.chargeTimer then
    if o.phase = .charging then
      (s.setOven n { o with chargeTimer := none, chargeLong := true }).raise (.chargeLong n)
    else s.setOven n { o with chargeTimer := none }
  else s

/-! ### Heat, trims, plans and limits (R11 to R14, R24) -/

/-- The reply of SET_HEAT and SELECT_HEAT: the selection and the two words (R11, R12). -/
def CokingClock.heatFields (c : CokingClock) : List Byte := flag c.selectB :: (half c.heatA ++ half c.heatB)

/-- SET_HEAT at CC (R11). -/
def setHeat (selector : Byte) (value : Half) (s : State) : Answer :=
  if 1 < selector.toNat then s.refuse .badValue
  else
    let c := if selector = 0 then { s.cc with heatA := value.toNat } else { s.cc with heatB := value.toNat }
    (s.withCc c).reply c.heatFields

/-- SELECT_HEAT at CC (R12). -/
def selectHeat (selector : Byte) (s : State) : Answer :=
  if 1 < selector.toNat then s.refuse .badValue
  else
    let c := { s.cc with selectB := selector == 1 }
    (s.withCc c).reply c.heatFields

/-- SET_TRIM at OT (R13). -/
def setTrim (oven : Byte) (trim : Half) (inhibit offset : Byte) (s : State) : Answer :=
  let n := oven.toNat
  if !s.inRange n then s.refuse .badOven
  else if 1 < inhibit.toNat then s.refuse .badValue
  else
    let t := clampInt (-4096) 4095 (signedOf trim)
    (s.setOven n { s.oven n with trim := t, trimInhibit := inhibit == 1, profileOffset := offset.toNat }).reply
      (oven :: (signed t ++ [inhibit, offset]))

/-- SET_PLAN at OT (R14). -/
def setPlan (oven soak : Byte) (s : State) : Answer :=
  let n := oven.toNat
  if !s.inRange n then s.refuse .badOven
  else
    (s.setOven n { s.oven n with planSoak := soak.toNat + 1, planPending := true }).reply
      [oven, soak, byteOf ((s.oven n).activeSoak - 1)]

/-- SET_COKING_LIMITS at CC (R24). -/
def setCokingLimits (charge late : Half) (sticker : Byte) (s : State) : Answer :=
  let l : CokingLimits := ⟨clampNat 60 900 charge.toNat, clampNat 60 4095 late.toNat, clampNat 0 120 sticker.toNat⟩
  (s.withCc { s.cc with limits := l }).reply (half l.chargeLimit ++ half l.lateLimit ++ [byteOf l.stickerSoak])

/-- QUERY_OVEN at OT (R25). -/
def queryOven (oven : Byte) (s : State) : Answer :=
  let n := oven.toNat
  if !s.inRange n then s.refuse .badOven
  else
    let o := s.oven n
    s.reply ([oven, byteOf o.phase.code, o.flags (s.excluded n)] ++ word o.progress ++ signed o.trim ++
      [byteOf o.profileOffset, byteOf (o.planSoak - 1), byteOf (o.activeSoak - 1)] ++ half o.soakRemaining ++
      wordBytes o.chargedAt ++ wordBytes (s.minutesSince n) ++ [byteOf o.hardPushCount] ++ halfBytes o.lastPushNumber)

/-! ### The coke-minute expiry (R16 to R22) -/

/-- The heat rate H: the selected word (R12). -/
def CokingClock.heat (c : CokingClock) : Nat := if c.selectB then c.heatB else c.heatA

/-- The step R of a COKING oven: H + T, or H with trim inhibit on, clamped to 0..65535 (R18). -/
def Oven.heatStep (o : Oven) (heat : Nat) : Nat :=
  (clampInt 0 65535 (if o.trimInhibit then (heat : Int) else (heat : Int) + o.trim)).toNat

/-- The step added to progress; reaching F makes the oven SOAKING with its active soak remaining (R19). -/
def Oven.addStep (o : Oven) (step : Nat) : Oven :=
  if Config.fullProgress ≤ o.progress + step then
    { o with progress := Config.fullProgress, phase := .soaking, soakRemaining := o.activeSoak }
  else { o with progress := o.progress + step }

/-- The soak decrement; reaching 0 makes the oven READY (R20). -/
def Oven.soakStep (o : Oven) : Oven :=
  if o.soakRemaining - 1 = 0 then { o with soakRemaining := 0, phase := .ready }
  else { o with soakRemaining := o.soakRemaining - 1 }

/-- The step of the oven's phase at an expiry (R17). -/
def Oven.cokeStep (o : Oven) (heat : Nat) : Oven :=
  match o.phase with
  | .coking => o.addStep (o.heatStep heat)
  | .soaking => o.soakStep
  | .empty => o
  | .charging => o
  | .ready => o
  | .pushing => o
  | .stalled => o

/-- The lateness check finds the oven newly late (R21). -/
def Oven.turnsLate (o : Oven) (limit : Nat) (minutes : Word) : Bool :=
  (o.phase == .soaking || o.phase == .ready) && !o.late && decide (limit ≤ minutes.toNat)

/-- One oven at an expiry: the step of its phase with OVEN_READY, its valve input, then the lateness check with OVEN_LATE
(R17 to R21). -/
def State.expireOven (s : State) (n : Nat) : State :=
  let o := s.oven n
  let o1 := o.cokeStep s.cc.heat
  let minutes := s.bk.minutes - o1.chargedAt
  let isLate := o1.turnsLate s.cc.limits.lateLimit minutes
  let s1 := (s.setOven n { o1 with late := o1.late || isLate }).raiseAll
    ((if o.phase = .soaking ∧ o1.phase = .ready then [NoticeBody.ovenReady n minutes] else []) ++
      (if isLate then [NoticeBody.ovenLate n minutes] else []))
  if o1.phase = o.phase then s1 else s1.evalValve n

/-- The minute count advances and each oven 1 to N is taken (R16, R17, R207). -/
def State.stepMinute (s : State) : State :=
  let s1 := (s.withCc { s.cc with minutesDue := s.cc.minutesDue - 1 }).withBk { s.bk with minutes := s.bk.minutes + 1 }
  s1.ovenNumbers.foldl State.expireOven s1

/-- A coke-minute expiry that has come, in RUN: the minute is stepped, then candidate evaluation (R17, R48). -/
def cokeMinuteExpiry (s : State) : State :=
  if s.running && decide (0 < s.cc.minutesDue) then s.stepMinute.evaluate
  else s

/-! ### The meanings -/

/-- SET_HEAT (R11). -/
def execSetHeat (tag selector : Byte) (value : Half) (s : State) : Host.Outcome State Fault Refusal :=
  hostRequest (.setHeat tag selector value) (setHeat selector value) s

/-- SELECT_HEAT (R12). -/
def execSelectHeat (tag selector : Byte) (s : State) : Host.Outcome State Fault Refusal :=
  hostRequest (.selectHeat tag selector) (selectHeat selector) s

/-- SET_TRIM (R13). -/
def execSetTrim (tag oven : Byte) (trim : Half) (inhibit offset : Byte) (s : State) : Host.Outcome State Fault Refusal :=
  hostRequest (.setTrim tag oven trim inhibit offset) (setTrim oven trim inhibit offset) s

/-- SET_PLAN (R14). -/
def execSetPlan (tag oven soak : Byte) (s : State) : Host.Outcome State Fault Refusal :=
  hostRequest (.setPlan tag oven soak) (setPlan oven soak) s

/-- CHARGE_BEGIN (R5). -/
def execChargeBegin (tag oven : Byte) (s : State) : Host.Outcome State Fault Refusal :=
  hostRequest (.chargeBegin tag oven) (chargeBegin oven) s

/-- CHARGE_END (R10). -/
def execChargeEnd (tag oven : Byte) (s : State) : Host.Outcome State Fault Refusal :=
  hostRequest (.chargeEnd tag oven) (chargeEnd oven) s

/-- QUERY_OVEN (R25). -/
def execQueryOven (tag oven : Byte) (s : State) : Host.Outcome State Fault Refusal :=
  hostRequest (.queryOven tag oven) (queryOven oven) s

/-- SET_COKING_LIMITS (R24). -/
def execSetCokingLimits (tag : Byte) (charge late : Half) (sticker : Byte) (s : State) :
    Host.Outcome State Fault Refusal :=
  hostRequest (.setCokingLimits tag charge late sticker) (setCokingLimits charge late sticker) s

/-- COKE_MINUTE_EXPIRY (R17). -/
def execCokeMinuteExpiry (s : State) : Host.Outcome State Fault Refusal := s.event .cokeMinuteExpiry cokeMinuteExpiry

/-- CHARGE_TIMER_EXPIRY (R9). -/
def execChargeTimerExpiry (n : Nat) (s : State) : Host.Outcome State Fault Refusal :=
  s.checked (.chargeTimerExpiry n) (chargeTimerExpiry n)

end Sys2Proof.Machine
end

