-- ==== Sys2Proof/Machine/Schedule.lean ====
section
/-!
DEFINITION. Chapter 2: the schedule unit's requests, the slot carry, and the silences and ESTOP# assertion delivered to SU.
-/

namespace Sys2Proof.Machine

/-! ### Series and pacer (R31 to R33) -/

/-- The parameters of a series are within R31's ranges. -/
def seriesInRange (k j : Nat) : Bool := decide (2 ≤ k ∧ k ≤ 10 ∧ 1 ≤ j ∧ j ≤ k - 1)

/-- SU with the series k, j and the start oven stored and the cursor at the start oven's position (R30, R31). -/
def ScheduleUnit.setSeries (u : ScheduleUnit) (n k j start : Nat) : ScheduleUnit :=
  { u with step := k, offset := j, startOven := start, cursor := positionOf n k j start }

/-- SET_SERIES at SU (R31). -/
def setSeries (step offset start : Byte) (s : State) : Answer :=
  if s.running && s.su.mode == .auto then s.refuse .wrongMode
  else if !s.inRange start.toNat then s.refuse .badOven
  else if !seriesInRange step.toNat offset.toNat then s.refuse .badSeries
  else if !seriesValid s.ovenCount step.toNat offset.toNat then s.refuse .badSeries
  else
    let u := s.su.setSeries s.ovenCount step.toNat offset.toNat start.toNat
    (s.withSu u).reply [step, offset, start, byteOf u.cursor]

/-- The reply of SET_PACER: Q and A (R33). -/
def ScheduleUnit.pacerFields (u : ScheduleUnit) : List Byte := half u.increment ++ half u.accumulator

/-- SET_PACER at SU (R33). -/
def setPacer (increment : Half) (s : State) : Answer :=
  let u := { s.su with increment := increment.toNat }
  (s.withSu u).reply u.pacerFields

/-- A slot carry that has come: the flag is set with an evaluation, or a slot already pending raises SLOT_OVERRUN (R32). -/
def slotCarry (s : State) : State :=
  if s.running && s.su.mode == .auto && decide (0 < s.su.carriesDue) then
    let u := { s.su with carriesDue := s.su.carriesDue - 1 }
    if u.slotFlag then (s.withSu u).raise .slotOverrun
    else State.evaluate (s.withSu { u with slotFlag := true })
  else s

/-! ### Schedule mode (R35, R36) -/

/-- Check 3 of R35 applies: AUTO is requested, or PAUSED is left. -/
def leavesPause (current m : ScheduleMode) : Bool := m == .auto || (current == .paused && m != .paused)

/-- The first failing check of SET_SCHEDULE_MODE after the code's (R35). -/
def State.modeRefusal (s : State) (m : ScheduleMode) : Option Status :=
  if !s.running then some .wrongMode
  else if leavesPause s.su.mode m && (s.pins.estop || s.pu.stall.isSome) then some .busy
  else if m == .auto && !s.pushNodes.all s.live then some .nodeSilent
  else none

/-- SET_SCHEDULE_MODE at SU (R35). -/
def setScheduleMode (mode : Byte) (s : State) : Answer :=
  match ScheduleMode.ofCode mode.toNat with
  | none => s.refuse .badValue
  | some m =>
    match s.modeRefusal m with
    | some x => s.refuse x
    | none => (s.withSu (s.su.turnTo m)).reply [byteOf m.code]

/-- A silence of the pusher node, the guide node or an oven node in use, at SU: from AUTO only (R36). -/
def silenceAtSu (x : Node) (s : State) : State :=
  if s.su.mode == .auto && (s.fl.entry x).inUse then s.pauseSchedule 3 x.id else s

/-- ESTOP# assertion at SU (R36). -/
def estopAtSu (s : State) : State := s.pauseSchedule 1 0

/-! ### Lists and exclusion (R39 to R45) -/

/-- The first failing check of QUEUE_OUT_OF_TURN (R43). -/
def State.queueRefusal (s : State) (n : Nat) : Option Status :=
  if !s.running then some .wrongMode
  else if !s.inRange n then some .badOven
  else if s.excluded n then some .excluded
  else if (s.oven n).phase ≠ .coking ∧ (s.oven n).phase ≠ .soaking ∧ (s.oven n).phase ≠ .ready then some .wrongPhase
  else if n ∈ s.su.outOfTurn then some .duplicate
  else if Config.outOfTurnRoom ≤ s.su.outOfTurn.length then some .full
  else none

/-- QUEUE_OUT_OF_TURN at SU (R43). -/
def queueOutOfTurn (oven : Byte) (s : State) : Answer :=
  let n := oven.toNat
  match s.queueRefusal n with
  | some x => s.refuse x
  | none =>
    let u := { s.su with outOfTurn := s.su.outOfTurn ++ [n], deferred := s.su.deferred.erase n }
    (s.withSu u).reply [byteOf u.outOfTurn.length, flag (decide (n ∈ s.su.deferred))]

/-- WITHDRAW at SU (R45). -/
def withdraw (oven : Byte) (s : State) : Answer :=
  let n := oven.toNat
  if !s.inRange n then s.refuse .badOven
  else if n ∈ s.su.outOfTurn then (s.withSu { s.su with outOfTurn := s.su.outOfTurn.erase n }).reply [1]
  else if n ∈ s.su.deferred then (s.withSu { s.su with deferred := s.su.deferred.erase n }).reply [2]
  else s.refuse .notFound

/-- A push record or a stall record exists. -/
def State.pushing (s : State) : Bool := s.pu.push.isSome || s.pu.stall.isSome

/-- The start oven lowered to the frame's alignment (R39). -/
def alignedStart (granularity start : Nat) : Nat := start - (start - 1) % 2 ^ granularity

/-- The reply of an exclusion edit ends with the number of list entries removed by R41. -/
def State.afterExclusion (s : State) (u : ScheduleUnit) (fields : List Byte) : Answer :=
  let s1 := (s.withSu u).dropExcluded
  s1.reply (fields ++ [byteOf (s.su.listed - s1.su.listed)])

/-- SET_EXCLUSION_FRAME at SU (R39, R41). -/
def setExclusionFrame (granularity start : Byte) (s : State) : Answer :=
  if 3 < granularity.toNat then s.refuse .badValue
  else if !s.inRange start.toNat then s.refuse .badOven
  else if s.pushing then s.refuse .busy
  else
    let k := alignedStart granularity.toNat start.toNat
    s.afterExclusion { s.su with granularity := granularity.toNat, exclusionStart := k } [granularity, byteOf k]

/-- Bits 16w to 16w + 15 of the vector replaced by a word (R40). -/
def putWord (v : BitVec 64) (w : Nat) (x : Half) : BitVec 64 :=
  (v &&& ~~~((0xFFFF : BitVec 64) <<< (16 * w))) ||| (x.setWidth 64 <<< (16 * w))

/-- Word w of the vector (R53). -/
def getWord (v : BitVec 64) (w : Nat) : Half := v.extractLsb' (16 * w) 16

/-- WRITE_EXCLUSION_WORD at SU (R40, R41). -/
def writeExclusionWord (index : Byte) (x : Half) (s : State) : Answer :=
  if 3 < index.toNat then s.refuse .badValue
  else if s.pushing then s.refuse .busy
  else
    s.afterExclusion { s.su with exclusion := putWord s.su.exclusion index.toNat x } (index :: halfBytes x)

/-! ### QUERY_SCHEDULE (R53) -/

/-- A list in a fixed number of places, the unused ones 0. -/
def placed (room : Nat) (l : List Nat) : List Byte := (List.range room).map (fun i => byteOf (l.getD i 0))

/-- QUERY_SCHEDULE at SU (R53). -/
def querySchedule (s : State) : Answer :=
  let u := s.su
  s.reply ([byteOf u.mode.code, byteOf u.step, byteOf u.offset, byteOf u.startOven, byteOf u.cursor,
      byteOf (s.ovenAt u.cursor)] ++ u.pacerFields ++
    [byteOf (bits [u.slotFlag, seriesValid s.ovenCount u.step u.offset]), byteOf u.outOfTurn.length] ++
    placed Config.outOfTurnRoom u.outOfTurn ++ [byteOf u.deferred.length] ++ placed Config.deferredRoom u.deferred ++
    [byteOf u.granularity, byteOf u.exclusionStart] ++
    (List.range 4).flatMap (fun w => halfBytes (getWord u.exclusion w)))

/-! ### The meanings -/

/-- SET_SERIES (R31). -/
def execSetSeries (tag step offset start : Byte) (s : State) : Host.Outcome State Fault Refusal :=
  hostRequest (.setSeries tag step offset start) (setSeries step offset start) s

/-- SET_PACER (R33). -/
def execSetPacer (tag : Byte) (increment : Half) (s : State) : Host.Outcome State Fault Refusal :=
  hostRequest (.setPacer tag increment) (setPacer increment) s

/-- SET_SCHEDULE_MODE (R35). -/
def execSetScheduleMode (tag mode : Byte) (s : State) : Host.Outcome State Fault Refusal :=
  hostRequest (.setScheduleMode tag mode) (setScheduleMode mode) s

/-- QUEUE_OUT_OF_TURN (R43). -/
def execQueueOutOfTurn (tag oven : Byte) (s : State) : Host.Outcome State Fault Refusal :=
  hostRequest (.queueOutOfTurn tag oven) (queueOutOfTurn oven) s

/-- WITHDRAW (R45). -/
def execWithdraw (tag oven : Byte) (s : State) : Host.Outcome State Fault Refusal :=
  hostRequest (.withdraw tag oven) (withdraw oven) s

/-- SET_EXCLUSION_FRAME (R39). -/
def execSetExclusionFrame (tag granularity start : Byte) (s : State) : Host.Outcome State Fault Refusal :=
  hostRequest (.setExclusionFrame tag granularity start) (setExclusionFrame granularity start) s

/-- WRITE_EXCLUSION_WORD (R40). -/
def execWriteExclusionWord (tag index : Byte) (w : Half) (s : State) : Host.Outcome State Fault Refusal :=
  hostRequest (.writeExclusionWord tag index w) (writeExclusionWord index w) s

/-- QUERY_SCHEDULE (R53). -/
def execQuerySchedule (tag : Byte) (s : State) : Host.Outcome State Fault Refusal :=
  hostRequest (.querySchedule tag) querySchedule s

/-- SLOT_CARRY (R32). -/
def execSlotCarry (s : State) : Host.Outcome State Fault Refusal := s.event .slotCarry slotCarry

/-- SILENCE_AT_SU (R36). -/
def execSilenceAtSu (x : Node) (s : State) : Host.Outcome State Fault Refusal :=
  s.checked (.silenceAtSu x) (silenceAtSu x)

/-- ESTOP_AT_SU (R36). -/
def execEstopAtSu (s : State) : Host.Outcome State Fault Refusal := s.event .estopAtSu estopAtSu

end Sys2Proof.Machine
end

