-- ==== Sys2Proof/Machine/Push.lean ====
section
/-!
DEFINITION. Chapter 3: the push unit's requests, the machine reports, the stage confirmations, the stage timer, and the machine
silences and ESTOP# assertion delivered to PU.
-/

namespace Sys2Proof.Machine

/-! ### PUSH_NOW (R58) -/

/-- The first failing check of PUSH_NOW but the car's, with its extra reply byte (R58, checks 1 to 7). -/
def State.pushRefusal (s : State) (n : Nat) : Option (Status × List Byte) :=
  if !(s.running && s.su.mode == .manual) then some (.wrongMode, [])
  else if !s.inRange n then some (.badOven, [])
  else if s.pushing then some (.busy, [])
  else if s.pins.estop then some (.busy, [])
  else if (s.oven n).phase ≠ .ready then some (.wrongPhase, [0])
  else match s.failing n with
    | m :: _ => some (.wrongPhase, [byteOf m])
    | [] => ([Node.pusher, Node.guide, servingNode n].find? (fun x => !s.live x)).map (fun x => (.nodeSilent, [byteOf x.id]))

/-- PUSH_NOW at PU (R58). -/
def pushNow (oven : Byte) (s : State) : Answer :=
  let n := oven.toNat
  match s.pushRefusal n with
  | some x => ⟨s, x.1, x.2⟩
  | none =>
    match s.offerCar n with
    | none => s.refuse .noCar
    | some c => (s.startPush n .manual c).reply (halfBytes (s.pu.counter + 1) ++ [oven, byteOf c.code])

/-! ### ABORT_PUSH (R80) -/

/-- The outcome code of an abort by its stage (R80). -/
def Stage.abortOutcome : Stage → Nat
  | .spot => 1
  | .isolate => 1
  | .doorsOff => 2
  | .ram => 3
  | .doorsOn => 4
  | .retreat => 3

/-- ABORT_PUSH at PU (R80). -/
def abortPush (number : Half) (s : State) : Answer :=
  if s.pu.stall.isSome then s.refuse .wrongPhase
  else match s.pu.push with
    | none => s.refuse .notFound
    | some r =>
      if r.number ≠ number then s.refuse .notFound
      else if r.stage = .retreat then s.refuse .wrongPhase
      else (s.abortPush .host).reply [byteOf r.stage.code, byteOf r.stage.abortOutcome]

/-! ### CLEAR_STALL (R78) -/

/-- The first failing check of CLEAR_STALL after the result code's (R78, checks 2 to 4). -/
def State.clearRefusal (s : State) (result : Byte) : Option Status :=
  match s.pu.stall with
  | none => some .notFound
  | some r =>
    if s.pins.estop then some .busy
    else if result = 0 ∧ ((s.oven r.oven).doorP.state = .off ∨ (s.oven r.oven).doorC.state = .off) then
      some .doorsNotSealed
    else none

/-- The stalled oven at its clearing: EMPTY with P = 0 and the push number, or READY (R78, step 1). -/
def Oven.unstall (o : Oven) (pushed : Bool) (number : Half) : Oven :=
  if pushed then { o with phase := .empty, progress := 0, lastPushNumber := number } else { o with phase := .ready }

/-- QU releases the car of a stall record: a LOADED car is dispatched, any other released (R78, step 3). -/
def State.releaseStalled (s : State) (r : StallRecord) : State :=
  if !r.claimed then s
  else if (s.car r.car).state = .loaded then s.dispatchCar r.car
  else s.releaseCar r.car

/-- The stall is cleared: the steps of R78 in order. -/
def State.clearStall (s : State) (r : StallRecord) (pushed : Bool) : State :=
  let s1 := s.setOven r.oven ((s.oven r.oven).unstall pushed r.number)
  let s2 := (s1.issueAll [toOven r.oven (.cap r.oven false)]).releaseStalled r
  let s3 := (s2.withPu { s2.pu with stall := none }).raise (.stallCleared r.number r.oven (boolCode pushed))
  s3.evalValve r.oven

/-- CLEAR_STALL at PU (R78). -/
def clearStall (result : Byte) (s : State) : Answer :=
  if 1 < result.toNat then s.refuse .badValue
  else match s.clearRefusal result with
    | some x => s.refuse x
    | none =>
      match s.pu.stall with
      | none => s.refuse .notFound
      | some r => (s.clearStall r (result == 1)).reply [byteOf r.oven, result]

/-! ### QUERY_PUSH and SET_PUSH_LIMITS (R83, R84) -/

/-- The fields of QUERY_PUSH from record kind to first cause, with the counter after the kind (R83). -/
def PushUnit.recordFields (p : PushUnit) : List Byte :=
  match p.push, p.stall with
  | some r, _ =>
    1 :: halfBytes p.counter ++ halfBytes r.number ++
      [byteOf r.oven, byteOf r.origin.code, byteOf r.car.code, flag r.claimed, byteOf r.stage.code] ++
      wordBytes r.entered ++ half r.timer ++ half r.peakForce ++
      [r.flags, byteOf (optCode AbortCause.code r.abortCause), 0]
  | none, some r =>
    2 :: halfBytes p.counter ++ halfBytes r.number ++
      [byteOf r.oven, byteOf r.origin.code, byteOf r.car.code, flag r.claimed, byteOf r.stage.code] ++
      wordBytes r.second ++ half 0 ++ half r.peakForce ++
      [0, byteOf r.cause.code, byteOf (optCode AbortCause.code r.firstCause)]
  | none, none => 0 :: halfBytes p.counter ++ List.replicate 18 0

/-- The view fields of QUERY_PUSH (R83). -/
def PushUnit.viewFields (p : PushUnit) : List Byte :=
  [byteOf p.pusher.position, byteOf p.pusher.ram.code, byteOf p.pusher.fault, byteOf p.guide.position,
   flag p.guide.latched, byteOf p.guide.fault]

/-- QUERY_PUSH at PU (R83). -/
def queryPush (s : State) : Answer := s.reply (s.pu.recordFields ++ s.pu.viewFields)

/-- The six push limits as a reply gives them (R84). -/
def PushLimits.fields (l : PushLimits) : List Byte :=
  half l.spot ++ half l.isolate ++ half l.doorsOff ++ half l.ram ++ half l.doorsOn ++ half l.sticker

/-- SET_PUSH_LIMITS at PU (R84). -/
def setPushLimits (spot isolate doorsOff ram doorsOn sticker : Half) (s : State) : Answer :=
  let l : PushLimits :=
    ⟨clampNat 30 600 spot.toNat, clampNat 5 60 isolate.toNat, clampNat 20 240 doorsOff.toNat, clampNat 30 300 ram.toNat,
     clampNat 20 240 doorsOn.toNat, clampNat 0 4000 sticker.toNat⟩
  (s.withPu { s.pu with limits := l }).reply l.fields

/-! ### Machine reports (R57, R62, R66) -/

/-- The pusher view a report gives (R57). -/
def PusherView.of (r : PusherReport) : PusherView := ⟨r.position, r.ram, forceOf r.force, r.holding, r.fault.toNat⟩

/-- The guide view a report gives (R57). -/
def GuideView.of (r : GuideReport) : GuideView := ⟨r.position, r.latched, r.holding, r.fault.toNat⟩

/-- The push record after a pusher report in RAM: forward seen, peak force copied (R66). -/
def PushRecord.stroke (r : PushRecord) (v : PusherView) : PushRecord :=
  { r with forwardSeen := r.forwardSeen || v.ram == .forward, peakForce := v.force }

/-- A pusher report judged in RAM (R66). -/
def State.judgeRam (s : State) (r : PushRecord) : State :=
  let r1 := r.stroke s.pu.pusher
  let s1 := s.setPush (some r1)
  if s.pu.pusher.ram = .home ∧ r1.forwardSeen then s1.completeRam r1 else s1

/-- PUSHER_REPORT at PU (R57, R62, R66). -/
def pusherReport (x : PusherReport) (s : State) : State :=
  let s1 := s.withPu { s.pu with pusher := .of x }
  match s1.pu.push with
  | none => s1
  | some r =>
    match r.stage with
    | .spot => s1.judgeSpot
    | .ram => s1.judgeRam r
    | .isolate => s1
    | .doorsOff => s1
    | .doorsOn => s1
    | .retreat => s1

/-- LATCH is sent at the first guide report of SPOT that shows the guide at n and not latched (R62). -/
def State.sendLatch (s : State) : State :=
  match s.pu.push with
  | none => s
  | some r =>
    if r.stage = .spot ∧ s.pu.guide.position = r.oven ∧ !s.pu.guide.latched ∧ !r.latchSent then
      (s.issueAll [⟨.guide, .latch⟩]).setPush (some { r with latchSent := true })
    else s

/-- GUIDE_REPORT at PU (R57, R62). -/
def guideReport (x : GuideReport) (s : State) : State :=
  let s1 := s.withPu { s.pu with guide := .of x }
  s1.sendLatch.judgeSpot

/-! ### Stage confirmations (R63, R64, R69, R73) -/

/-- The entry for oven n in a report of node 16 + m, if that node serves n (R173). -/
def entryFor (m : Fin 12) (entries : List OvenEntry) (n : Nat) : Option OvenEntry :=
  if nodeNumber n = m then entries[(n - 1) % 8]? else none

/-- An oven node report's entry for the pushed oven, judged by the stage (R63, R64, R69, R73). -/
def State.confirm (s : State) (r : PushRecord) (e : OvenEntry) : State :=
  match r.stage with
  | .spot => s
  | .isolate =>
    if e.feedback.toNat ≤ 16 ∧ e.capOpen then (s.issueAll (toBoth .extract)).setPush (some (s.inStage r .doorsOff))
    else s
  | .doorsOff => if !e.presentP ∧ !e.presentC then s.completeDoorsOff r else s
  | .ram => s
  | .doorsOn => if e.presentP ∧ e.presentC then s.completePush r false else s
  | .retreat => if e.presentP ∧ e.presentC then s.completeRetreat r else s

/-- STAGE_CONFIRMATION at PU (R63). PU notes the stage the report found, on which DU judges a removal that the same report
shows (R90; log 21). -/
def stageConfirmation (m : Fin 12) (entries : List OvenEntry) (s : State) : State :=
  match s.pu.push with
  | none => s
  | some r =>
    match entryFor m entries r.oven with
    | none => s
    | some e => State.confirm (s.withPu { s.pu with taken := some ⟨r.oven, entries, r.stage⟩ }) r e

/-! ### Timer, silence and ESTOP# (R61, R79, R81) -/

/-- The stage timer runs out (R61). -/
def stageTimerExpiry (s : State) : State :=
  match s.pu.push with
  | none => s
  | some r => if r.timer = 0 then s.abortPush .timeout else s

/-- The abort cause of a machine's silence (R81). -/
def silenceCause : PushMachine → AbortCause
  | .pusher => .pusherSilent
  | .guide => .guideSilent

/-- MACHINE_SILENCE_AT_PU (R81). -/
def machineSilenceAtPu (k : PushMachine) (s : State) : State := s.abortPush (silenceCause k)

/-- ESTOP_AT_PU (R79). -/
def estopAtPu (s : State) : State := s.abortPush .estop

/-! ### The meanings -/

/-- PUSH_NOW (R58). -/
def execPushNow (tag oven : Byte) (s : State) : Host.Outcome State Fault Refusal :=
  hostRequest (.pushNow tag oven) (pushNow oven) s

/-- ABORT_PUSH (R80). -/
def execAbortPush (tag : Byte) (number : Half) (s : State) : Host.Outcome State Fault Refusal :=
  hostRequest (.abortPush tag number) (abortPush number) s

/-- CLEAR_STALL (R78). -/
def execClearStall (tag result : Byte) (s : State) : Host.Outcome State Fault Refusal :=
  hostRequest (.clearStall tag result) (clearStall result) s

/-- QUERY_PUSH (R83). -/
def execQueryPush (tag : Byte) (s : State) : Host.Outcome State Fault Refusal :=
  hostRequest (.queryPush tag) queryPush s

/-- SET_PUSH_LIMITS (R84). -/
def execSetPushLimits (tag : Byte) (spot isolate doorsOff ram doorsOn sticker : Half) (s : State) :
    Host.Outcome State Fault Refusal :=
  hostRequest (.setPushLimits tag spot isolate doorsOff ram doorsOn sticker)
    (setPushLimits spot isolate doorsOff ram doorsOn sticker) s

/-- PUSHER_REPORT (R57). -/
def execPusherReport (r : PusherReport) (s : State) : Host.Outcome State Fault Refusal :=
  s.checked (.pusherReport r) (pusherReport r)

/-- GUIDE_REPORT (R57). -/
def execGuideReport (r : GuideReport) (s : State) : Host.Outcome State Fault Refusal :=
  s.checked (.guideReport r) (guideReport r)

/-- STAGE_CONFIRMATION (R63). -/
def execStageConfirmation (m : Fin 12) (entries : List OvenEntry) (s : State) : Host.Outcome State Fault Refusal :=
  s.checked (.stageConfirmation m entries) (stageConfirmation m entries)

/-- STAGE_TIMER_EXPIRY (R61). -/
def execStageTimerExpiry (s : State) : Host.Outcome State Fault Refusal := s.event .stageTimerExpiry stageTimerExpiry

/-- MACHINE_SILENCE_AT_PU (R81). -/
def execMachineSilenceAtPu (k : PushMachine) (s : State) : Host.Outcome State Fault Refusal :=
  s.event (.machineSilenceAtPu k) (machineSilenceAtPu k)

/-- ESTOP_AT_PU (R79). -/
def execEstopAtPu (s : State) : Host.Outcome State Fault Refusal := s.event .estopAtPu estopAtPu

end Sys2Proof.Machine
end

