-- ==== Sys2Proof/Machine/Doors.lean ====
section
/-!
DEFINITION. Chapter 4: door presence, seating, settling and leak handling, the service permit, and the door handling at START.
-/

namespace Sys2Proof.Machine

/-- What DU does with one door at one event: the record, the commands and the notices. -/
structure DoorStep where
  door : Door
  commands : List Outgoing
  notices : List NoticeBody
deriving DecidableEq, Repr

/-- A door record left as it stands. -/
def DoorStep.keep (d : Door) : DoorStep := ⟨d, [], []⟩

/-! ### One door at one report (R89 to R91, R97, R98, R103) -/

/-- A removal in RUN: OFF, the count 0, the settle timer stopped, the door-off timer loaded, and the removal judged (R90). -/
def Door.remove (d : Door) (l : DoorLimits) (n : Nat) (x : Side) (expected : Bool) : DoorStep :=
  let d1 := { d with
    state := .off, persistence := 0, settleTimer := none, doorOffTimer := some l.doorOffLimit,
    unexpected := d.unexpected || !expected }
  ⟨d1, [], if expected then [] else [.doorUnexpected n x]⟩

/-- The clamp step a door seats at: the larger of the base step and the learned step less 1 (R91). The learned step is read as it
stands, for a door that was LEAKING too (log 33). -/
def Door.seatStep (d : Door) (l : DoorLimits) : Nat := max l.baseStep (d.learnedStep - 1)

/-- A seating in RUN (R91). -/
def Door.seat (d : Door) (l : DoorLimits) (n : Nat) (x : Side) : DoorStep :=
  let d1 := { d with
    state := .seated, doorOffTimer := none, offLong := false, unexpected := false, permit := false,
    clampStep := d.seatStep l, settleTimer := some l.settleTime }
  ⟨d1, [toOven n (.clamp n x (d.seatStep l))], []⟩

/-- The persistence count after a report that counts or does not (R97, R98). -/
def Door.counted (d : Door) (counts : Bool) : Nat := if counts then d.persistence + 1 else 0

/-- Leak handling of a SEALED door (R97). Only a raise writes the learned step (R94), so a door that the base step seated at 15
enters LEAKING with the learned step it had (log 33). -/
def Door.judgeSealed (d : Door) (l : DoorLimits) (n : Nat) (x : Side) : DoorStep :=
  let k := d.counted (decide (l.leakThreshold ≤ d.leakLevel))
  if k < l.leakPersistence then .keep { d with persistence := k }
  else if d.clampStep < 15 then
    ⟨{ d with clampStep := d.clampStep + 1, learnedStep := d.clampStep + 1, persistence := 0 },
     [toOven n (.clamp n x (d.clampStep + 1))], []⟩
  else ⟨{ d with state := .leaking, persistence := 0 }, [], [.doorLeaking n x d.leakLevel]⟩

/-- Leak handling of a LEAKING door (R98). -/
def Door.judgeLeaking (d : Door) (l : DoorLimits) (n : Nat) (x : Side) : DoorStep :=
  let k := d.counted (decide (d.leakLevel < l.leakThreshold))
  if k < l.leakPersistence then .keep { d with persistence := k }
  else ⟨{ d with state := .sealed, persistence := 0 }, [], [.doorResealed n x]⟩

/-- A door at a report in RUN, its leak level recorded (section 4.2's table). -/
def Door.takeRun (d : Door) (l : DoorLimits) (n : Nat) (x : Side) (expected present : Bool) : DoorStep :=
  match present, d.state with
  | false, .off => .keep d
  | false, .sealed => d.remove l n x expected
  | false, .leaking => d.remove l n x expected
  | false, .seated => d.remove l n x expected
  | true, .off => d.seat l n x
  | true, .seated => .keep d
  | true, .sealed => d.judgeSealed l n x
  | true, .leaking => d.judgeLeaking l n x

/-- A door that CONFIG finds present after OFF or SEATED (R103). -/
def Door.sealInConfig (d : Door) (l : DoorLimits) (n : Nat) (x : Side) : DoorStep :=
  let d1 := { d with
    state := .sealed, doorOffTimer := none, settleTimer := none, persistence := 0, unexpected := false,
    offLong := false, permit := false, clampStep := d.seatStep l }
  ⟨d1, [toOven n (.clamp n x (d.seatStep l))], []⟩

/-- A door at a report in CONFIG, its leak level recorded (R103). -/
def Door.takeConfig (d : Door) (l : DoorLimits) (n : Nat) (x : Side) (present : Bool) : DoorStep :=
  match present, d.state with
  | false, .off => .keep d
  | false, .sealed => .keep { d with state := .off, persistence := 0, settleTimer := none }
  | false, .leaking => .keep { d with state := .off, persistence := 0, settleTimer := none }
  | false, .seated => .keep { d with state := .off, persistence := 0, settleTimer := none }
  | true, .off => d.sealInConfig l n x
  | true, .seated => d.sealInConfig l n x
  | true, .sealed => .keep d
  | true, .leaking => .keep d

/-! ### On the state -/

/-- The stages in which a push takes doors off (R90). -/
def Stage.takesDoors (x : Stage) : Bool := x == .doorsOff || x == .retreat

/-- A removal of a door of oven n in a report is accounted for by the push: its record names n at DOORS_OFF or RETREAT at the
report's arrival, which is the stage PU found if PU has taken the same report already (R90; log 21). -/
def State.pushTakesDoors (s : State) (entries : List OvenEntry) (n : Nat) : Bool :=
  match s.pu.taken, s.pu.push with
  | some t, some r =>
    if t.oven = n ∧ t.entries = entries then t.stage.takesDoors else r.oven == n && r.stage.takesDoors
  | some t, none => t.oven == n && t.entries == entries && t.stage.takesDoors
  | none, some r => r.oven == n && r.stage.takesDoors
  | none, none => false

/-- The door's step is written, its commands issued and its notices raised; a change of state or of the unexpected flag is an
input of the oven's valve mode evaluation (R101, R112). -/
def State.applyDoor (s : State) (n : Nat) (x : Side) (a : DoorStep) : State :=
  let d := (s.oven n).door x
  let s1 := ((s.setOven n ((s.oven n).setDoor x a.door)).issueAll a.commands).raiseAll a.notices
  if a.door.state = d.state ∧ a.door.unexpected = d.unexpected then s1 else s1.evalValve n

/-- The side's presence in an entry (R173). -/
def presentOf (e : OvenEntry) : Side → Bool
  | .p => e.presentP
  | .c => e.presentC

/-- The side's leak level in an entry (R173). -/
def leakOf (e : OvenEntry) : Side → Nat
  | .p => e.leakP.toNat
  | .c => e.leakC.toNat

/-- DU takes one door of one entry (R89, R103). -/
def State.takeDoor (s : State) (n : Nat) (x : Side) (byPush : Bool) (e : OvenEntry) : State :=
  let d := { (s.oven n).door x with leakLevel := leakOf e x }
  let a :=
    if s.running then d.takeRun s.du n x (byPush || d.permit) (presentOf e x)
    else d.takeConfig s.du n x (presentOf e x)
  s.applyDoor n x a

/-- DU takes one oven's entry: P, then C (R89). -/
def State.takeDoors (s : State) (m : Fin 12) (entries : List OvenEntry) (n : Nat) : State :=
  match entryFor m entries n with
  | some e => (s.takeDoor n .p (s.pushTakesDoors entries n) e).takeDoor n .c (s.pushTakesDoors entries n) e
  | none => s

/-- PU's note of a report is dropped when DU has taken one from that node (log 21). -/
def State.dropTaken (s : State) (m : Fin 12) : State :=
  if s.pu.taken.any (fun t => nodeNumber t.oven == m) then s.withPu { s.pu with taken := none } else s

/-- OVEN_REPORT at DU (R89). -/
def ovenReport (m : Fin 12) (entries : List OvenEntry) (s : State) : State :=
  ((s.served m).foldl (fun t n => t.takeDoors m entries n) s).dropTaken m

/-! ### Timers (R92, R96) -/

/-- A settle timer runs out: a SEATED door becomes SEALED (R92). -/
def settleTimerExpiry (n : Nat) (x : Side) (s : State) : State :=
  let d := (s.oven n).door x
  if s.running && s.inRange n && ranOut d.settleTimer then
    if d.state = .seated then s.applyDoor n x (.keep { d with state := .sealed, persistence := 0, settleTimer := none })
    else s.setOven n ((s.oven n).setDoor x { d with settleTimer := none })
  else s

/-- A door-off timer runs out with the door OFF (R96). -/
def doorOffTimerExpiry (n : Nat) (x : Side) (s : State) : State :=
  let d := (s.oven n).door x
  if s.running && s.inRange n && ranOut d.doorOffTimer then
    if d.state = .off then s.applyDoor n x ⟨{ d with offLong := true, doorOffTimer := none }, [], [.doorOffLong n x]⟩
    else s.setOven n ((s.oven n).setDoor x { d with doorOffTimer := none })
  else s

/-! ### START (R104) -/

/-- An OFF door at START is found unexpected: its oven is not EMPTY and its permit is clear (R104, first case). -/
def Oven.unaccounted (o : Oven) (x : Side) : Bool :=
  (o.door x).state == .off && o.phase != .empty && !(o.door x).permit

/-- One door at START (R104). -/
def State.startDoor (s : State) (n : Nat) (x : Side) : State :=
  let o := s.oven n
  let d := o.door x
  if d.state ≠ .off then s
  else if o.unaccounted x then
    (s.setOven n (o.setDoor x { d with unexpected := true, doorOffTimer := some s.du.doorOffLimit })).raise
      (.doorUnexpected n x)
  else s.setOven n (o.setDoor x { d with doorOffTimer := some s.du.doorOffLimit })

/-- The doors of ovens 1 to N at START, in order (R104). START evaluates every valve mode after them (R119). -/
def State.startDoors (s : State) : State :=
  s.ovenNumbers.foldl (fun t n => (t.startDoor n .p).startDoor n .c) s

/-- How many doors of ovens 1 to N the first case of R104 makes unexpected (R214; log 11). -/
def State.unaccountedDoors (s : State) : Nat :=
  (s.inUse.map (fun x => boolCode (x.1.unaccounted .p) + boolCode (x.1.unaccounted .c))).sum

/-! ### Requests (R100, R105, R106) -/

/-- A push record or a stall record names oven n (R100). -/
def State.namesOven (s : State) (n : Nat) : Bool :=
  s.pu.push.any (fun r => r.oven == n) || s.pu.stall.any (fun r => r.oven == n)

/-- The first failing check of DOOR_SERVICE after the oven's and the codes' (R100, checks 3 and 4). -/
def State.grantRefusal (s : State) (n : Nat) (grant : Bool) : Option Status :=
  if grant && s.namesOven n then some .busy
  else if grant && !((s.oven n).phase == .empty || s.excluded n) then some .wrongPhase
  else none

/-- DOOR_SERVICE at DU (R100). -/
def doorService (oven side action : Byte) (s : State) : Answer :=
  let n := oven.toNat
  if !s.inRange n then s.refuse .badOven
  else match Side.ofCode side.toNat, boolOfCode action.toNat with
    | some x, some grant =>
      match s.grantRefusal n grant with
      | some y => s.refuse y
      | none =>
        let d := (s.oven n).door x
        (s.setOven n ((s.oven n).setDoor x { d with permit := grant })).reply
          [oven, side, action, byteOf d.state.code, flag d.unexpected]
    | _, _ => s.refuse .badValue

/-- SET_DOOR_LIMITS at DU (R105). -/
def setDoorLimits (doorOff : Half) (settle base threshold persistence : Byte) (s : State) : Answer :=
  let l : DoorLimits :=
    ⟨clampNat 60 900 doorOff.toNat, clampNat 10 120 settle.toNat, clampNat 0 15 base.toNat,
     clampNat 1 7 threshold.toNat, clampNat 1 8 persistence.toNat⟩
  (s.withDu l).reply (half l.doorOffLimit ++
    [byteOf l.settleTime, byteOf l.baseStep, byteOf l.leakThreshold, byteOf l.leakPersistence])

/-- The nine bytes of one door (R106). -/
def Door.fields (d : Door) : List Byte :=
  [byteOf d.state.code, byteOf d.clampStep, byteOf d.learnedStep, byteOf d.leakLevel, byteOf d.persistence, d.flags] ++
    half (remaining d.doorOffTimer) ++ [byteOf (remaining d.settleTimer)]

/-- QUERY_DOORS at DU (R106). -/
def queryDoors (oven : Byte) (s : State) : Answer :=
  let n := oven.toNat
  if !s.inRange n then s.refuse .badOven
  else s.reply (oven :: ((s.oven n).doorP.fields ++ (s.oven n).doorC.fields))

/-! ### The meanings -/

/-- OVEN_REPORT (R89). -/
def execOvenReport (m : Fin 12) (entries : List OvenEntry) (s : State) : Host.Outcome State Fault Refusal :=
  s.checked (.ovenReport m entries) (ovenReport m entries)

/-- SETTLE_TIMER_EXPIRY (R92). -/
def execSettleTimerExpiry (n : Nat) (x : Side) (s : State) : Host.Outcome State Fault Refusal :=
  s.checked (.settleTimerExpiry n x) (settleTimerExpiry n x)

/-- DOOR_OFF_TIMER_EXPIRY (R96). -/
def execDoorOffTimerExpiry (n : Nat) (x : Side) (s : State) : Host.Outcome State Fault Refusal :=
  s.checked (.doorOffTimerExpiry n x) (doorOffTimerExpiry n x)

/-- DOOR_SERVICE (R100). -/
def execDoorService (tag oven side action : Byte) (s : State) : Host.Outcome State Fault Refusal :=
  hostRequest (.doorService tag oven side action) (doorService oven side action) s

/-- SET_DOOR_LIMITS (R105). -/
def execSetDoorLimits (tag : Byte) (doorOff : Half) (settle base threshold persistence : Byte) (s : State) :
    Host.Outcome State Fault Refusal :=
  hostRequest (.setDoorLimits tag doorOff settle base threshold persistence)
    (setDoorLimits doorOff settle base threshold persistence) s

/-- QUERY_DOORS (R106). -/
def execQueryDoors (tag oven : Byte) (s : State) : Host.Outcome State Fault Refusal :=
  hostRequest (.queryDoors tag oven) (queryDoors oven) s

end Sys2Proof.Machine
end

