-- ==== Sys2Proof/Machine/Pressure.lean ====
section
/-!
DEFINITION. Chapter 5: oven and main samples, node silence and return at PR, the profile, loop, valve and main requests, and
QUERY_PRESSURE.
-/

namespace Sys2Proof.Machine

/-! ### Oven samples (R117) -/

/-- The readings of an entry recorded (R117, steps 1 and 2). -/
def Valve.record (v : Valve) (e : OvenEntry) : Valve :=
  { v with feedback := feedbackOf e.feedback, capOpen := e.capOpen, lastPressure := pressureOf e.pressure }

/-- The loop on the last pressure, in AUTO (R117, step 4; R122 to R127). -/
def State.runLoop (s : State) (n : Nat) : State :=
  let o := s.oven n
  match o.valve.mode, o.valve.lastPressure with
  | .auto, some p =>
    let v := s.loopValve o p
    s.applyValve n (v, [toOven n (.valve n v.command)])
  | _, _ => s

/-- The evaluation of a sample: an oven node whose return PR has not taken counts as silent still (R117, R118; log 10). -/
def State.evalSample (s : State) (n : Nat) : State :=
  s.applyValve n (turnTo n (s.valveModeBy (s.hearsOven n) n) (s.oven n).valve)

/-- One sample (R117). Besides a reading that turns valid or INVALID, a node whose return PR has not taken makes it evaluate, so
that the oven stays in HOLD and no loop runs (R118; log 10). -/
def State.takeSample (s : State) (n : Nat) (e : OvenEntry) : State :=
  let v := (s.oven n).valve
  let v1 := v.record e
  let s1 := s.setOven n ((s.oven n).setValve v1)
  let kept := v.lastPressure.isSome == v1.lastPressure.isSome && !s.due.contains (.ovenNodeReturn (nodeNumber n))
  let s2 := if kept then s1 else s1.evalSample n
  s2.runLoop n

/-- OVEN_SAMPLE at PR: the entries of ovens 1 to N (R117). -/
def ovenSample (m : Fin 12) (entries : List OvenEntry) (s : State) : State :=
  (s.served m).foldl
    (fun t n => match entryFor m entries n with
      | some e => t.takeSample n e
      | none => t) s

/-! ### Main samples (R131) -/

/-- The main loop on m, in AUTO (R131). -/
def State.runMainLoop (s : State) : State :=
  let x := s.pr.main
  match x.mode, x.pressure with
  | .auto, some m =>
    let d := limitStep x.stepLimit (rawStep m x.setpoint x.gain x.shift)
    let k := stepCommand x.command d
    (s.withMain { x with command := k, lastStep := d }).issue .main (.mainValve k)
  | _, _ => s

/-- MAIN_REPORT at PR (R131): a main node whose return PR has not taken counts as silent still, so that the report is recorded in
HOLD (R133; log 10). -/
def mainReport (r : MainReport) (s : State) : State :=
  let p := pressureOf r.pressure
  let s1 := s.withMain { s.pr.main with feedback := feedbackOf r.feedback, pressure := p }
  let kept := s.pr.main.pressure.isSome == p.isSome && !s.due.contains .mainNodeReturn
  let s2 := if kept then s1 else s1.turnMain (s1.mainModeBy s1.hearsMain)
  s2.runMainLoop

/-! ### Node silence and return (R118, R133) -/

/-- OVEN_NODE_SILENCE at PR: each of the node's ovens 1 to N is evaluated with the node silent, which it was at this event even
where a report has made its entry LIVE since (R118; log 37). -/
def ovenNodeSilence (m : Fin 12) (s : State) : State := (s.served m).foldl State.evalSilent s

/-- OVEN_NODE_RETURN at PR (R118). -/
def ovenNodeReturn (m : Fin 12) (s : State) : State := s.evalValves (s.served m)

/-- MAIN_NODE_SILENCE at PR: the floor is withdrawn, and HOLD, unless MANUAL, though a report has made the entry LIVE since (R133,
R180; log 37). -/
def mainNodeSilence (s : State) : State := (s.setFloor false).turnMain (s.mainModeBy false)

/-- MAIN_NODE_RETURN at PR: the mode is evaluated and the floor restored, both by FL's entry as it stands (R133, R177, R180; log 10). -/
def mainNodeReturn (s : State) : State := (s.setFloor (s.live .main)).evalMain

/-! ### Profile and loop settings (R120, R121, R129) -/

/-- SET_PROFILE_POINT at PR (R120). -/
def setProfilePoint (index : Byte) (value : Half) (s : State) : Answer :=
  if 16 < index.toNat then s.refuse .badValue
  else
    let v := clampInt (-500) 500 (signedOf value)
    (s.withPr { s.pr with shadow := s.pr.shadow.set index.toNat v }).reply (index :: signed v)

/-- The number of points that differ between the two profiles (R121). -/
def PressureUnit.changedPoints (p : PressureUnit) : Nat :=
  ((List.range 17).filter (fun i => p.active.getD i 0 != p.shadow.getD i 0)).length

/-- APPLY_PROFILE at PR (R121). -/
def applyProfile (s : State) : Answer :=
  (s.withPr { s.pr with active := s.pr.shadow }).reply [byteOf s.pr.changedPoints]

/-- The five loop settings as a reply gives them (R129, R134). -/
def PressureUnit.loopFields (p : PressureUnit) : List Byte :=
  [byteOf (p.gain - 1), byteOf p.shift, byteOf p.stepLimit, byteOf p.leakBias, byteOf p.margin]

/-- SET_LOOP at PR (R129). -/
def setLoop (gain shift limit bias margin : Byte) (s : State) : Answer :=
  let p := { s.pr with
    gain := clampNat 1 16 (gain.toNat + 1), shift := clampNat 0 15 shift.toNat, stepLimit := clampNat 1 64 limit.toNat,
    leakBias := clampNat 0 200 bias.toNat, margin := clampNat 0 100 margin.toNat }
  (s.withPr p).reply p.loopFields

/-! ### Manual valves (R115, R116) -/

/-- VALVE n with the manual position, which the command takes (R115, step 3). -/
def sendManual (n : Nat) (v : Valve) : Valve × List Outgoing :=
  ({ v with command := v.manualPosition }, [toOven n (.valve n v.manualPosition)])

/-- The evaluation of SET_VALVE_MANUAL: a valve in MANUAL already is sent its position too (R115; log 9). -/
def State.evalManual (s : State) (n : Nat) : State :=
  let v := (s.oven n).valve
  if v.mode = .manual ∧ s.valveMode n = .manual then s.applyValve n (sendManual n v) else s.evalValve n

/-- SET_VALVE_MANUAL at PR (R115). -/
def setValveManual (oven : Byte) (position : Half) (s : State) : Answer :=
  let n := oven.toNat
  if !s.inRange n then s.refuse .badOven
  else
    let x := clampNat 0 1023 position.toNat
    let s1 := State.evalManual
      (s.setOven n ((s.oven n).setValve { (s.oven n).valve with manualFlag := true, manualPosition := x })) n
    s1.reply (oven :: (half x ++ [byteOf (s1.oven n).valve.mode.code]))

/-- RELEASE_VALVE at PR (R116): with the flag clear already it changes nothing. -/
def releaseValve (oven : Byte) (s : State) : Answer :=
  let n := oven.toNat
  if !s.inRange n then s.refuse .badOven
  else if !(s.oven n).valve.manualFlag then s.reply [oven, byteOf (s.oven n).valve.mode.code]
  else
    let s1 := State.evalValve (s.setOven n ((s.oven n).setValve { (s.oven n).valve with manualFlag := false })) n
    s1.reply [oven, byteOf (s1.oven n).valve.mode.code]

/-! ### SET_MAIN (R132) -/

/-- The main record as SET_MAIN writes it (R132). -/
def MainRecord.written (x : MainRecord) (setpoint : Half) (gain shift limit : Byte) (manual : Bool) (position : Half) :
    MainRecord :=
  { x with
    setpoint := clampInt (-200) 200 (signedOf setpoint), gain := clampNat 1 16 (gain.toNat + 1),
    shift := clampNat 0 15 shift.toNat, stepLimit := clampNat 1 64 limit.toNat, manualFlag := manual,
    manualPosition := clampNat 0 1023 position.toNat }

/-- The main mode evaluated by SET_MAIN: in MANUAL the position is sent, whether entered now or in force already (R132;
log 9). -/
def State.evalMainManual (s : State) : State :=
  if s.mainMode = .manual then s.sendMainManual else s.withMain { s.pr.main with mode := s.mainMode }

/-- SET_MAIN's reply: the values taken and the main mode (R132). -/
def MainRecord.fields (x : MainRecord) (action : Byte) : List Byte :=
  signed x.setpoint ++ [byteOf (x.gain - 1), byteOf x.shift, byteOf x.stepLimit, action] ++ half x.manualPosition ++
    [byteOf x.mode.code]

/-- SET_MAIN at PR (R132). -/
def setMain (setpoint : Half) (gain shift limit action : Byte) (position : Half) (s : State) : Answer :=
  match boolOfCode action.toNat with
  | none => s.refuse .badValue
  | some manual =>
    let s1 := (s.withMain (s.pr.main.written setpoint gain shift limit manual position)).evalMainManual
    s1.reply (s1.pr.main.fields action)

/-! ### QUERY_PRESSURE (R134) -/

/-- The oven form (R134). -/
def State.ovenPressure (s : State) (n : Nat) : List Byte :=
  let v := (s.oven n).valve
  [byteOf n, byteOf v.mode.code, v.flags (s.live (servingNode n)), v.trace.byte] ++ half v.manualPosition ++
    half v.command ++ signed v.setpoint ++ pressureField v.lastPressure ++ half v.feedback ++ signed v.lastStep

/-- The main form (R134). -/
def State.mainPressure (s : State) : List Byte :=
  let x := s.pr.main
  [0, byteOf x.mode.code, byteOf (bits [x.manualFlag, s.live .main])] ++ signed x.setpoint ++
    [byteOf (x.gain - 1), byteOf x.shift, byteOf x.stepLimit] ++ half x.manualPosition ++ half x.command ++
    pressureField x.pressure ++ half x.feedback ++ signed x.lastStep ++ s.pr.loopFields ++
    s.pr.active.flatMap signed ++ s.pr.shadow.flatMap signed

/-- QUERY_PRESSURE at PR (R134). -/
def queryPressure (selector : Byte) (s : State) : Answer :=
  if s.ovenCount < selector.toNat then s.refuse .badOven
  else if selector = 0 then s.reply s.mainPressure
  else s.reply (s.ovenPressure selector.toNat)

/-! ### The meanings -/

/-- OVEN_SAMPLE (R117). -/
def execOvenSample (m : Fin 12) (entries : List OvenEntry) (s : State) : Host.Outcome State Fault Refusal :=
  s.checked (.ovenSample m entries) (ovenSample m entries)

/-- MAIN_REPORT (R131). -/
def execMainReport (r : MainReport) (s : State) : Host.Outcome State Fault Refusal := s.event (.mainReport r) (mainReport r)

/-- OVEN_NODE_SILENCE (R118). -/
def execOvenNodeSilence (m : Fin 12) (s : State) : Host.Outcome State Fault Refusal :=
  s.event (.ovenNodeSilence m) (ovenNodeSilence m)

/-- OVEN_NODE_RETURN (R118). -/
def execOvenNodeReturn (m : Fin 12) (s : State) : Host.Outcome State Fault Refusal :=
  s.event (.ovenNodeReturn m) (ovenNodeReturn m)

/-- MAIN_NODE_SILENCE (R133). -/
def execMainNodeSilence (s : State) : Host.Outcome State Fault Refusal := s.event .mainNodeSilence mainNodeSilence

/-- MAIN_NODE_RETURN (R133). -/
def execMainNodeReturn (s : State) : Host.Outcome State Fault Refusal := s.event .mainNodeReturn mainNodeReturn

/-- SET_PROFILE_POINT (R120). -/
def execSetProfilePoint (tag index : Byte) (value : Half) (s : State) : Host.Outcome State Fault Refusal :=
  hostRequest (.setProfilePoint tag index value) (setProfilePoint index value) s

/-- APPLY_PROFILE (R121). -/
def execApplyProfile (tag : Byte) (s : State) : Host.Outcome State Fault Refusal :=
  hostRequest (.applyProfile tag) applyProfile s

/-- SET_LOOP (R129). -/
def execSetLoop (tag gain shift limit bias margin : Byte) (s : State) : Host.Outcome State Fault Refusal :=
  hostRequest (.setLoop tag gain shift limit bias margin) (setLoop gain shift limit bias margin) s

/-- SET_VALVE_MANUAL (R115). -/
def execSetValveManual (tag oven : Byte) (position : Half) (s : State) : Host.Outcome State Fault Refusal :=
  hostRequest (.setValveManual tag oven position) (setValveManual oven position) s

/-- RELEASE_VALVE (R116). -/
def execReleaseValve (tag oven : Byte) (s : State) : Host.Outcome State Fault Refusal :=
  hostRequest (.releaseValve tag oven) (releaseValve oven) s

/-- SET_MAIN (R132). -/
def execSetMain (tag : Byte) (setpoint : Half) (gain shift limit action : Byte) (position : Half) (s : State) :
    Host.Outcome State Fault Refusal :=
  hostRequest (.setMain tag setpoint gain shift limit action position)
    (setMain setpoint gain shift limit action position) s

/-- QUERY_PRESSURE (R134). -/
def execQueryPressure (tag selector : Byte) (s : State) : Host.Outcome State Fault Refusal :=
  hostRequest (.queryPressure tag selector) (queryPressure selector) s

end Sys2Proof.Machine
end

