-- ==== Sys2Proof/Machine/Quench.lean ====
section
/-!
DEFINITION. Chapter 6: car and tower reports, the quench unit's timers, node silences and ESTOP# at QU, and its requests.
-/

namespace Sys2Proof.Machine

/-! ### Car reports (R139) -/

/-- The fields of a report recorded (R139). -/
def CarRecord.record (r : CarRecord) (x : CarReport) : CarRecord :=
  { r with position := x.position, status := x.status, fault := x.fault.toNat }

/-- A claimed SPOTTED or LOADED car away from the pushed oven (R145). -/
def State.offSpot (s : State) (c : Car) : Bool :=
  ((s.car c).state == .spotted || (s.car c).state == .loaded) &&
    (s.pu.claim c).any (fun k => (s.car c).position != .oven k.oven)

/-- A target at an oven (R139). -/
def Location.atOven : Location → Bool
  | .oven _ => true
  | .unknown => false
  | .approachT => false
  | .tower => false
  | .approachW => false
  | .bay _ => false

/-- The recorded report is an arrival: its position is the target, with status ready for a target at an oven (R139). -/
def CarRecord.arrives (r : CarRecord) : Bool :=
  match r.target with
  | some l => r.position == l && (!Location.atOven l || r.status == .ready)
  | none => false

/-- Arrival of a TO_TOWER car: WAITING_TOWER at the approach, or SPRAY on for the holder at the tower (R149). -/
def State.arriveTower (s : State) (c : Car) (l : Location) : State :=
  if c ∈ s.qu.waiters ∧ l = .approachT then s.setCar c { s.car c with state := .waitingTower }
  else if s.qu.holder = some c ∧ l = .tower then s.issue .tower (.spray true)
  else s

/-- Arrival of a TO_WHARF car at its bay: the gate opens and the dump begins (R155). -/
def State.beginDump (s : State) (c : Car) : State :=
  match (s.car c).reservedBay with
  | some b =>
    (s.setCar c { s.car c with state := .dumping, dumpTimer := some s.qu.limits.dump }).issue .tower (.gate b true)
  | none => s

/-- An arrival: the target is cleared, the travel timer stops, and the state's rule acts (R139, R144, R149, R152, R155). -/
def State.arrive (s : State) (c : Car) (l : Location) : State :=
  let s1 := s.setCar c { s.car c with target := none, travelTimer := none }
  match (s.car c).state with
  | .toSpot => (s1.setCar c { s1.car c with state := .spotted }).judgeSpot
  | .toTower => s1.arriveTower c l
  | .toWharf => s1.beginDump c
  | .waitingBay => s1
  | .outOfService => s1
  | .parked => s1
  | .spotted => s1
  | .loaded => s1
  | .waitingTower => s1
  | .quenching => s1
  | .draining => s1
  | .dumping => s1
  | .faulted => s1

/-- A loaded report: a SPOTTED car claimed at RAM becomes LOADED (R146). -/
def State.loadCar (s : State) (c : Car) : State :=
  let r := s.car c
  match r.state, s.pu.claim c with
  | .spotted, some k =>
    if k.atRam then
      s.setCar c { r with
        state := .loaded, load := some ⟨k.number, k.oven, s.bk.seconds⟩, hotTimer := some s.qu.limits.hotCoke }
    else s
  | _, _ => s

/-- The bay of the car becomes OCCUPIED and its gate is closed (R155, steps 2 and 3; R141, step 3). -/
def State.fillBay (s : State) (b : Nat) : State := (s.withQu (s.qu.occupy b)).issue .tower (.gate b false)

/-- LOAD_DUMPED for the load a car has tipped (R155, step 4). -/
def dumpedNotice (c : Car) (b : Nat) : Option Load → List NoticeBody
  | some l => [.loadDumped c b l.oven l.number]
  | none => []

/-- An empty report ends a dump: the steps of R155, then candidate evaluation, since the car becomes PARKED (R48). -/
def State.endDump (s : State) (c : Car) : State :=
  let r := s.car c
  match r.state, r.reservedBay with
  | .dumping, some b =>
    let s1 := (s.fillBay b).raiseAll (dumpedNotice c b r.load)
    State.evaluate (s1.setCar c { s1.car c with state := .parked, dumpTimer := none, load := none, reservedBay := none })
  | _, _ => s

/-- The status of a report that is no fault, no off-spot position and no arrival (R139, R146, R155). -/
def State.judgeStatus (s : State) (c : Car) : State :=
  match (s.car c).status with
  | .loaded => s.loadCar c
  | .empty => s.endDump c
  | .ready => s
  | .dumping => s

/-- A recorded report acted on: the first step of R139 that applies. -/
def State.judgeCar (s : State) (c : Car) : State :=
  let r := s.car c
  if !r.inService || r.faulted then s
  else if r.fault ≠ 0 then s.faultCar c .report
  else if s.offSpot c then s.faultCar c .offSpot
  else if r.arrives then s.arrive c r.position
  else s.judgeStatus c

/-- CAR_REPORT at QU (R139). -/
def carReport (c : Car) (x : CarReport) (s : State) : State := (s.setCar c ((s.car c).record x)).judgeCar c

/-! ### Tower reports and the tower node (R151, R153) -/

/-- The holder's quench begins (R151). -/
def State.beginQuench (s : State) (c : Car) : State :=
  s.setCar c { s.car c with
    state := .quenching, quenchTimer := some s.qu.limits.quench, hotTimer := none, hotLate := false }

/-- TOWER_REPORT at QU (R151). -/
def towerReport (x : TowerReport) (s : State) : State :=
  let s1 := s.withQu { s.qu with sprayReported := x.spray, carInTower := x.carInTower }
  match x.carInTower with
  | some c => if x.spray ∧ s1.awaitsSpray c then s1.beginQuench c else s1
  | none => s1

/-- TOWER_NODE_SILENCE at QU: the recorded indications are kept and every timer runs on (R153). -/
def towerNodeSilence (s : State) : State := s

/-- The spray the tower should show: on while the holder awaits spray or is QUENCHING (R153). -/
def State.sprayWanted (s : State) : Bool :=
  match s.qu.holder with
  | some c => s.awaitsSpray c || (s.car c).state == .quenching
  | none => false

/-- The gate of bay b should stand open: its reserving car is DUMPING, or FAULTED at that bay (R153). -/
def State.gateWanted (s : State) (b : Nat) : Bool :=
  match (s.qu.bay b).car with
  | some c => (s.car c).state == .dumping || ((s.car c).faulted && (s.car c).position == .bay b)
  | none => false

/-- TOWER_NODE_RETURN at QU: the tower node's commands are sent again (R153). -/
def towerNodeReturn (s : State) : State :=
  s.issueAll (⟨.tower, .spray s.sprayWanted⟩ :: allBays.map (fun b => ⟨.tower, .gate b (s.gateWanted b)⟩))

/-! ### Timers (R151, R152, R155 to R158) -/

/-- The quench timer runs out: SPRAY off, DRAINING (R151). -/
def quenchTimerExpiry (c : Car) (s : State) : State :=
  let r := s.car c
  if s.running && ranOut r.quenchTimer then
    if r.state = .quenching then
      (s.setCar c { r with state := .draining, quenchTimer := none, drainTimer := some s.qu.limits.drain }).issue .tower
        (.spray false)
    else s.setCar c { r with quenchTimer := none }
  else s

/-- A drained car's way to the wharf: the lowest-numbered FREE bay, else the bay waiting list and the wharf approach
(R152, steps 2 and 3). -/
def State.seekBay (s : State) (c : Car) : State :=
  match s.qu.firstFree with
  | some b => s.reserveBay b c
  | none =>
    State.moveCar (s.withQu { s.qu with bayWaiters := s.qu.bayWaiters ++ [c] }) c .approachW
      { s.car c with state := .waitingBay }

/-- The grant is released if car c holds it (R141, R152). -/
def State.leaveTower (s : State) (c : Car) : State := if s.qu.holder = some c then s.releaseTower else s

/-- The drain timer runs out: the steps of R152. -/
def drainTimerExpiry (c : Car) (s : State) : State :=
  let r := s.car c
  if s.running && ranOut r.drainTimer then
    let s1 := s.setCar c { r with drainTimer := none }
    if r.state = .draining then (s1.leaveTower c).seekBay c else s1
  else s

/-- The dump timer runs out with the car DUMPING (R155). -/
def dumpTimerExpiry (c : Car) (s : State) : State :=
  let r := s.car c
  if s.running && ranOut r.dumpTimer then
    if r.state = .dumping then s.faultCar c .dump else s.setCar c { r with dumpTimer := none }
  else s

/-- A bay's hold timer runs out: the bay becomes FREE and is handed on (R156). -/
def bayHoldTimerExpiry (b : Nat) (s : State) : State :=
  if s.running && ranOut (s.qu.bay b).holdTimer then s.freeBay b else s

/-- The travel timer runs out with the target still set (R157). -/
def travelTimerExpiry (c : Car) (s : State) : State :=
  let r := s.car c
  if s.running && ranOut r.travelTimer then
    if r.target.isSome && r.inService && !r.faulted then s.faultCar c .travel
    else s.setCar c { r with travelTimer := none }
  else s

/-- HOT_COKE_LATE for a car's load (R158). -/
def lateNotice (c : Car) : Option Load → List NoticeBody
  | some l => [.hotCokeLate c l.oven l.number]
  | none => []

/-- The hot-coke timer runs out (R158). -/
def hotCokeTimerExpiry (c : Car) (s : State) : State :=
  let r := s.car c
  if s.running && ranOut r.hotTimer then
    (s.setCar c { r with hotTimer := none, hotLate := true }).raiseAll (lateNotice c r.load)
  else s

/-! ### Silence and ESTOP# (R159, R161, R162) -/

/-- CAR_NODE_SILENCE at QU (R159). For a car out of service R180 has QU record the fact; the record is FL's entry, and QU's state
is left (log 35). -/
def carNodeSilence (c : Car) (s : State) : State :=
  if (s.car c).inService && !(s.car c).faulted then s.faultCar c .silent else s

/-- ESTOP# assertion for one car: HALT, the travel timer stopped, target and state kept (R161). -/
def State.haltCar (s : State) (c : Car) : State :=
  if (s.car c).travelTimer.isSome then (s.setCar c { s.car c with travelTimer := none }).issue (.car c) .halt else s

/-- ESTOP_AT_QU (R161). -/
def estopAtQu (s : State) : State := (s.haltCar .one).haltCar .two

/-- ESTOP# release for one car: MOVE with its target, the timer afresh (R162). -/
def State.resumeCar (s : State) (c : Car) : State :=
  match (s.car c).target with
  | some l => (s.setCar c { s.car c with travelTimer := some s.qu.limits.travel }).issue (.car c) (.move l)
  | none => s

/-- ESTOP_RELEASE_AT_QU (R162). -/
def estopReleaseAtQu (s : State) : State := (s.resumeCar .one).resumeCar .two

/-! ### CAR_SERVICE (R140, R141) -/

/-- A car taken into service, an event of candidate evaluation (R48, R140). -/
def State.parkCar (s : State) (c : Car) : State := State.evaluate (s.setCar c { s.car c with state := .parked })

/-- CAR_SERVICE IN's reply (R140): the fields as they stand when the reply is formed (log 20). -/
def State.carFields (s : State) (c : Car) : List Byte :=
  [byteOf c.code, byteOf (s.car c).state.code, byteOf (s.car c).position.code]

/-- CAR_SERVICE IN at QU (R140). -/
def carServiceIn (car : Byte) (s : State) : Answer :=
  match Car.ofCode car.toNat with
  | none => s.refuse .badValue
  | some c =>
    if (s.car c).state ≠ .outOfService then s.reply (s.carFields c)
    else if !s.live (.car c) then s.refuse .nodeSilent
    else (s.parkCar c).reply ((s.parkCar c).carFields c)

/-- LOAD_DISCARDED for the load a faulted car holds (R141, step 2). -/
def discardedNotice (c : Car) : Option Load → List NoticeBody
  | some l => [.loadDiscarded c l.oven l.number]
  | none => []

/-- The reserved bay of a recovered car: OCCUPIED if the car stands at it, else FREE and handed on (R141, step 3;
log 18). -/
def State.endReservation (s : State) (c : Car) : State :=
  match (s.car c).reservedBay with
  | none => s
  | some b =>
    let s1 := s.setCar c { s.car c with reservedBay := none }
    if (s.car c).position = .bay b then s1.fillBay b else s1.freeBay b

/-- A stall record names the car with car claimed set (R141, step 4). -/
def State.stallClaims (s : State) (c : Car) : Bool := s.pu.stall.any (fun r => r.car == c && r.claimed)

/-- Car claimed is cleared in a stall record that names the car (R141, step 4). -/
def State.clearStallClaim (s : State) (c : Car) : State :=
  if s.stallClaims c then s.withPu { s.pu with stall := s.pu.stall.map (fun r => { r with claimed := false }) } else s

/-- Every timer of the car stops and it becomes OUT_OF_SERVICE (R141, step 5). -/
def CarRecord.retire (r : CarRecord) : CarRecord :=
  { r with state := .outOfService, travelTimer := none, hotTimer := none, quenchTimer := none, drainTimer := none,
           dumpTimer := none }

/-- The recovery of a FAULTED car: the steps of R141 in order. -/
def State.recoverCar (s : State) (c : Car) : State :=
  let s1 := s.leaveTower c
  let s2 := s1.setCar c { s1.car c with load := none, hotTimer := none, hotLate := false }
  let s3 := ((s2.raiseAll (discardedNotice c (s1.car c).load)).endReservation c).clearStallClaim c
  s3.setCar c (s3.car c).retire

/-- The flags of CAR_SERVICE OUT's reply (R141). -/
def State.recoverFlags (s : State) (c : Car) : Nat :=
  let r := s.car c
  let atBay := r.reservedBay.any (fun b => r.position == .bay b)
  bits [s.qu.holder == some c, r.load.isSome, atBay, r.reservedBay.isSome && !atBay, s.stallClaims c]

/-- CAR_SERVICE OUT at QU (R141). -/
def carServiceOut (car : Byte) (s : State) : Answer :=
  match Car.ofCode car.toNat with
  | none => s.refuse .badValue
  | some c =>
    let done := [byteOf c.code, byteOf CarState.outOfService.code]
    match (s.car c).state with
    | .outOfService => s.reply (done ++ [0])
    | .parked => (s.setCar c { s.car c with state := .outOfService }).reply (done ++ [0])
    | .faulted => (s.recoverCar c).reply (done ++ [byteOf (s.recoverFlags c)])
    | .toSpot => s.refuse .busy
    | .spotted => s.refuse .busy
    | .loaded => s.refuse .busy
    | .toTower => s.refuse .busy
    | .waitingTower => s.refuse .busy
    | .quenching => s.refuse .busy
    | .draining => s.refuse .busy
    | .waitingBay => s.refuse .busy
    | .toWharf => s.refuse .busy
    | .dumping => s.refuse .busy

/-! ### Zones and limits (R143, R163) -/

/-- The alternate a byte names: 0 none (R142). -/
def alternateOf (b : Byte) : Option (Option Car) := if b = 0 then some none else (Car.ofCode b.toNat).map some

/-- The zone table that entries spell, if every one is acceptable (R143). -/
def zonesOf : List (Byte × Byte) → Option (List Zone)
  | [] => some []
  | e :: rest =>
    match Car.ofCode e.1.toNat, alternateOf e.2, zonesOf rest with
    | some p, some a, some zs => some (⟨p, a⟩ :: zs)
    | _, _, _ => none

/-- The two bytes of a zone entry (R142, R164). -/
def Zone.fields (z : Zone) : List Byte := [byteOf z.preferred.code, byteOf (optCode Car.code z.alternate)]

/-- SET_ZONES at QU (R143). -/
def setZones (shift : Byte) (entries : List (Byte × Byte)) (s : State) : Answer :=
  if 4 < shift.toNat then s.refuse .badValue
  else match zonesOf entries with
    | none => s.refuse .badValue
    | some zs =>
      if s.pu.push.isSome then s.refuse .busy
      else (s.withQu { s.qu with zoneShift := shift.toNat, zones := zs }).reply (shift :: zs.flatMap Zone.fields)

/-- The six limits as a reply gives them (R163). -/
def QuenchLimits.fields (l : QuenchLimits) : List Byte :=
  half l.quench ++ half l.drain ++ half l.hotCoke ++ half l.travel ++ half l.dump ++ half l.bayHold

/-- SET_QUENCH_LIMITS at QU (R163). -/
def setQuenchLimits (quench drain hotCoke travel dump bayHold : Half) (s : State) : Answer :=
  let l : QuenchLimits :=
    ⟨clampNat 60 180 quench.toNat, clampNat 20 120 drain.toNat, clampNat 60 600 hotCoke.toNat,
     clampNat 30 600 travel.toNat, clampNat 10 120 dump.toNat, clampNat 300 3600 bayHold.toNat⟩
  (s.withQu { s.qu with limits := l }).reply l.fields

/-! ### QUERY_QUENCH (R164) -/

/-- A car list in two places after its length (R164). -/
def carList (l : List Car) : List Byte := byteOf l.length :: placed 2 (l.map Car.code)

/-- The quench, drain or dump timer, whichever runs (R164). -/
def CarRecord.stationTimer (r : CarRecord) : Nat := remaining (r.quenchTimer.or (r.drainTimer.or r.dumpTimer))

/-- The load fields of a car: 0 without a load record (R164). -/
def loadFields : Option Load → List Byte
  | some l => halfBytes l.number ++ [byteOf l.oven] ++ wordBytes l.second
  | none => List.replicate 7 0

/-- The twenty bytes of a car (R164). -/
def State.carQuery (s : State) (c : Car) : List Byte :=
  let r := s.car c
  [byteOf r.state.code, byteOf r.position.code, r.flags (decide (c ∈ s.qu.waiters)) (s.pu.claim c).isSome,
   byteOf (optCode Location.code r.target)] ++ half (remaining r.travelTimer) ++ half r.stationTimer ++
    half (remaining r.hotTimer) ++ loadFields r.load ++
    [byteOf r.status.code, byteOf r.fault, byteOf (optCode FaultCause.code r.lastFault)]

/-- The four bytes of a bay (R164). -/
def Bay.fields (b : Bay) : List Byte :=
  [byteOf b.state.code, byteOf (optCode Car.code b.car)] ++ half (remaining b.holdTimer)

/-- QUERY_QUENCH at QU (R164). -/
def queryQuench (s : State) : Answer :=
  let q := s.qu
  s.reply ([byteOf (optCode Car.code q.holder)] ++ carList q.waiters ++ carList q.bayWaiters ++
    [flag q.sprayReported, byteOf (optCode Car.code q.carInTower), byteOf q.zoneShift] ++
    s.carQuery .one ++ s.carQuery .two ++ allBays.flatMap (fun b => (q.bay b).fields) ++ q.zones.flatMap Zone.fields)

/-! ### The meanings -/

/-- CAR_REPORT (R139). -/
def execCarReport (c : Car) (r : CarReport) (s : State) : Host.Outcome State Fault Refusal :=
  s.checked (.carReport c r) (carReport c r)

/-- TOWER_REPORT (R151). -/
def execTowerReport (r : TowerReport) (s : State) : Host.Outcome State Fault Refusal :=
  s.event (.towerReport r) (towerReport r)

/-- QUENCH_TIMER_EXPIRY (R151). -/
def execQuenchTimerExpiry (c : Car) (s : State) : Host.Outcome State Fault Refusal :=
  s.event (.quenchTimerExpiry c) (quenchTimerExpiry c)

/-- DRAIN_TIMER_EXPIRY (R152). -/
def execDrainTimerExpiry (c : Car) (s : State) : Host.Outcome State Fault Refusal :=
  s.event (.drainTimerExpiry c) (drainTimerExpiry c)

/-- DUMP_TIMER_EXPIRY (R155). -/
def execDumpTimerExpiry (c : Car) (s : State) : Host.Outcome State Fault Refusal :=
  s.event (.dumpTimerExpiry c) (dumpTimerExpiry c)

/-- BAY_HOLD_TIMER_EXPIRY (R156). -/
def execBayHoldTimerExpiry (b : Nat) (s : State) : Host.Outcome State Fault Refusal :=
  s.checked (.bayHoldTimerExpiry b) (bayHoldTimerExpiry b)

/-- TRAVEL_TIMER_EXPIRY (R157). -/
def execTravelTimerExpiry (c : Car) (s : State) : Host.Outcome State Fault Refusal :=
  s.event (.travelTimerExpiry c) (travelTimerExpiry c)

/-- HOT_COKE_TIMER_EXPIRY (R158). -/
def execHotCokeTimerExpiry (c : Car) (s : State) : Host.Outcome State Fault Refusal :=
  s.event (.hotCokeTimerExpiry c) (hotCokeTimerExpiry c)

/-- CAR_NODE_SILENCE (R159). -/
def execCarNodeSilence (c : Car) (s : State) : Host.Outcome State Fault Refusal :=
  s.event (.carNodeSilence c) (carNodeSilence c)

/-- TOWER_NODE_SILENCE (R153). -/
def execTowerNodeSilence (s : State) : Host.Outcome State Fault Refusal := s.event .towerNodeSilence towerNodeSilence

/-- TOWER_NODE_RETURN (R153). -/
def execTowerNodeReturn (s : State) : Host.Outcome State Fault Refusal := s.event .towerNodeReturn towerNodeReturn

/-- ESTOP_AT_QU (R161). -/
def execEstopAtQu (s : State) : Host.Outcome State Fault Refusal := s.event .estopAtQu estopAtQu

/-- ESTOP_RELEASE_AT_QU (R162). -/
def execEstopReleaseAtQu (s : State) : Host.Outcome State Fault Refusal := s.event .estopReleaseAtQu estopReleaseAtQu

/-- CAR_SERVICE_IN (R140). -/
def execCarServiceIn (tag car : Byte) (s : State) : Host.Outcome State Fault Refusal :=
  hostRequest (.carServiceIn tag car) (carServiceIn car) s

/-- CAR_SERVICE_OUT (R141). -/
def execCarServiceOut (tag car : Byte) (s : State) : Host.Outcome State Fault Refusal :=
  hostRequest (.carServiceOut tag car) (carServiceOut car) s

/-- SET_ZONES (R143). -/
def execSetZones (tag shift : Byte) (entries : List (Byte × Byte)) (s : State) : Host.Outcome State Fault Refusal :=
  hostRequest (.setZones tag shift entries) (setZones shift entries) s

/-- SET_QUENCH_LIMITS (R163). -/
def execSetQuenchLimits (tag : Byte) (quench drain hotCoke travel dump bayHold : Half) (s : State) :
    Host.Outcome State Fault Refusal :=
  hostRequest (.setQuenchLimits tag quench drain hotCoke travel dump bayHold)
    (setQuenchLimits quench drain hotCoke travel dump bayHold) s

/-- QUERY_QUENCH (R164). -/
def execQueryQuench (tag : Byte) (s : State) : Host.Outcome State Fault Refusal :=
  hostRequest (.queryQuench tag) queryQuench s

end Sys2Proof.Machine
end

