-- ==== Sys2Proof/Machine/Snapshots.lean ====
section
/-!
DEFINITION. Chapter 9: the hold set, ALARM_SUMMARY, SET_TIME, and the battery second with the timers it reaches.
-/

namespace Sys2Proof.Machine

/-! ### The hold set (R197 to R201) -/

/-- The values of held status (R198). -/
def Oven.heldStatusNow (o : Oven) : HeldStatus :=
  { phase := o.phase, late := o.late, doorP := o.doorP.state, doorC := o.doorC.state, mode := o.valve.mode,
    command := o.valve.command, setpoint := o.valve.setpoint, lastPressure := o.valve.lastPressure }

/-- The values of held age (R198). -/
def Oven.heldAgeNow (o : Oven) (minute : Word) : HeldAge := ⟨o.progress, minute - o.chargedAt, o.soakRemaining⟩

/-- One oven at a HOLD: each absent item the mask names is captured; a present one is left (R199). -/
def Oven.capture (o : Oven) (status age : Bool) (minute : Word) : Oven :=
  { o with
    heldStatus := if status then some (o.heldStatus.getD o.heldStatusNow) else o.heldStatus
    heldAge := if age then some (o.heldAge.getD (o.heldAgeNow minute)) else o.heldAge }

/-- The items the mask names that are present already (R199). -/
def Oven.ignored (o : Oven) (status age : Bool) : Nat :=
  boolCode (status && o.heldStatus.isSome) + boolCode (age && o.heldAge.isSome)

/-- The items of an oven that are present. -/
def Oven.heldItems (o : Oven) : Nat := boolCode o.heldStatus.isSome + boolCode o.heldAge.isSome

/-- Both items absent. -/
def Oven.release (o : Oven) : Oven := { o with heldStatus := none, heldAge := none }

/-- The 96 records with their numbers (R197: whatever the oven count). -/
def State.numbered (s : State) : List (Oven × Nat) := s.ovens.zipIdx 1

/-- HOLD at SA (R199). -/
def hold (first count mask : Byte) (s : State) : Answer :=
  let f := first.toNat
  let last := f + count.toNat
  if !s.inRange f then s.refuse .badOven
  else if s.ovenCount < last then s.refuse .badOven
  else if mask.toNat = 0 ∨ 3 < mask.toNat then s.refuse .badValue
  else
    let st := mask.getLsbD 0
    let ag := mask.getLsbD 1
    let named := s.numbered.filter (fun x => decide (f ≤ x.2 ∧ x.2 ≤ last))
    let ignored := (named.map (fun x => x.1.ignored st ag)).sum
    let total := (count.toNat + 1) * (boolCode st + boolCode ag)
    let ovens := s.numbered.map (fun x => if f ≤ x.2 ∧ x.2 ≤ last then x.1.capture st ag s.bk.minutes else x.1)
    (s.withOvens ovens).reply (half (total - ignored) ++ half ignored)

/-- Held status as COLLECT returns it (R198). -/
def HeldStatus.fields (h : HeldStatus) : List Byte :=
  [byteOf h.phase.code, flag h.late, byteOf h.doorP.code, byteOf h.doorC.code, byteOf h.mode.code] ++ half h.command ++
    signed h.setpoint ++ pressureField h.lastPressure

/-- Held age as COLLECT returns it (R198). -/
def HeldAge.fields (h : HeldAge) : List Byte := word h.progress ++ wordBytes h.minutes ++ half h.soakRemaining

/-- One oven entry of COLLECT's reply (R200). -/
def heldEntry (x : Oven × Nat) : List Byte :=
  [byteOf x.2, byteOf (bits [x.1.heldStatus.isSome, x.1.heldAge.isSome])] ++
    ((x.1.heldStatus.map HeldStatus.fields).getD []) ++ ((x.1.heldAge.map HeldAge.fields).getD [])

/-- The first six ovens that have an item present (R200). -/
def State.collected (s : State) : List (Oven × Nat) := (s.numbered.filter (fun x => x.1.heldItems != 0)).take 6

/-- COLLECT at SA (R200). -/
def collect (s : State) : Answer :=
  let got := s.collected
  let ovens := s.numbered.map (fun x => if x.2 ∈ got.map (·.2) then x.1.release else x.1)
  let more := ovens.any (fun o => o.heldItems != 0)
  (s.withOvens ovens).reply ([flag more, byteOf got.length] ++ got.flatMap heldEntry)

/-- RELEASE_HOLDS at SA (R201). -/
def releaseHolds (s : State) : Answer :=
  (s.withOvens (s.ovens.map Oven.release)).reply (half (s.ovens.map Oven.heldItems).sum)

/-! ### ALARM_SUMMARY and SET_TIME (R204, R208) -/

/-- The three bytes of a subject entry (R204). -/
def Subject.fields (x : Subject) : List Byte := [byteOf x.kind, byteOf x.number, byteOf x.side]

/-- ALARM_SUMMARY at SA (R204). -/
def alarmSummary (s : State) : Answer :=
  let listed := s.alarms.take 16
  s.reply (s.alarmKinds.map (fun k => byteOf k.length) ++ [byteOf listed.length] ++ listed.flatMap Subject.fields ++
    List.replicate (48 - 3 * listed.length) 0)

/-- SET_TIME at BK (R208). -/
def setTime (minutes : Word) (s : State) : Answer :=
  if s.running then s.refuse .wrongMode
  else (s.withBk { s.bk with minutes := minutes }).reply (wordBytes minutes ++ wordBytes s.bk.seconds)

/-! ### The battery second (R205, R206) -/

/-- The quiet seconds of a node at a battery second: an in-use LIVE entry counts up to its window (R178). -/
def NodeEntry.tick (e : NodeEntry) (window : Nat) : NodeEntry :=
  if e.inUse && e.liveness == .live then { e with quiet := min window (e.quiet + 1) } else e

/-- Every silence window counts, in CONFIG and in RUN (R178, R206). -/
def FieldLink.tick (f : FieldLink) : FieldLink :=
  { f with nodes := (f.nodes.zip Node.all).map (fun x => x.1.tick x.2.window) }

/-- A door's timers at a battery second (R92, R95). -/
def Door.tick (d : Door) : Door :=
  { d with doorOffTimer := Machine.tick d.doorOffTimer, settleTimer := Machine.tick d.settleTimer }

/-- An oven's timers at a battery second (R8, R92, R95). -/
def Oven.tick (o : Oven) : Oven :=
  { o with chargeTimer := Machine.tick o.chargeTimer, doorP := o.doorP.tick, doorC := o.doorC.tick }

/-- The coke-minute timer counts 0 to 59; the second that would bring it to 60 returns it to 0, and a coke-minute expiry has come
(R16; log 3). -/
def CokingClock.tick (c : CokingClock) : CokingClock :=
  if c.minuteTimer + 1 < 60 then { c with minuteTimer := c.minuteTimer + 1 }
  else { c with minuteTimer := 0, minutesDue := c.minutesDue + 1 }

/-- The pacer adds Q to A in AUTO; a sum of 65,536 or more is stored less 65,536, and a slot carry has come (R32; log 3). -/
def ScheduleUnit.tick (u : ScheduleUnit) : ScheduleUnit :=
  let sum := u.accumulator + u.increment
  if u.mode ≠ .auto then u
  else if sum < 65536 then { u with accumulator := sum }
  else { u with accumulator := sum - 65536, carriesDue := u.carriesDue + 1 }

/-- The stage timer counts while a push exists (R61). -/
def PushUnit.tick (p : PushUnit) : PushUnit := { p with push := p.push.map (fun r => { r with timer := r.timer - 1 }) }

/-- A car's timers: the travel timer only while ESTOP# is not asserted (R157, R158, R206). -/
def CarRecord.tick (r : CarRecord) (estop : Bool) : CarRecord :=
  { r with
    travelTimer := if estop then r.travelTimer else Machine.tick r.travelTimer
    hotTimer := Machine.tick r.hotTimer
    quenchTimer := Machine.tick r.quenchTimer
    drainTimer := Machine.tick r.drainTimer
    dumpTimer := Machine.tick r.dumpTimer }

/-- QU's timers (R206). -/
def QuenchUnit.tick (q : QuenchUnit) (estop : Bool) : QuenchUnit :=
  { q with
    car1 := q.car1.tick estop
    car2 := q.car2.tick estop
    bays := q.bays.map (fun b => { b with holdTimer := Machine.tick b.holdTimer }) }

/-- The timers that run in RUN only (R206). -/
def State.tickRun (s : State) : State :=
  let ovens := s.numbered.map (fun x => if x.2 ≤ s.ovenCount then x.1.tick else x.1)
  ((((s.withOvens ovens).withCc s.cc.tick).withSu s.su.tick).withPu s.pu.tick).withQu (s.qu.tick s.pins.estop)

/-- One event if its condition holds. -/
def dueIf (p : Bool) (c : Instr) : List Instr := if p then [c] else []

/-- A LIVE in-use node has reached its silence window and its silence has not been taken (R178; log 3). -/
def NodeEntry.overdue (e : NodeEntry) (window : Nat) : Bool :=
  e.inUse && e.liveness == .live && decide (window ≤ e.quiet)

/-- The silence windows that have run out. -/
def State.silencesDue (s : State) : List Instr :=
  (Node.all.filter (fun x => (s.fl.entry x).overdue x.window)).map Instr.silenceWindowExpiry

/-- The expiries due at one oven's record (R9, R92, R96). -/
def ovenExpiries (x : Oven × Nat) : List Instr :=
  dueIf (ranOut x.1.chargeTimer) (.chargeTimerExpiry x.2) ++
    dueIf (ranOut x.1.doorP.settleTimer) (.settleTimerExpiry x.2 .p) ++
    dueIf (ranOut x.1.doorC.settleTimer) (.settleTimerExpiry x.2 .c) ++
    dueIf (ranOut x.1.doorP.doorOffTimer) (.doorOffTimerExpiry x.2 .p) ++
    dueIf (ranOut x.1.doorC.doorOffTimer) (.doorOffTimerExpiry x.2 .c)

/-- The expiries due at one car's record (R151, R152, R155, R157, R158). -/
def State.carExpiries (s : State) (c : Car) : List Instr :=
  let r := s.car c
  dueIf (ranOut r.travelTimer) (.travelTimerExpiry c) ++ dueIf (ranOut r.hotTimer) (.hotCokeTimerExpiry c) ++
    dueIf (ranOut r.quenchTimer) (.quenchTimerExpiry c) ++ dueIf (ranOut r.drainTimer) (.drainTimerExpiry c) ++
    dueIf (ranOut r.dumpTimer) (.dumpTimerExpiry c)

/-- The expiries due in RUN, in the order the model takes them (log 5). -/
def State.expiriesDue (s : State) : List Instr :=
  List.replicate s.cc.minutesDue .cokeMinuteExpiry ++ s.inUse.flatMap ovenExpiries ++
    List.replicate s.su.carriesDue .slotCarry ++
    dueIf (s.pu.push.any (fun r => r.timer == 0)) .stageTimerExpiry ++ allCars.flatMap s.carExpiries ++
    (allBays.filter (fun b => ranOut (s.qu.bay b).holdTimer)).map Instr.bayHoldTimerExpiry

/-- A battery second: the count, the silence windows, in RUN every other timer, and the expiries that fall due (R205,
R206). -/
def batterySecond (s : State) : State :=
  let s1 := (s.withBk { s.bk with seconds := s.bk.seconds + 1 }).withFl s.fl.tick
  let s2 := if s.running then s1.tickRun else s1
  s2.bringOwed (s2.silencesDue ++ if s.running then s2.expiriesDue else [])

/-! ### The meanings -/

/-- HOLD (R199). -/
def execHold (tag first count mask : Byte) (s : State) : Host.Outcome State Fault Refusal :=
  hostRequest (.hold tag first count mask) (hold first count mask) s

/-- COLLECT (R200). -/
def execCollect (tag : Byte) (s : State) : Host.Outcome State Fault Refusal := hostRequest (.collect tag) collect s

/-- RELEASE_HOLDS (R201). -/
def execReleaseHolds (tag : Byte) (s : State) : Host.Outcome State Fault Refusal :=
  hostRequest (.releaseHolds tag) releaseHolds s

/-- ALARM_SUMMARY (R204). -/
def execAlarmSummary (tag : Byte) (s : State) : Host.Outcome State Fault Refusal :=
  hostRequest (.alarmSummary tag) alarmSummary s

/-- SET_TIME (R208). -/
def execSetTime (tag : Byte) (minutes : Word) (s : State) : Host.Outcome State Fault Refusal :=
  hostRequest (.setTime tag minutes) (setTime minutes) s

/-- BATTERY_SECOND (R205). -/
def execBatterySecond (s : State) : Host.Outcome State Fault Refusal := s.event .batterySecond batterySecond

end Sys2Proof.Machine
end

