-- ==== Sys2Proof/Machine/Setup.lean ====
section
/-!
DEFINITION. Chapter 10: SET_BATTERY, OVEN_LOAD, START and STOP.
-/

namespace Sys2Proof.Machine

/-! ### SET_BATTERY (R211) -/

/-- SU under a new oven count: cursor and start oven placed, the exclusion vector and its frame cleared (R30, R38, R211). -/
def ScheduleUnit.resize (u : ScheduleUnit) (n : Nat) : ScheduleUnit :=
  let u1 :=
    if n < u.startOven then { u with startOven := 1, cursor := 0 }
    else { u with cursor := positionOf n u.step u.offset u.startOven }
  { u1 with exclusion := 0, granularity := 0, exclusionStart := 1 }

/-- A node is in use under the oven count n: ids 1 to 6 always, oven ids 16 to 15 + ceil(n/8) (R171, R181). -/
def Node.usedBy (n : Nat) : Node → Bool
  | .oven m => decide (m.val < (n + 7) / 8)
  | .pusher => true
  | .guide => true
  | .car _ => true
  | .tower => true
  | .main => true

/-- A node table entry whose use may change: an entry that leaves or comes into use becomes NEVER_HEARD with quiet seconds 0,
an entry that stays keeps its fields (R181). -/
def NodeEntry.reuse (e : NodeEntry) (used : Bool) : NodeEntry :=
  if e.inUse = used then e else { e with inUse := used, liveness := .neverHeard, quiet := 0 }

/-- FL under a new oven count (R181). -/
def FieldLink.resize (f : FieldLink) (n : Nat) : FieldLink :=
  { f with nodes := (f.nodes.zip Node.all).map (fun x => x.1.reuse (Node.usedBy n x.2)) }

/-- SET_BATTERY (R211). -/
def setBattery (ovens : Byte) (s : State) : Answer :=
  if s.running then s.refuse .wrongMode
  else
    let n := clampNat 8 96 ovens.toNat
    let u := s.su.resize n
    let s1 := ((s.withOvenCount n).withSu u).withFl (s.fl.resize n)
    s1.reply [byteOf n, byteOf u.startOven, byteOf u.cursor, flag (seriesValid n u.step u.offset)]

/-! ### OVEN_LOAD (R27, R212) -/

/-- P taken, by the loaded phase (R212). -/
def loadedProgress (phase : Phase) (p : Nat) : Nat :=
  match phase with
  | .empty => 0
  | .charging => 0
  | .coking => min 16777215 p
  | .soaking => Config.fullProgress
  | .ready => Config.fullProgress
  | .pushing => 0
  | .stalled => 0

/-- The oven record OVEN_LOAD writes (R27, R212). -/
def Oven.load (o : Oven) (phase : Phase) (p soak chargeLimit : Nat) (chargedAt : Word) : Oven :=
  let o1 := { o with
    phase := phase, progress := loadedProgress phase p, chargedAt := chargedAt, late := false, chargeLong := false,
    chargeTimer := if phase = .charging then some chargeLimit else none }
  match phase with
  | .charging => { o1 with activeSoak := o.planSoak, planPending := false, soakRemaining := 0 }
  | .coking => { o1 with activeSoak := o.planSoak, planPending := false, soakRemaining := 0 }
  | .soaking => { o1 with activeSoak := clampNat 1 256 soak, soakRemaining := clampNat 1 256 soak }
  | .empty => { o1 with soakRemaining := 0 }
  | .ready => { o1 with soakRemaining := 0 }
  | .pushing => o1
  | .stalled => o1

/-- OVEN_LOAD at OT (R27, R212). -/
def ovenLoad (oven phase : Byte) (progress minutes : Word) (soak : Half) (s : State) : Answer :=
  let n := oven.toNat
  if s.running then s.refuse .wrongMode
  else if !s.inRange n then s.refuse .badOven
  else match Phase.ofLoad phase.toNat with
    | none => s.refuse .badValue
    | some f =>
      let o := (s.oven n).load f progress.toNat soak.toNat s.cc.limits.chargeLimit (s.bk.minutes - minutes)
      ((s.setOven n o).evalValve n).reply
        ([oven, phase] ++ word o.progress ++ wordBytes o.chargedAt ++ half o.soakRemaining ++ [byteOf (o.activeSoak - 1)])

/-! ### START (R213, R214) -/

/-- The first failing check of START, with its extra reply byte (R213). -/
def State.startRefusal (s : State) : Option (Status × List Byte) :=
  if s.running then some (.wrongMode, [])
  else if !seriesValid s.ovenCount s.su.step s.su.offset then some (.badSeries, [])
  else match s.pushNodes.find? (fun x => !s.live x) with
    | some x => some (.nodeSilent, [byteOf x.id])
    | none => if allCars.any (fun c => (s.car c).inService) then none else some (.noCar, [])

/-- The ovens 1 to N in valve mode AUTO in t and not in s (R214). -/
def State.enteredAuto (s t : State) : Nat :=
  (s.ovenNumbers.filter (fun n => (s.oven n).valve.mode != .auto && (t.oven n).valve.mode == .auto)).length

/-- CC at START and STOP: a coke-minute expiry that has come and that no step has taken does not occur, and the timer keeps its
count (R16, R23, R214, R216; log 3). -/
def CokingClock.dropDue (c : CokingClock) : CokingClock := { c with minutesDue := 0 }

/-- START's effects: the steps of R214 in order. -/
def State.enterRun (s : State) : State :=
  let s0 := s.withCc s.cc.dropDue
  let s1 := (s0.withBk { s0.bk with mode := .run }).withSu { s0.su.clearPacer with mode := .manual }
  let s2 := s1.startDoors
  (s2.evalValves s2.ovenNumbers).evalMain

/-- START (R213, R214): the reply counts the doors made unexpected (log 11) and the ovens that entered AUTO. -/
def start (s : State) : Answer :=
  match s.startRefusal with
  | some x => ⟨s, x.1, x.2⟩
  | none =>
    s.enterRun.reply [byteOf s.ovenCount, byteOf s.unaccountedDoors, byteOf (s.enteredAuto s.enterRun)]

/-! ### STOP (R215) -/

/-- A car holds a load record (R215). -/
def State.anyLoad (s : State) : Bool := allCars.any (fun c => (s.car c).load.isSome)

/-- SU at STOP (R37). -/
def ScheduleUnit.stop (u : ScheduleUnit) : ScheduleUnit :=
  { u.clearPacer with outOfTurn := [], deferred := [], mode := .paused }

/-- STOP's effects: the steps of R215 in order. -/
def State.enterConfig (s : State) : State :=
  let s0 := s.withCc s.cc.dropDue
  let s1 := (s0.withBk { s0.bk with mode := .config }).withSu s0.su.stop
  (s1.evalValves s1.ovenNumbers).evalMain

/-- STOP (R215). -/
def stop (s : State) : Answer :=
  if !s.running then s.refuse .wrongMode
  else if s.pushing || s.anyLoad then s.refuse .busy
  else s.enterConfig.reply [byteOf s.su.listed]

/-! ### The meanings -/

/-- SET_BATTERY (R211). -/
def execSetBattery (tag ovens : Byte) (s : State) : Host.Outcome State Fault Refusal :=
  hostRequest (.setBattery tag ovens) (setBattery ovens) s

/-- OVEN_LOAD (R212). -/
def execOvenLoad (tag oven phase : Byte) (progress minutes : Word) (soak : Half) (s : State) :
    Host.Outcome State Fault Refusal :=
  hostRequest (.ovenLoad tag oven phase progress minutes soak) (ovenLoad oven phase progress minutes soak) s

/-- START (R214). -/
def execStart (tag : Byte) (s : State) : Host.Outcome State Fault Refusal := hostRequest (.start tag) start s

/-- STOP (R215). -/
def execStop (tag : Byte) (s : State) : Host.Outcome State Fault Refusal := hostRequest (.stop tag) stop s

end Sys2Proof.Machine
end

