-- ==== Sys2Proof/Machine/Supervisory.lean ====
section
/-!
DEFINITION. Chapter 8: STATUS, the owner of each request, the receiver, the buffers and the transmitter of the supervisory link.
-/

namespace Sys2Proof.Machine

/-! ### STATUS (R195) -/

/-- One node table entry of STATUS (R195). -/
def State.nodeFields (s : State) (x : Node) : List Byte :=
  let e := s.fl.entry x
  [byteOf x.id, e.livenessByte] ++ wordBytes e.lastReport

/-- STATUS at SL (R195). -/
def status (s : State) : Answer :=
  s.reply ([byteOf s.bk.mode.code, byteOf s.su.mode.code, byteOf s.ovenCount] ++ wordBytes s.bk.minutes ++
    wordBytes s.bk.seconds ++ [s.statusFlags, byteOf s.sl.notices.length] ++ half s.sl.discards ++ half s.sl.overruns ++
    half s.fl.queue.length ++ Node.all.flatMap s.nodeFields)

/-! ### The owner of each request (R187) -/

/-- A kind that names no request (R187, R188). -/
def unknownKind (s : State) : Answer := s.refuse .unknownKind

/-- The owner that judges a request (section 8.5). An event is no request. -/
def ownerOf : Instr → State → Answer
  | .status _ => status
  | .setTime _ m => setTime m
  | .alarmSummary _ => alarmSummary
  | .hold _ f c m => hold f c m
  | .collect _ => collect
  | .releaseHolds _ => releaseHolds
  | .setHeat _ x v => setHeat x v
  | .selectHeat _ x => selectHeat x
  | .setTrim _ n t i o => setTrim n t i o
  | .setPlan _ n x => setPlan n x
  | .chargeBegin _ n => chargeBegin n
  | .chargeEnd _ n => chargeEnd n
  | .queryOven _ n => queryOven n
  | .setCokingLimits _ a b c => setCokingLimits a b c
  | .setSeries _ k j n => setSeries k j n
  | .setPacer _ q => setPacer q
  | .setScheduleMode _ m => setScheduleMode m
  | .queueOutOfTurn _ n => queueOutOfTurn n
  | .withdraw _ n => withdraw n
  | .setExclusionFrame _ g n => setExclusionFrame g n
  | .writeExclusionWord _ i w => writeExclusionWord i w
  | .querySchedule _ => querySchedule
  | .pushNow _ n => pushNow n
  | .abortPush _ n => abortPush n
  | .clearStall _ r => clearStall r
  | .queryPush _ => queryPush
  | .setPushLimits _ a b c d e f => setPushLimits a b c d e f
  | .doorService _ n x a => doorService n x a
  | .setDoorLimits _ a b c d e => setDoorLimits a b c d e
  | .queryDoors _ n => queryDoors n
  | .setProfilePoint _ i v => setProfilePoint i v
  | .applyProfile _ => applyProfile
  | .setLoop _ a b c d e => setLoop a b c d e
  | .setValveManual _ n x => setValveManual n x
  | .releaseValve _ n => releaseValve n
  | .setMain _ a b c d e f => setMain a b c d e f
  | .queryPressure _ n => queryPressure n
  | .setZones _ z es => setZones z es
  | .setQuenchLimits _ a b c d e f => setQuenchLimits a b c d e f
  | .carServiceIn _ c => carServiceIn c
  | .carServiceOut _ c => carServiceOut c
  | .queryQuench _ => queryQuench
  | .ovenLoad _ n f p m x => ovenLoad n f p m x
  | .start _ => start
  | .stop _ => stop
  | .setBattery _ n => setBattery n
  | .unknownKind .. => unknownKind
  | .supFrameComplete .. | .supSilence | .replySent | .noticeSent | .sRtsAsserted | .sRtsDeasserted => unknownKind
  | .fieldFrameReceived .. | .fieldLineIdle | .fieldFrameSent | .pusherReport .. | .guideReport .. | .carReport .. => unknownKind
  | .towerReport .. | .mainReport .. | .ovenReport .. | .ovenSample .. | .stageConfirmation .. | .batterySecond => unknownKind
  | .slotCarry | .cokeMinuteExpiry | .chargeTimerExpiry .. | .stageTimerExpiry | .settleTimerExpiry .. => unknownKind
  | .doorOffTimerExpiry .. | .quenchTimerExpiry .. | .drainTimerExpiry .. | .dumpTimerExpiry .. => unknownKind
  | .bayHoldTimerExpiry .. | .travelTimerExpiry .. | .hotCokeTimerExpiry .. | .silenceWindowExpiry .. => unknownKind
  | .machineSilenceAtPu .. | .silenceAtSu .. | .carNodeSilence .. | .towerNodeSilence | .mainNodeSilence => unknownKind
  | .ovenNodeSilence .. | .ovenNodeReturn .. | .mainNodeReturn | .towerNodeReturn | .estopAssertion | .estopAtPu => unknownKind
  | .estopAtSu | .estopAtQu | .estopRelease | .estopReleaseAtQu | .resetAsserted | .resetReleased .. | .powerUp .. => unknownKind
  | .supervisoryByteReceived .. | .fieldByteReceived .. => unknownKind

/-- Who answers a taken frame, and how (R187, steps 2 to 4; R140's action check). -/
def ownerOfFrame (f : Frame) : State → Answer :=
  match decodeRequest f with
  | .request c => ownerOf c
  | .badValue => fun s => s.refuse .badValue
  | .badLength => fun s => s.refuse .badLength
  | .unknownKind => unknownKind

/-! ### Receiving (R185, R186) -/

/-- SL's receiver takes a state. -/
def State.supReceive (s : State) (r : SupReceiver) : State := s.withSl { s.sl with receiver := r }

/-- A frame discarded by the receiver (R185, R194). -/
def State.supDiscard (s : State) (r : SupReceiver) : State :=
  s.withSl { s.sl with receiver := r, discards := bump s.sl.discards }

/-- A frame completes: a CRC mismatch discards it, a good frame goes to the buffers, and the receiver returns to HUNT (R185,
R186). As a command of its own it is a whole frame, heard and judged in whichever state the receiver stands, SKIP included, where
R185 lets no byte complete a frame (log 38). -/
def supFrameComplete (f : Frame) (received : Half) (s : State) : State :=
  if received = supFrameCrc f then acceptFrame f (ownerOfFrame f) (s.supReceive .hunt) else s.supDiscard .hunt

/-- A silence of more than 20 ms (R185). -/
def supSilence (s : State) : State :=
  match s.sl.receiver with
  | .hunt => s
  | .skip => s.supReceive .hunt
  | .collect _ => s.supDiscard .hunt

/-- The frame that the collected bytes, from the length on, make when they are all there (R184). -/
def supComplete : List Byte → Option (Frame × Half)
  | len :: kind :: tag :: rest =>
    if rest.length = len.toNat + 2 then
      match rest.drop len.toNat with
      | [hi, lo] => some (⟨kind, tag, rest.take len.toNat⟩, halfOf hi lo)
      | _ => none
    else none
  | _ => none

/-- A byte in COLLECT (R185). -/
def State.supCollect (s : State) (bytes : List Byte) (b : Byte) : State :=
  if bytes = [] ∧ Config.supMaxBody < b.toNat then s.supDiscard .skip
  else match supComplete (bytes ++ [b]) with
    | some x => supFrameComplete x.1 x.2 s
    | none => s.supReceive (.collect (bytes ++ [b]))

/-- SUPERVISORY_BYTE_RECEIVED (R185). -/
def supervisoryByteReceived (b : Byte) (s : State) : State :=
  match s.sl.receiver with
  | .hunt => s.supReceive (if b = Config.supLead then .collect [] else .skip)
  | .skip => s
  | .collect bytes => s.supCollect bytes b

/-! ### Sending (R186, R193) -/

/-- The spare frame is taken when a request leaves service (R186). -/
def State.takeSpare (s : State) : State :=
  match s.sl.spare with
  | some f => takeRequest f (ownerOfFrame f) (s.withSl { s.sl with spare := none })
  | none => s

/-- The transmitter, if free, chooses its next frame (R193). -/
def State.chooseFrame (s : State) : State := s.withSl s.sl.choose

/-- The last byte of a reply is sent: its request leaves service, the spare frame is taken, and the transmitter chooses
(R186, R193). -/
def replySent (s : State) : State :=
  if s.sl.transmitter = .reply then
    (s.withSl { s.sl with transmitter := .idle, replySlot := none, inService := none }).takeSpare.chooseFrame
  else s

/-- The last byte of a notice is sent (R193). -/
def noticeSent (s : State) : State :=
  match s.sl.transmitter with
  | .notice _ => (s.withSl { s.sl with transmitter := .idle }).chooseFrame
  | .idle => s
  | .reply => s

/-! ### S_RTS (R193) -/

/-- The level of S_RTS. -/
def State.withRts (s : State) (x : Bool) : State := s.withSl { s.sl with rts := x }

/-- S_RTS is asserted; an idle transmitter chooses (R193). -/
def sRtsAsserted (s : State) : State := (s.withRts true).chooseFrame

/-- S_RTS is deasserted: notices not yet begun wait (R193). -/
def sRtsDeasserted (s : State) : State := s.withRts false

/-! ### The meanings -/

/-- STATUS (R195). -/
def execStatus (tag : Byte) (s : State) : Host.Outcome State Fault Refusal := hostRequest (.status tag) status s

/-- UNKNOWN_KIND (R187, R188). -/
def execUnknownKind (tag kind : Byte) (body : List Byte) (s : State) : Host.Outcome State Fault Refusal :=
  hostRequest (.unknownKind tag kind body) unknownKind s

/-- SUP_FRAME_COMPLETE (R186). -/
def execSupFrameComplete (kind tag : Byte) (body : List Byte) (received : Half) (s : State) :
    Host.Outcome State Fault Refusal :=
  s.checked (.supFrameComplete kind tag body received) (supFrameComplete ⟨kind, tag, body⟩ received)

/-- SUP_SILENCE (R185). -/
def execSupSilence (s : State) : Host.Outcome State Fault Refusal := s.event .supSilence supSilence

/-- REPLY_SENT (R193). -/
def execReplySent (s : State) : Host.Outcome State Fault Refusal := s.event .replySent replySent

/-- NOTICE_SENT (R193). -/
def execNoticeSent (s : State) : Host.Outcome State Fault Refusal := s.event .noticeSent noticeSent

/-- S_RTS_ASSERTED (R193). The input's level is taken in reset too; nothing is sent there (R210). -/
def execSRtsAsserted (s : State) : Host.Outcome State Fault Refusal :=
  if s.pins.inReset then .next (s.withRts true) else s.event .sRtsAsserted sRtsAsserted

/-- S_RTS_DEASSERTED (R193). -/
def execSRtsDeasserted (s : State) : Host.Outcome State Fault Refusal :=
  if s.pins.inReset then .next (s.withRts false) else s.event .sRtsDeasserted sRtsDeasserted

/-- SUPERVISORY_BYTE_RECEIVED (R185). -/
def execSupervisoryByteReceived (b : Byte) (s : State) : Host.Outcome State Fault Refusal :=
  s.event (.supervisoryByteReceived b) (supervisoryByteReceived b)

end Sys2Proof.Machine
end

