-- ==== Sys2Proof/Machine/Field.lean ====
section
/-!
DEFINITION. Chapter 7: field frames and bytes received, the idle line, the part's own frames, liveness, silence and return.
-/

namespace Sys2Proof.Machine

/-! ### Silence and return (R178 to R180) -/

/-- The owners' events of a node's silence (R180). SU stands before PU, so that the schedule is PAUSED when the push ends (R52;
logs 5, 39). -/
def silenceEvents : Node → List Instr
  | .pusher => [.silenceAtSu .pusher, .machineSilenceAtPu .pusher]
  | .guide => [.silenceAtSu .guide, .machineSilenceAtPu .guide]
  | .car c => [.carNodeSilence c]
  | .tower => [.towerNodeSilence]
  | .main => [.mainNodeSilence]
  | .oven m => [.ovenNodeSilence m, .silenceAtSu (.oven m)]

/-- The owners' events of a node's return; a machine's or a car's return acts nowhere (R180). -/
def returnEvents : Node → List Instr
  | .oven m => [.ovenNodeReturn m]
  | .main => [.mainNodeReturn]
  | .tower => [.towerNodeReturn]
  | .pusher => []
  | .guide => []
  | .car _ => []

/-- Write a node table entry. -/
def State.setEntry (s : State) (x : Node) (e : NodeEntry) : State := s.withFl (s.fl.setEntry x e)

/-- A node falls silent: SILENT, NODE_SILENT, and the silence delivered (R178). -/
def State.fallSilent (s : State) (x : Node) : State :=
  let e := s.fl.entry x
  ((s.setEntry x { e with liveness := .silent }).raise (.nodeSilent x e.lastReport)).bring (silenceEvents x)

/-- A silence window runs out (R178). -/
def silenceWindowExpiry (x : Node) (s : State) : State :=
  if (s.fl.entry x).overdue x.window then s.fallSilent x else s

/-- A valid report's effect on liveness: LIVE, and NODE_BACK with the return delivered where it was not (R179). -/
def State.refresh (s : State) (x : Node) : State :=
  let e := s.fl.entry x
  let s1 := s.setEntry x { e with liveness := .live, quiet := 0, lastReport := s.bk.seconds }
  match e.liveness with
  | .live => s1
  | .silent => (s1.raise (.nodeBack x 0)).bring (returnEvents x)
  | .neverHeard => (s1.raise (.nodeBack x 1)).bring (returnEvents x)

/-! ### Valid reports (R170, R174) -/

/-- The owners' events of a report (R174). DU stands before PR before PU by default (log 5). -/
def reportEvents : Report → List Instr
  | .pusher r => [.pusherReport r]
  | .guide r => [.guideReport r]
  | .car c r => [.carReport c r]
  | .tower r => [.towerReport r]
  | .main r => [.mainReport r]
  | .oven m es => [.ovenReport m es, .ovenSample m es, .stageConfirmation m es]

/-- A valid report from an in-use node. A battery second that has brought the node to its window was taken first, so the node
falls silent before the report brings it back (R182). -/
def State.takeReport (s : State) (x : Node) (r : Report) : State :=
  ((silenceWindowExpiry x s).refresh x).bring (reportEvents r)

/-- A complete field frame: CRC, id, use, kind, length and code fields (R169, R170). -/
def State.takeFieldFrame (s : State) (id kind : Byte) (body : List Byte) (received : Half) : State :=
  if received ≠ crc (id :: byteOf body.length :: kind :: body) then s
  else match Node.ofId id.toNat with
    | none => s
    | some x =>
      if (s.fl.entry x).inUse then
        match decodeReport x kind body with
        | some r => s.takeReport x r
        | none => s
      else s

/-! ### Receiving (R167, R169) -/

/-- FL's receiver takes a state. -/
def State.fieldReceive (s : State) (r : FieldReceiver) : State := s.withFl { s.fl with receiver := r }

/-- A frame completes: bytes are ignored until the line is idle, and the frame is judged (R169, R170). While F_DE is asserted
the receiver is not heard (R167). -/
def fieldFrameReceived (id kind : Byte) (body : List Byte) (received : Half) (s : State) : State :=
  if s.fl.fDe then s else (s.fieldReceive .skip).takeFieldFrame id kind body received

/-- A complete field frame: node id, kind, body and the CRC received. -/
structure FieldFrame where
  id : Byte
  kind : Byte
  body : List Byte
  received : Half
deriving DecidableEq, Repr

/-- The frame that the collected bytes, from the node id on, make when they are all there (section 7.2). -/
def fieldComplete : List Byte → Option FieldFrame
  | id :: len :: kind :: rest =>
    if rest.length = len.toNat + 2 then
      match rest.drop len.toNat with
      | [hi, lo] => some ⟨id, kind, rest.take len.toNat, halfOf hi lo⟩
      | _ => none
    else none
  | _ => none

/-- A byte after the lead: a length above 120 discards the frame at once (R169). -/
def State.fieldCollect (s : State) (bytes : List Byte) (b : Byte) : State :=
  if bytes.length = 1 ∧ Config.fieldMaxBody < b.toNat then s.fieldReceive .skip
  else match fieldComplete (bytes ++ [b]) with
    | some x => fieldFrameReceived x.id x.kind x.body x.received s
    | none => s.fieldReceive (.collect (bytes ++ [b]))

/-- FIELD_BYTE_RECEIVED (R167, R169). -/
def fieldByteReceived (b : Byte) (s : State) : State :=
  if s.fl.fDe then s
  else match s.fl.receiver with
    | .idle => s.fieldReceive (if b = Config.fieldLead then .collect [] else .skip)
    | .skip => s
    | .collect bytes => s.fieldCollect bytes b

/-- The line goes idle: a frame being collected is discarded, and the part begins its head frame (R167, R169, R175). -/
def fieldLineIdle (s : State) : State :=
  if s.fl.fDe then s else s.withFl (FieldLink.begin { s.fl with receiver := .idle })

/-! ### Sending (R167, R175, R176) -/

/-- FL after its head frame's last byte: F_DE released, the head gone; an empty queue ends the discards' count (R175,
R176). -/
def FieldLink.sent (f : FieldLink) : FieldLink :=
  { f with fDe := false, queue := f.queue.tail, receiver := .skip, fullRaised := f.fullRaised && !f.queue.tail.isEmpty }

/-- FIELD_FRAME_SENT (R175). -/
def fieldFrameSent (s : State) : State := if s.fl.fDe then s.withFl s.fl.sent else s

/-! ### The meanings -/

/-- FIELD_FRAME_RECEIVED (R170). -/
def execFieldFrameReceived (id kind : Byte) (body : List Byte) (received : Half) (s : State) :
    Host.Outcome State Fault Refusal :=
  s.checked (.fieldFrameReceived id kind body received) (fieldFrameReceived id kind body received)

/-- FIELD_BYTE_RECEIVED (R169). -/
def execFieldByteReceived (b : Byte) (s : State) : Host.Outcome State Fault Refusal :=
  s.event (.fieldByteReceived b) (fieldByteReceived b)

/-- FIELD_LINE_IDLE (R167). -/
def execFieldLineIdle (s : State) : Host.Outcome State Fault Refusal := s.event .fieldLineIdle fieldLineIdle

/-- FIELD_FRAME_SENT (R175). -/
def execFieldFrameSent (s : State) : Host.Outcome State Fault Refusal := s.event .fieldFrameSent fieldFrameSent

/-- SILENCE_WINDOW_EXPIRY (R178). -/
def execSilenceWindowExpiry (x : Node) (s : State) : Host.Outcome State Fault Refusal :=
  s.event (.silenceWindowExpiry x) (silenceWindowExpiry x)

end Sys2Proof.Machine
end

