-- ==== Sys2Proof/Machine/Pins.lean ====
section
/-!
DEFINITION. Chapters 10 and 11: ESTOP#, RESET# and power-up.
-/

namespace Sys2Proof.Machine

/-! ### ESTOP# (R218) -/

/-- The debounced level of ESTOP#. -/
def State.withEstop (s : State) (x : Bool) : State := s.withPins { s.pins with estop := x }

/-- The debounced level goes low: the assertion, delivered to PU, SU and QU (R218). -/
def estopAssertion (s : State) : State :=
  if s.pins.estop then s else (s.withEstop true).bring [.estopAtPu, .estopAtSu, .estopAtQu]

/-- The debounced level goes high: the release, delivered to QU (R218). -/
def estopRelease (s : State) : State :=
  if s.pins.estop then (s.withEstop false).bring [.estopReleaseAtQu] else s

/-! ### RESET# and power-up (R210, R217) -/

/-- FL in reset: a frame being sent is cut off and F_DE released, a frame being received is lost (R175, R210). -/
def FieldLink.cutOff (f : FieldLink) : FieldLink := { f with fDe := false, receiver := .skip }

/-- SL in reset: a frame being sent is cut off, a frame being received is lost (R194, R210). -/
def SupLink.cutOff (l : SupLink) : SupLink := { l with transmitter := .idle, receiver := .hunt }

/-- RESET# is asserted: both links are cut off, and the events brought about come to nothing (R210). -/
def resetAsserted (s : State) : State :=
  (((s.withFl s.fl.cutOff).withSl s.sl.cutOff).withPins { s.pins with inReset := true }).withDue []

/-- The part takes up its reset values: the straps and the ESTOP# level are sampled (R183, R210, R218). The level of S_RTS and
the waiting commands are outside the part and stay. -/
def State.takeReset (s : State) (baud : Baud) (estop : Bool) : State :=
  { State.reset with
    sl := { SupLink.reset with rts := s.sl.rts, baud := baud }
    pins := ⟨false, estop⟩
    pending := s.pending }

/-- RESET# is released: a part held in reset takes up its reset values (R210). -/
def resetReleased (baud1 baud0 estopLow : Bool) (s : State) : State :=
  if s.pins.inReset then s.takeReset (baudOf baud1 baud0) estopLow else s

/-- Power-up ends: reset values with RESET# high, else the part stays in reset until the release (R210, R217). -/
def powerUp (resetHigh baud1 baud0 estopLow : Bool) (s : State) : State :=
  let t := s.takeReset (baudOf baud1 baud0) estopLow
  if resetHigh then t else t.withPins ⟨true, estopLow⟩

/-! ### The meanings -/

/-- ESTOP_ASSERTION (R218). -/
def execEstopAssertion (s : State) : Host.Outcome State Fault Refusal := s.event .estopAssertion estopAssertion

/-- ESTOP_RELEASE (R218). -/
def execEstopRelease (s : State) : Host.Outcome State Fault Refusal := s.event .estopRelease estopRelease

/-- RESET_ASSERTED (R210). -/
def execResetAsserted (s : State) : Host.Outcome State Fault Refusal := .next (resetAsserted s)

/-- RESET_RELEASED (R210). -/
def execResetReleased (baud1 baud0 estopLow : Bool) (s : State) : Host.Outcome State Fault Refusal :=
  .next (resetReleased baud1 baud0 estopLow s)

/-- POWER_UP (R217). -/
def execPowerUp (resetHigh baud1 baud0 estopLow : Bool) (s : State) : Host.Outcome State Fault Refusal :=
  .next (powerUp resetHigh baud1 baud0 estopLow s)

end Sys2Proof.Machine
end

