-- ==== Sys2Proof/Machine/Dispatch.lean ====
section
/-!
DEFINITION. One arm per command of the opcode table.
-/

namespace Sys2Proof.Machine

def exec (i : Instr) (s : State) : Host.Outcome State Fault Refusal :=
  match i with
  | .status tag => Sys2Proof.Machine.execStatus tag s
  | .setTime tag minutes => Sys2Proof.Machine.execSetTime tag minutes s
  | .alarmSummary tag => Sys2Proof.Machine.execAlarmSummary tag s
  | .hold tag first count mask => Sys2Proof.Machine.execHold tag first count mask s
  | .collect tag => Sys2Proof.Machine.execCollect tag s
  | .releaseHolds tag => Sys2Proof.Machine.execReleaseHolds tag s
  | .setHeat tag selector value => Sys2Proof.Machine.execSetHeat tag selector value s
  | .selectHeat tag selector => Sys2Proof.Machine.execSelectHeat tag selector s
  | .setTrim tag oven trim inhibit offset => Sys2Proof.Machine.execSetTrim tag oven trim inhibit offset s
  | .setPlan tag oven soak => Sys2Proof.Machine.execSetPlan tag oven soak s
  | .chargeBegin tag oven => Sys2Proof.Machine.execChargeBegin tag oven s
  | .chargeEnd tag oven => Sys2Proof.Machine.execChargeEnd tag oven s
  | .queryOven tag oven => Sys2Proof.Machine.execQueryOven tag oven s
  | .setCokingLimits tag charge late sticker => Sys2Proof.Machine.execSetCokingLimits tag charge late sticker s
  | .setSeries tag step offset start => Sys2Proof.Machine.execSetSeries tag step offset start s
  | .setPacer tag increment => Sys2Proof.Machine.execSetPacer tag increment s
  | .setScheduleMode tag mode => Sys2Proof.Machine.execSetScheduleMode tag mode s
  | .queueOutOfTurn tag oven => Sys2Proof.Machine.execQueueOutOfTurn tag oven s
  | .withdraw tag oven => Sys2Proof.Machine.execWithdraw tag oven s
  | .setExclusionFrame tag granularity start => Sys2Proof.Machine.execSetExclusionFrame tag granularity start s
  | .writeExclusionWord tag index word => Sys2Proof.Machine.execWriteExclusionWord tag index word s
  | .querySchedule tag => Sys2Proof.Machine.execQuerySchedule tag s
  | .pushNow tag oven => Sys2Proof.Machine.execPushNow tag oven s
  | .abortPush tag number => Sys2Proof.Machine.execAbortPush tag number s
  | .clearStall tag result => Sys2Proof.Machine.execClearStall tag result s
  | .queryPush tag => Sys2Proof.Machine.execQueryPush tag s
  | .setPushLimits tag spot isolate doorsOff ram doorsOn sticker => Sys2Proof.Machine.execSetPushLimits tag spot isolate doorsOff ram doorsOn sticker s
  | .doorService tag oven side action => Sys2Proof.Machine.execDoorService tag oven side action s
  | .setDoorLimits tag doorOff settle base threshold persistence => Sys2Proof.Machine.execSetDoorLimits tag doorOff settle base threshold persistence s
  | .queryDoors tag oven => Sys2Proof.Machine.execQueryDoors tag oven s
  | .setProfilePoint tag index value => Sys2Proof.Machine.execSetProfilePoint tag index value s
  | .applyProfile tag => Sys2Proof.Machine.execApplyProfile tag s
  | .setLoop tag gain shift limit bias margin => Sys2Proof.Machine.execSetLoop tag gain shift limit bias margin s
  | .setValveManual tag oven position => Sys2Proof.Machine.execSetValveManual tag oven position s
  | .releaseValve tag oven => Sys2Proof.Machine.execReleaseValve tag oven s
  | .setMain tag setpoint gain shift limit action position => Sys2Proof.Machine.execSetMain tag setpoint gain shift limit action position s
  | .queryPressure tag selector => Sys2Proof.Machine.execQueryPressure tag selector s
  | .setZones tag shift entries => Sys2Proof.Machine.execSetZones tag shift entries s
  | .setQuenchLimits tag quench drain hotCoke travel dump bayHold => Sys2Proof.Machine.execSetQuenchLimits tag quench drain hotCoke travel dump bayHold s
  | .carServiceIn tag car => Sys2Proof.Machine.execCarServiceIn tag car s
  | .carServiceOut tag car => Sys2Proof.Machine.execCarServiceOut tag car s
  | .queryQuench tag => Sys2Proof.Machine.execQueryQuench tag s
  | .ovenLoad tag oven phase progress minutes soak => Sys2Proof.Machine.execOvenLoad tag oven phase progress minutes soak s
  | .start tag => Sys2Proof.Machine.execStart tag s
  | .stop tag => Sys2Proof.Machine.execStop tag s
  | .setBattery tag n => Sys2Proof.Machine.execSetBattery tag n s
  | .unknownKind tag kind body => Sys2Proof.Machine.execUnknownKind tag kind body s
  | .supFrameComplete kind tag body crc => Sys2Proof.Machine.execSupFrameComplete kind tag body crc s
  | .supSilence => Sys2Proof.Machine.execSupSilence s
  | .replySent => Sys2Proof.Machine.execReplySent s
  | .noticeSent => Sys2Proof.Machine.execNoticeSent s
  | .sRtsAsserted => Sys2Proof.Machine.execSRtsAsserted s
  | .sRtsDeasserted => Sys2Proof.Machine.execSRtsDeasserted s
  | .fieldFrameReceived id kind body crc => Sys2Proof.Machine.execFieldFrameReceived id kind body crc s
  | .fieldLineIdle => Sys2Proof.Machine.execFieldLineIdle s
  | .fieldFrameSent => Sys2Proof.Machine.execFieldFrameSent s
  | .pusherReport r => Sys2Proof.Machine.execPusherReport r s
  | .guideReport r => Sys2Proof.Machine.execGuideReport r s
  | .carReport c r => Sys2Proof.Machine.execCarReport c r s
  | .towerReport r => Sys2Proof.Machine.execTowerReport r s
  | .mainReport r => Sys2Proof.Machine.execMainReport r s
  | .ovenReport m entries => Sys2Proof.Machine.execOvenReport m entries s
  | .ovenSample m entries => Sys2Proof.Machine.execOvenSample m entries s
  | .stageConfirmation m entries => Sys2Proof.Machine.execStageConfirmation m entries s
  | .batterySecond => Sys2Proof.Machine.execBatterySecond s
  | .slotCarry => Sys2Proof.Machine.execSlotCarry s
  | .cokeMinuteExpiry => Sys2Proof.Machine.execCokeMinuteExpiry s
  | .chargeTimerExpiry oven => Sys2Proof.Machine.execChargeTimerExpiry oven s
  | .stageTimerExpiry => Sys2Proof.Machine.execStageTimerExpiry s
  | .settleTimerExpiry oven side => Sys2Proof.Machine.execSettleTimerExpiry oven side s
  | .doorOffTimerExpiry oven side => Sys2Proof.Machine.execDoorOffTimerExpiry oven side s
  | .quenchTimerExpiry c => Sys2Proof.Machine.execQuenchTimerExpiry c s
  | .drainTimerExpiry c => Sys2Proof.Machine.execDrainTimerExpiry c s
  | .dumpTimerExpiry c => Sys2Proof.Machine.execDumpTimerExpiry c s
  | .bayHoldTimerExpiry bay => Sys2Proof.Machine.execBayHoldTimerExpiry bay s
  | .travelTimerExpiry c => Sys2Proof.Machine.execTravelTimerExpiry c s
  | .hotCokeTimerExpiry c => Sys2Proof.Machine.execHotCokeTimerExpiry c s
  | .silenceWindowExpiry n => Sys2Proof.Machine.execSilenceWindowExpiry n s
  | .machineSilenceAtPu k => Sys2Proof.Machine.execMachineSilenceAtPu k s
  | .silenceAtSu n => Sys2Proof.Machine.execSilenceAtSu n s
  | .carNodeSilence c => Sys2Proof.Machine.execCarNodeSilence c s
  | .towerNodeSilence => Sys2Proof.Machine.execTowerNodeSilence s
  | .mainNodeSilence => Sys2Proof.Machine.execMainNodeSilence s
  | .ovenNodeSilence m => Sys2Proof.Machine.execOvenNodeSilence m s
  | .ovenNodeReturn m => Sys2Proof.Machine.execOvenNodeReturn m s
  | .mainNodeReturn => Sys2Proof.Machine.execMainNodeReturn s
  | .towerNodeReturn => Sys2Proof.Machine.execTowerNodeReturn s
  | .estopAssertion => Sys2Proof.Machine.execEstopAssertion s
  | .estopAtPu => Sys2Proof.Machine.execEstopAtPu s
  | .estopAtSu => Sys2Proof.Machine.execEstopAtSu s
  | .estopAtQu => Sys2Proof.Machine.execEstopAtQu s
  | .estopRelease => Sys2Proof.Machine.execEstopRelease s
  | .estopReleaseAtQu => Sys2Proof.Machine.execEstopReleaseAtQu s
  | .resetAsserted => Sys2Proof.Machine.execResetAsserted s
  | .resetReleased baud1 baud0 estopLow => Sys2Proof.Machine.execResetReleased baud1 baud0 estopLow s
  | .powerUp resetHigh baud1 baud0 estopLow => Sys2Proof.Machine.execPowerUp resetHigh baud1 baud0 estopLow s
  | .supervisoryByteReceived b => Sys2Proof.Machine.execSupervisoryByteReceived b s
  | .fieldByteReceived b => Sys2Proof.Machine.execFieldByteReceived b s

end Sys2Proof.Machine
end

