-- ==== Sys2Proof/Safety.lean ====
section
/-!
DEFINITION. The terms statements are made in: which parts of the state a step changes (frames), when a host request is taken and
what its answer is, and the laws of the device that the rules own.
-/

namespace Sys2Proof.Machine

/-! ### Frames -/

/-- The parts of the state, as a frame names them. -/
inductive Block where
  | ovens
  | ovenCount
  | cc
  | su
  | pu
  | du
  | pr
  | qu
  | fl
  | sl
  | bk
  | pins
  | due
  | pending
deriving DecidableEq, Repr

/-- A part of the state is the same in both states. -/
def Block.Same (s t : State) : Block → Prop
  | .ovens => t.ovens = s.ovens
  | .ovenCount => t.ovenCount = s.ovenCount
  | .cc => t.cc = s.cc
  | .su => t.su = s.su
  | .pu => t.pu = s.pu
  | .du => t.du = s.du
  | .pr => t.pr = s.pr
  | .qu => t.qu = s.qu
  | .fl => t.fl = s.fl
  | .sl => t.sl = s.sl
  | .bk => t.bk = s.bk
  | .pins => t.pins = s.pins
  | .due => t.due = s.due
  | .pending => t.pending = s.pending

/-- Nothing but the listed parts changes from s to t. -/
def Keeps (changed : List Block) (s t : State) : Prop := ∀ b : Block, b ∉ changed → b.Same s t

/-- Nothing but the listed parts changes from s to t, and of the events brought about none but c is taken away. -/
def FrameOf (c : Instr) (changed : List Block) (s t : State) : Prop := Keeps (.due :: changed) s t ∧ t.due = s.due.erase c

/-- Every oven record but n is the same in both states. -/
def OthersKept (s t : State) (n : Nat) : Prop := ∀ m < 97, 0 < m → m ≠ n → t.oven m = s.oven m

/-- An oven's record but for PR's fields is the same in both states: what a valve mode evaluation alone may change. -/
def ValvesOnly (s t : State) : Prop := ∀ m < 97, 0 < m → t.oven m = (s.oven m).setValve (t.oven m).valve

/-! ### Host requests -/

/-- A request that reaches SL now is taken at once: the part is not in reset, no request is in service and the spare buffer is
empty (R186). -/
abbrev State.Free (s : State) : Prop := s.pins.inReset = false ∧ s.sl.inService = none ∧ s.sl.spare = none

/-- The notice-lost flag as given. -/
def State.withLost (s : State) (x : Bool) : State := s.withSl { s.sl with noticeLost := x }

/-- The reply to a request: its kind plus 0x80 (0xFF for a kind of 0x80 or above) and its tag; status, state byte and fields (R188, R189). `lost` is notice-lost as
the reply found it (R192). -/
def State.replyTo (t : State) (f : Frame) (x : Status) (fields : List Byte) (lost : Bool) : Frame :=
  ⟨if f.kind.msb then 0xFF else f.kind + 0x80, f.tag, x.code :: (t.withLost lost).stateByte :: fields⟩

/-- SL after a request was taken and answered and nothing else reached it: the request is in service, its reply is in the reply
slot with notice-lost cleared, and an idle transmitter has begun it (R186, R192, R193). -/
def Answered (s t : State) (f : Frame) (x : Status) (fields : List Byte) : Prop :=
  t.sl = { s.sl with
    inService := some f
    replySlot := some (t.replyTo f x fields s.sl.noticeLost)
    noticeLost := false
    transmitter := if s.sl.transmitter = .idle then .reply else s.sl.transmitter }

/-- The answer stands in the reply slot, whatever notices the request has raised before it. -/
def Replied (t : State) (f : Frame) (x : Status) (fields : List Byte) : Prop :=
  t.sl.inService = some f ∧ t.sl.noticeLost = false ∧
    ∃ lost : Bool, t.sl.replySlot = some (t.replyTo f x fields lost)

/-- The notice queue of t is that of s with these notices joined at s's battery second, and none was lost (R191). -/
def Noticed (s t : State) (bs : List NoticeBody) : Prop :=
  t.sl.notices = s.sl.notices ++ bs.map (fun b => ⟨s.bk.seconds, b⟩)

/-- SL is as it was but for notices that joined its queue. -/
def NoticesOnly (s t : State) (bs : List NoticeBody) : Prop :=
  t.sl = { s.sl with notices := s.sl.notices ++ bs.map (fun b => ⟨s.bk.seconds, b⟩) }

/-- The notice queue has room for k more (R191). -/
abbrev State.NoticeRoom (s : State) (k : Nat) : Prop := s.sl.notices.length + k ≤ Config.noticeRoom

/-- No notice can be begun now: the transmitter is busy, or S_RTS is deasserted and no reply waits (R193). -/
abbrev State.NoticesWait (s : State) : Prop := s.sl.transmitter ≠ .idle ∨ (s.sl.rts = false ∧ s.sl.replySlot = none)

/-- The field transmit queue has room for k more commands (R175). -/
abbrev State.FieldRoom (s : State) (k : Nat) : Prop := s.fl.queue.length + k ≤ Config.fieldRoom

/-- The transmit queue of t is that of s with these commands joined, and the node table is kept (R175). -/
def Issued (s t : State) (cs : List Outgoing) : Prop :=
  t.fl.queue = s.fl.queue ++ cs ∧ t.fl.nodes = s.fl.nodes ∧ t.fl.fullRaised = s.fl.fullRaised

/-- Commands taken one after another, each on the state the one before left. -/
def Takes : List Instr → State → State → Prop
  | [], s, t => t = s
  | c :: rest, s, t => ∃ u, exec c s = .next u ∧ Takes rest u t

/-- Nothing happens: the event leaves the list of events brought about, and all else is kept. -/
def State.passed (s : State) (c : Instr) : State := s.withDue (s.due.erase c)

/-- How many of the event c a battery second finds due, in the state its count has left: one for each timer run out and each LIVE node
in use at its silence window, and in RUN the coke minutes and slot carries that no step has taken (R8, R16, R32, R61, R92, R96, R151,
R152, R155 to R158, R178, R206; log 3). Every timer but the silence windows is looked at in RUN only. -/
def State.owed (t : State) (c : Instr) : Nat :=
  let run := decide (t.bk.mode = .run)
  let oven (n : Nat) : Bool := run && decide (1 ≤ n ∧ n ≤ t.ovenCount)
  match c with
  | .silenceWindowExpiry x =>
    boolCode ((t.fl.entry x).inUse && (t.fl.entry x).liveness == .live && decide (x.window ≤ (t.fl.entry x).quiet))
  | .cokeMinuteExpiry => if run then t.cc.minutesDue else 0
  | .slotCarry => if run then t.su.carriesDue else 0
  | .chargeTimerExpiry n => boolCode (oven n && (t.oven n).chargeTimer == some 0)
  | .settleTimerExpiry n d => boolCode (oven n && ((t.oven n).door d).settleTimer == some 0)
  | .doorOffTimerExpiry n d => boolCode (oven n && ((t.oven n).door d).doorOffTimer == some 0)
  | .stageTimerExpiry => boolCode (run && t.pu.push.any (fun r => r.timer == 0))
  | .travelTimerExpiry k => boolCode (run && (t.car k).travelTimer == some 0)
  | .hotCokeTimerExpiry k => boolCode (run && (t.car k).hotTimer == some 0)
  | .quenchTimerExpiry k => boolCode (run && (t.car k).quenchTimer == some 0)
  | .drainTimerExpiry k => boolCode (run && (t.car k).drainTimer == some 0)
  | .dumpTimerExpiry k => boolCode (run && (t.car k).dumpTimer == some 0)
  | .bayHoldTimerExpiry b => boolCode (run && decide (1 ≤ b ∧ b ≤ 4) && (t.qu.bay b).holdTimer == some 0)
  | _ => 0

/-! ### Laws of the device -/

/-- The fixed sizes of the part: 96 oven records and N within 8..96 (R1, R211), eighteen nodes (R177), four bays (R138), eight
zones (R142) and the 17 points of both profiles (R109). -/
structure ShapeLaw (s : State) : Prop where
  ovens : s.ovens.length = Config.maxOvens
  countLow : 8 ≤ s.ovenCount
  countHigh : s.ovenCount ≤ Config.maxOvens
  nodes : s.fl.nodes.length = 18
  bays : s.qu.bays.length = 4
  zones : s.qu.zones.length = 8
  active : s.pr.active.length = 17
  shadow : s.pr.shadow.length = 17

/-- One door's part in the law of R94. -/
abbrev Door.Lawful (d : Door) : Prop :=
  d.clampStep ≤ 15 ∧ d.learnedStep ≤ 15 ∧ (d.state = .leaking → d.clampStep = 15)

/-- The law of R94: every clamp step lies within 0..15, and every LEAKING door has clamp step 15. The base and learned steps lie
within 0..15 too, on which the law rests. -/
structure DoorLaw (s : State) : Prop where
  base : s.du.baseStep ≤ 15
  doors : ∀ o ∈ s.ovens, o.doorP.Lawful ∧ o.doorC.Lawful

/-- One valve's part in the law of R128. -/
abbrev Valve.Lawful (v : Valve) : Prop :=
  -500 ≤ v.setpoint ∧ v.setpoint ≤ 500 ∧ v.command ≤ 1023 ∧ v.manualPosition ≤ 1023

/-- The law of R128: every setpoint lies within -500..+500 Pa and every valve command, oven or main, within 0..1023. The manual
positions lie within 0..1023 too, on which the law rests. -/
structure ValveLaw (s : State) : Prop where
  ovens : ∀ o ∈ s.ovens, o.valve.Lawful
  mainCommand : s.pr.main.command ≤ 1023
  mainManual : s.pr.main.manualPosition ≤ 1023

/-- The rooms of the queues: 32 notices (R191), 256 field commands (R175), 4 out-of-turn entries (R43), 8 deferred (R44). -/
structure QueueLaw (s : State) : Prop where
  notices : s.sl.notices.length ≤ 32
  field : s.fl.queue.length ≤ 256
  outOfTurn : s.su.outOfTurn.length ≤ 4
  deferred : s.su.deferred.length ≤ 8

/-- The law of R150: every car in QUENCHING or DRAINING holds the tower grant. At most one car holds it, since the holder is one
field. -/
def TowerLaw (s : State) : Prop :=
  ∀ c : Car, (s.car c).state = .quenching ∨ (s.car c).state = .draining → s.qu.holder = some c

/-- The progress that R19's law allows in a phase. -/
abbrev Oven.ProgressLawful (o : Oven) : Prop :=
  o.progress ≤ Config.fullProgress ∧
    (o.phase = .empty ∨ o.phase = .charging → o.progress = 0) ∧
    (o.phase = .soaking ∨ o.phase = .ready ∨ o.phase = .pushing ∨ o.phase = .stalled →
      o.progress = Config.fullProgress)

/-- The laws of R56 and R19: a push record and a stall record are never present together and exist in RUN only; the oven of the
push record is PUSHING, that of the stall record STALLED, and no other oven is either; every P is as its phase requires. -/
structure PushLaw (s : State) : Prop where
  one : s.pu.push = none ∨ s.pu.stall = none
  running : s.pu.push ≠ none ∨ s.pu.stall ≠ none → s.bk.mode = .run
  pushed : ∀ r, s.pu.push = some r → s.inRange r.oven = true ∧ (s.oven r.oven).phase = .pushing
  stalled : ∀ r, s.pu.stall = some r → s.inRange r.oven = true ∧ (s.oven r.oven).phase = .stalled
  onlyPushed : ∀ n < 97, 0 < n → (s.oven n).phase = .pushing → ∃ r, s.pu.push = some r ∧ r.oven = n
  onlyStalled : ∀ n < 97, 0 < n → (s.oven n).phase = .stalled → ∃ r, s.pu.stall = some r ∧ r.oven = n
  progress : ∀ o ∈ s.ovens, o.ProgressLawful

/-- An oven is in COKING, SOAKING or READY. -/
abbrev Oven.Holds (o : Oven) : Prop := o.phase = .coking ∨ o.phase = .soaking ∨ o.phase = .ready

/-- The law of R44: no oven number appears twice across both lists, and every oven listed is in 1..N, in COKING, SOAKING or READY,
and not excluded; in CONFIG both lists are empty (R37). -/
structure ListLaw (s : State) : Prop where
  once : (s.su.outOfTurn ++ s.su.deferred).Nodup
  listed : ∀ n ∈ s.su.outOfTurn ++ s.su.deferred,
    s.inRange n = true ∧ (s.oven n).Holds ∧ s.excluded n = false
  config : s.bk.mode = .config → s.su.outOfTurn = [] ∧ s.su.deferred = []

/-- The law of R47: while an oven is PUSHING, each of its existing neighbours is in COKING, SOAKING or READY, or is excluded. -/
def NeighbourLaw (s : State) : Prop :=
  ∀ r, s.pu.push = some r → ∀ m, (m + 1 = r.oven ∨ m = r.oven + 1) → s.inRange m = true →
    (s.oven m).Holds ∨ s.excluded m = true

/-- An oven that R114 shuts: STALLED, PUSHING at ISOLATE or later, or EMPTY with the manual flag clear. -/
abbrev State.Shut (s : State) (n : Nat) : Prop :=
  (s.oven n).phase = .stalled ∨
    ((s.oven n).phase = .pushing ∧ ∃ r, s.pu.push = some r ∧ r.oven = n ∧ r.stage ≠ .spot) ∨
    ((s.oven n).phase = .empty ∧ (s.oven n).valve.manualFlag = false)

/-- The law of R114: in RUN every oven 1..N that is STALLED, PUSHING at ISOLATE or later, or EMPTY without the manual flag is in valve
mode CLOSED, and a valve in CLOSED has valve command 0. -/
structure ClosedLaw (s : State) : Prop where
  zero : ∀ o ∈ s.ovens, o.valve.mode = .closed → o.valve.command = 0
  shut : s.bk.mode = .run → ∀ n < 97, 0 < n → n ≤ s.ovenCount → s.Shut n → (s.oven n).valve.mode = .closed

/-- The standing of the waiting lists, on which the law of R60 rests: a car waits at most once, for the tower only in TO_TOWER or
WAITING_TOWER and without the grant, for a bay only in WAITING_BAY; the holder of the grant is in TO_TOWER, QUENCHING, DRAINING or
FAULTED (R148, R150, R152, R156, R159). -/
structure WaitLaw (s : State) : Prop where
  once : s.qu.waiters.Nodup ∧ s.qu.bayWaiters.Nodup
  tower : ∀ c ∈ s.qu.waiters, ((s.car c).state = .toTower ∨ (s.car c).state = .waitingTower) ∧ s.qu.holder ≠ some c
  bay : ∀ c ∈ s.qu.bayWaiters, (s.car c).state = .waitingBay
  holder : ∀ c, s.qu.holder = some c →
    (s.car c).state = .toTower ∨ (s.car c).state = .quenching ∨ (s.car c).state = .draining ∨ (s.car c).state = .faulted

/-- The law of R60: while a push is at ISOLATE or later its claimed car is SPOTTED or LOADED at the pushed oven; a push up to RAM has a
claimed car, and one in DOORS_ON has none. -/
def ClaimLaw (s : State) : Prop :=
  ∀ r, s.pu.push = some r →
    (r.stage ≠ .spot → r.claimed = true →
      ((s.car r.car).state = .spotted ∨ (s.car r.car).state = .loaded) ∧ (s.car r.car).position = .oven r.oven) ∧
    (r.stage = .spot ∨ r.stage = .isolate ∨ r.stage = .doorsOff ∨ r.stage = .ram → r.claimed = true) ∧
    (r.stage = .doorsOn → r.claimed = false)

/-- The standing of the main floor, on which R125 rests: the main node's entry is always in use, and outside reset the floor stands only
while FL's table shows the node LIVE, or its silence is still to be taken at PR (R133, R135, R177, R180, R181). -/
structure FloorLaw (s : State) : Prop where
  inUse : (s.fl.entry .main).inUse = true
  standing : s.pins.inReset = true ∨ s.pr.floorOn = false ∨ (s.fl.entry .main).liveness = .live ∨
    Instr.mainNodeSilence ∈ s.due

end Sys2Proof.Machine
end

