-- ==== Sys2Proof/Certificates/Slice0/Obligations.lean ====
section
/-!
DEFINITION. The statements about the part, from the rules of spec/. Each docstring names the rules it formalises and, where a clause is
the model's choice, the log entry.
-/

open Sys2Proof Sys2Proof.Machine

/-! ### The queue, reset and the laws -/

/-- One step takes the command at the front of the queue with the queue's rest. On an empty queue it takes the oldest event
the part has brought about, and with none it idles: the model's choices of log 1. -/
def Obligations.StepTakesTheFrontCommand : Prop :=
  (∀ (s : State) (c : Instr) (rest : List Instr), s.pending = c :: rest → step s = exec c (s.withPending rest)) ∧
  (∀ (s : State) (c : Instr) (rest : List Instr), s.pending = [] → s.due = c :: rest → step s = exec c s) ∧
  (∀ s : State, s.pending = [] → s.due = [] → step s = .next s)

/-- Every well-formed command answers a next state and leaves the queue of waiting commands alone; a command that names
something the part does not have faults by name (log 16). -/
def Obligations.EveryWellFormedCommandAnswers : Prop :=
  ∀ (c : Instr) (s : State),
    (c.wf = true → ∃ t, exec c s = .next t ∧ t.pending = s.pending) ∧
    (c.wf = false → exec c s = .fault .illFormed)

/-- Held in reset, the part takes no frame and sends nothing (R210). That no other event acts on it either, a battery second,
a report or an expiry included, and that the level of S_RTS still reaches it with RESET# and power-up, is the model's reading
of R210 (log 23). -/
def Obligations.NothingActsWhileHeldInReset : Prop :=
  ∀ (c : Instr) (s : State), s.pins.inReset = true → c.wf = true →
    (∀ a b d, c ≠ .resetReleased a b d) → (∀ r a b d, c ≠ .powerUp r a b d) → c ≠ .resetAsserted →
    c ≠ .sRtsAsserted → c ≠ .sRtsDeasserted → exec c s = .next s

/-- RESET# asserted cuts both links off; its release, or power-up, sets every block to its reset values with the straps and
the ESTOP# level sampled (R183, R210, R217, R218). The rest is the model's reading (log 24): at the assertion the events
brought about are dropped and all else stands until the release; a release that finds the part out of reset is no event;
power-up gives the reset values with RESET# low too; and the level of S_RTS and the waiting commands, which lie outside the
part, stay. -/
def Obligations.ResetTakesUpResetValues : Prop :=
  (∀ s : State, exec .resetAsserted s = .next { s with
    fl := { s.fl with fDe := false, receiver := .skip }
    sl := { s.sl with transmitter := .idle, receiver := .hunt }
    pins := { s.pins with inReset := true }
    due := [] }) ∧
  (∀ (s : State) (b1 b0 low : Bool), s.pins.inReset = true → exec (.resetReleased b1 b0 low) s = .next { State.reset with
    sl := { State.reset.sl with rts := s.sl.rts, baud := baudOf b1 b0 }
    pins := ⟨false, low⟩
    pending := s.pending }) ∧
  (∀ (s : State) (b1 b0 low : Bool), s.pins.inReset = false → exec (.resetReleased b1 b0 low) s = .next s) ∧
  (∀ (s : State) (high b1 b0 low : Bool), exec (.powerUp high b1 b0 low) s = .next { State.reset with
    sl := { State.reset.sl with rts := s.sl.rts, baud := baudOf b1 b0 }
    pins := ⟨!high, low⟩
    pending := s.pending }) ∧
  baudOf false false = .b9600 ∧ baudOf false true = .b38400 ∧ baudOf true false = .b115200 ∧ baudOf true true = .b230400

/-- What reset leaves: every field of every table of the spec's reset values: the oven table (R3, R108) with its doors (R87),
CC (R11, R16, R24), SU (R28), PU (R54, R84), DU's limits (R88), PR (R109, R110), QU (R136, R138, R142, R163), FL (R175, R177),
SL (R194), the hold set (R197) and BK (R205), with N = 96 and no frame on either link (R210). A car's in-service, fault and
tower-wait indications are clear by its state and the empty waiter list (log 17). The model's own fields (logs 3 and 21) and
the levels of the outside inputs (log 6) are not of the tables and are not stated here. The laws of the device hold after
reset, as every step keeps them. -/
def Obligations.ResetLeavesTheTabledValues : Prop :=
  (let s := State.reset
  let door : Door := {
    state := .sealed, clampStep := 4, learnedStep := 4, leakLevel := 0, persistence := 0, unexpected := false, offLong := false
    permit := false, doorOffTimer := none, settleTimer := none }
  let car : CarRecord := {
    state := .outOfService, position := .unknown, target := none, travelTimer := none, load := none, hotTimer := none
    hotLate := false, quenchTimer := none, drainTimer := none, dumpTimer := none, reservedBay := none, lastFault := none
    status := .empty, fault := 0 }
  s.ovenCount = 96 ∧ s.bk = ⟨0, 0, .config⟩ ∧
  s.ovens = List.replicate 96 {
    phase := .empty, progress := 0, trim := 0, trimInhibit := false, profileOffset := 0, planSoak := 30, planPending := false
    activeSoak := 30, soakRemaining := 0, chargedAt := 0, late := false, chargeLong := false, stickerPending := false
    hardPushCount := 0, lastPushNumber := 0, chargeTimer := none, doorP := door, doorC := door
    valve := {
      mode := .hold, manualFlag := false, manualPosition := 0, setpoint := 0, lastPressure := none, command := 0
      aspiration := false, feedback := 0, capOpen := false
      trace := { leakBias := false, floorRaised := false, clampActed := false, stepLimited := false }, lastStep := 0 }
    heldStatus := none, heldAge := none } ∧
  s.cc.heatA = 13982 ∧ s.cc.heatB = 13982 ∧ s.cc.selectB = false ∧ s.cc.minuteTimer = 0 ∧
  s.cc.limits = { chargeLimit := 600, lateLimit := 1440, stickerSoak := 30 } ∧
  s.su.mode = .paused ∧ s.su.step = 5 ∧ s.su.offset = 2 ∧ s.su.startOven = 1 ∧ s.su.cursor = 0 ∧ s.su.increment = 0 ∧
  s.su.accumulator = 0 ∧ s.su.slotFlag = false ∧ s.su.outOfTurn = [] ∧ s.su.deferred = [] ∧ s.su.granularity = 0 ∧
  s.su.exclusionStart = 1 ∧ s.su.exclusion = 0 ∧
  s.pu.push = none ∧ s.pu.stall = none ∧ s.pu.counter = 0 ∧
  s.pu.limits = { spot := 240, isolate := 20, doorsOff := 90, ram := 150, doorsOn := 90, sticker := 2600 } ∧
  s.pu.pusher = { position := 0, ram := .home, force := 0, holding := false, fault := 0 } ∧
  s.pu.guide = { position := 0, latched := false, holding := false, fault := 0 } ∧
  s.du = { doorOffLimit := 420, settleTime := 30, baseStep := 4, leakThreshold := 3, leakPersistence := 3 } ∧
  s.pr.active = [160, 150, 140, 130, 120, 120, 120, 120, 120, 60, 40, 30, 20, 20, 20, 20, 20] ∧
  s.pr.shadow = s.pr.active ∧ s.pr.gain = 4 ∧ s.pr.shift = 3 ∧ s.pr.stepLimit = 16 ∧ s.pr.leakBias = 40 ∧ s.pr.margin = 20 ∧
  s.pr.floorOn = false ∧ s.pr.main = {
    mode := .hold, setpoint := 60, gain := 2, shift := 4, stepLimit := 8, manualFlag := false, manualPosition := 0, command := 0
    pressure := none, feedback := 0, lastStep := 0 } ∧
  s.car .one = car ∧ s.car .two = car ∧
  (∀ c : Car, (s.car c).inService = false ∧ (s.car c).faulted = false ∧ c ∉ s.qu.waiters) ∧
  s.qu.holder = none ∧ s.qu.waiters = [] ∧ s.qu.bayWaiters = [] ∧ s.qu.sprayReported = false ∧ s.qu.carInTower = none ∧
  s.qu.bays = List.replicate 4 { state := .free, car := none, holdTimer := none } ∧ s.qu.zoneShift = 4 ∧
  s.qu.zones = List.replicate 8 { preferred := .one, alternate := some .two } ∧
  s.qu.limits = { quench := 90, drain := 40, hotCoke := 240, travel := 300, dump := 45, bayHold := 1200 } ∧
  s.fl.nodes = List.replicate 18 { liveness := .neverHeard, inUse := true, quiet := 0, lastReport := 0 } ∧
  s.fl.queue = [] ∧ s.fl.fDe = false ∧
  s.sl.receiver = .hunt ∧ s.sl.spare = none ∧ s.sl.inService = none ∧ s.sl.replySlot = none ∧ s.sl.notices = [] ∧
  s.sl.noticeLost = false ∧ s.sl.discards = 0 ∧ s.sl.overruns = 0 ∧ s.ctsAsserted = true ∧ s.sl.transmitter = .idle) ∧
  (ShapeLaw State.reset ∧ QueueLaw State.reset ∧ DoorLaw State.reset ∧ ValveLaw State.reset ∧ TowerLaw State.reset ∧
  PushLaw State.reset ∧ ListLaw State.reset ∧ NeighbourLaw State.reset ∧ ClosedLaw State.reset ∧ WaitLaw State.reset ∧
  ClaimLaw State.reset ∧ FloorLaw State.reset)

/-- Every step keeps the part's sizes and the rooms of its queues: 96 records, N within 8..96, 18 nodes, 4 bays, 8 zones, 17
profile points; at most 32 notices, 256 field commands, 4 out-of-turn and 8 deferred entries. -/
def Obligations.EveryStepKeepsSizesAndRooms : Prop :=
  ∀ s t : State, ShapeLaw s → QueueLaw s → step s = .next t → ShapeLaw t ∧ QueueLaw t

/-- The law R94 owns is kept by every step, whichever command or event it takes. -/
def Obligations.EveryStepKeepsTheDoorLaw : Prop :=
  ∀ s t : State, DoorLaw s → step s = .next t → DoorLaw t

/-- The law R128 owns is kept by every step: setpoints within -500..+500 Pa, every valve command within 0..1023. -/
def Obligations.EveryStepKeepsTheValveLaw : Prop :=
  ∀ s t : State, ValveLaw s → step s = .next t → ValveLaw t

/-- The law R150 owns is kept by every step: a car in QUENCHING or DRAINING holds the tower grant. -/
def Obligations.EveryStepKeepsTheTowerLaw : Prop :=
  ∀ s t : State, TowerLaw s → step s = .next t → TowerLaw t

/-- The laws R56 and R19 own are kept by every step: at most one oven is PUSHING or STALLED, the one its record names, and
every oven's P is as its phase requires. -/
def Obligations.EveryStepKeepsThePushLaw : Prop :=
  ∀ s t : State, ShapeLaw s → PushLaw s → step s = .next t → PushLaw t

/-- The law R44 owns is kept by every step: no oven twice across both lists, every entry COKING, SOAKING or READY and not
excluded. -/
def Obligations.EveryStepKeepsTheListLaw : Prop :=
  ∀ s t : State, ShapeLaw s → PushLaw s → ListLaw s → step s = .next t → ListLaw t

/-- The law R47 owns is kept by every step, a push start included: while an oven is PUSHING each existing neighbour braces it.
-/
def Obligations.EveryStepKeepsTheNeighbourLaw : Prop :=
  ∀ s t : State, ShapeLaw s → PushLaw s → NeighbourLaw s → step s = .next t → NeighbourLaw t

/-! ### Requests, replies and the state byte -/

/-- Where a good request frame goes (R186, R187): tag 0 is discarded and counted; behind a request in service it takes the
spare buffer; with the spare buffer full it is an overrun. Nothing else changes. A request row is its whole good frame (log
4). -/
def Obligations.RequestFramesAreBuffered : Prop :=
  ∀ (c : Instr) (f : Frame) (s : State), encodeRequest c = some f → c.wf = true → s.pins.inReset = false →
    (s.sl.spare = none → s.sl.inService = none → f.tag = 0 →
      exec c s = .next { s with
        sl := { s.sl with discards := min 65535 (s.sl.discards + 1) }, due := s.due.erase c }) ∧
    (∀ g, s.sl.inService = some g → s.sl.spare = none →
      exec c s = .next { s with sl := { s.sl with spare := some f }, due := s.due.erase c }) ∧
    (∀ g, s.sl.spare = some g →
      exec c s = .next { s with
        sl := { s.sl with overruns := min 65535 (s.sl.overruns + 1) }, due := s.due.erase c })

/-- Every request taken is answered once, with its own kind plus 0x80 and its tag; a refused one changes no state beyond its
answer and, PUSH_NOW and START apart, carries no field (R187, R188). A good frame of a kind that names no request is answered
UNKNOWN_KIND with its kind plus 0x80, or 0xFF for a kind of 0x80 or above, and changes nothing else (R187, R188). -/
def Obligations.RefusedRequestsChangeNothing : Prop :=
  (∀ (c : Instr) (f : Frame) (s : State), encodeRequest c = some f → c.wf = true → s.Free → f.tag ≠ 0 →
    ∃ t, exec c s = .next t ∧ ∃ (x : Status) (fields : List Byte), Replied t f x fields ∧
      (x ≠ .ok → FrameOf c [.sl] s t ∧ Answered s t f x fields ∧
        ((∀ a n, c ≠ .pushNow a n) → (∀ a, c ≠ .start a) → fields = []))) ∧
  (∀ (s : State) (tag kind : Byte) (body : List Byte), s.Free → tag ≠ 0 → isRequestKind kind = false → body.length ≤ 240 →
    ∃ t, exec (.unknownKind tag kind body) s = .next t ∧ Answered s t ⟨kind, tag, body⟩ .unknownKind [] ∧
      FrameOf (.unknownKind tag kind body) [.sl] s t ∧
      t.sl.replySlot.map (fun r => (r.kind, r.tag, r.body.length)) =
        some (if 0x80 ≤ kind.toNat then 0xFF else kind + 0x80, tag, 2))

/-- The queries answer OK, change nothing but SL, and carry after status and state byte the fields their rules list, as they
stand: STATUS (R195), QUERY_OVEN (R25), QUERY_SCHEDULE (R53), QUERY_PUSH (R83), QUERY_DOORS (R106), QUERY_PRESSURE for an oven
and for the main (R134), and QUERY_QUENCH (R164); the number at the end of each row is the length of the whole reply body.
That QUERY_PUSH shows 0 for the flags of a stall record and for the first cause of a push record is the model's reading (log
29). QUERY_OVEN (R25) and QUERY_DOORS (R106) of an oven outside 1..N, and QUERY_PRESSURE (R134) with a selector above N, are
refused with BAD_OVEN and change nothing else. ALARM_SUMMARY (R202, R204) changes nothing but SL: it counts the present
conditions of each of the nine kinds, lists the first sixteen subjects in order of kind, number and side, and fills the reply
body of 60 bytes with zeros. -/
def Obligations.QueriesOnlyReply : Prop :=
  (∀ (s : State) (tag n : Byte), ShapeLaw s → s.Free → tag ≠ 0 → 1 ≤ n.toNat → n.toNat ≤ s.ovenCount →
    ∀ o : Oven, o = s.oven n.toNat → ∀ v : Valve, v = o.valve → ∀ m : MainRecord, m = s.pr.main →
    ∀ l : QuenchUnit, l = s.qu →
    ∀ q ∈ ([
      (.status tag, 0x01, [],
        [byteOf s.bk.mode.code, byteOf s.su.mode.code, byteOf s.ovenCount] ++ wordBytes s.bk.minutes ++
          wordBytes s.bk.seconds ++
          [byteOf (bits [s.pins.estop, s.alarmPresent, s.pu.push.isSome, s.pu.stall.isSome]),
            byteOf s.sl.notices.length] ++
          half s.sl.discards ++ half s.sl.overruns ++ half s.fl.queue.length ++
          Node.all.flatMap (fun x =>
            [byteOf x.id, byteOf ((s.fl.entry x).liveness.code + if (s.fl.entry x).inUse then 128 else 0)] ++
              wordBytes (s.fl.entry x).lastReport), 129),
      (.queryOven tag n, 0x16, [n],
        [n, byteOf o.phase.code,
          byteOf (bits [o.late, o.chargeLong, o.stickerPending, o.planPending, o.trimInhibit, s.excluded n.toNat])] ++
          word o.progress ++ signed o.trim ++
          [byteOf o.profileOffset, byteOf (o.planSoak - 1), byteOf (o.activeSoak - 1)] ++ half o.soakRemaining ++
          wordBytes o.chargedAt ++ wordBytes (s.bk.minutes - o.chargedAt) ++ [byteOf o.hardPushCount] ++
          halfBytes o.lastPushNumber, 27),
      (.querySchedule tag, 0x27, [],
        [byteOf s.su.mode.code, byteOf s.su.step, byteOf s.su.offset, byteOf s.su.startOven, byteOf s.su.cursor,
          byteOf (s.ovenAt s.su.cursor)] ++ half s.su.increment ++ half s.su.accumulator ++
          [byteOf (bits [s.su.slotFlag, decide (Nat.gcd s.su.offset s.su.step = 1 ∧ s.su.step ≤ s.ovenCount)]),
            byteOf s.su.outOfTurn.length] ++ (List.range 4).map (fun i => byteOf (s.su.outOfTurn.getD i 0)) ++
          byteOf s.su.deferred.length :: (List.range 8).map (fun i => byteOf (s.su.deferred.getD i 0)) ++
          [byteOf s.su.granularity, byteOf s.su.exclusionStart] ++
          (List.range 4).flatMap (fun w => halfBytes (s.su.exclusion.extractLsb' (16 * w) 16)), 37),
      (.queryPush tag, 0x33, [],
        (match s.pu.push, s.pu.stall with
          | some r, _ => 1 :: halfBytes s.pu.counter ++ halfBytes r.number ++
            [byteOf r.oven, byteOf r.origin.code, byteOf r.car.code, flag r.claimed, byteOf r.stage.code] ++
            wordBytes r.entered ++ half r.timer ++ half r.peakForce ++
            [byteOf (bits [r.forwardSeen, r.emptyCar, r.doorFault, r.latchSent]),
              byteOf ((r.abortCause.map AbortCause.code).getD 0), 0]
          | none, some r => 2 :: halfBytes s.pu.counter ++ halfBytes r.number ++
            [byteOf r.oven, byteOf r.origin.code, byteOf r.car.code, flag r.claimed, byteOf r.stage.code] ++
            wordBytes r.second ++ [0, 0] ++ half r.peakForce ++
            [0, byteOf r.cause.code, byteOf ((r.firstCause.map AbortCause.code).getD 0)]
          | none, none => 0 :: halfBytes s.pu.counter ++ List.replicate 18 0) ++
          [byteOf s.pu.pusher.position, byteOf s.pu.pusher.ram.code, byteOf s.pu.pusher.fault,
            byteOf s.pu.guide.position, flag s.pu.guide.latched, byteOf s.pu.guide.fault], 29),
      (.queryDoors tag n, 0x42, [n],
        n :: [o.doorP, o.doorC].flatMap (fun d =>
          [byteOf d.state.code, byteOf d.clampStep, byteOf d.learnedStep, byteOf d.leakLevel, byteOf d.persistence,
            byteOf (bits [d.unexpected, d.offLong, d.permit])] ++
            half (d.doorOffTimer.getD 0) ++ [byteOf (d.settleTimer.getD 0)]), 21),
      (.queryPressure tag n, 0x56, [n],
        [n, byteOf v.mode.code, byteOf (bits [v.manualFlag, v.aspiration, v.capOpen, s.live (servingNode n.toNat)]),
          byteOf (bits [v.trace.leakBias, v.trace.floorRaised, v.trace.clampActed, v.trace.stepLimited])] ++
          half v.manualPosition ++ half v.command ++ signed v.setpoint ++ pressureField v.lastPressure ++
          half v.feedback ++ signed v.lastStep, 18),
      (.queryPressure tag 0, 0x56, [0],
        [0, byteOf m.mode.code, byteOf (bits [m.manualFlag, s.live .main])] ++ signed m.setpoint ++
          [byteOf (m.gain - 1), byteOf m.shift, byteOf m.stepLimit] ++ half m.manualPosition ++ half m.command ++
          pressureField m.pressure ++ half m.feedback ++ signed m.lastStep ++
          [byteOf (s.pr.gain - 1), byteOf s.pr.shift, byteOf s.pr.stepLimit, byteOf s.pr.leakBias, byteOf s.pr.margin] ++
          s.pr.active.flatMap signed ++ s.pr.shadow.flatMap signed, 93),
      (.queryQuench tag, 0x63, [],
        [byteOf ((l.holder.map Car.code).getD 0)] ++
          [l.waiters, l.bayWaiters].flatMap (fun w =>
            byteOf w.length :: (List.range 2).map (fun i => byteOf ((w.map Car.code).getD i 0))) ++
          [flag l.sprayReported, byteOf ((l.carInTower.map Car.code).getD 0), byteOf l.zoneShift] ++
          [Car.one, .two].flatMap (fun c =>
            [byteOf (s.car c).state.code, byteOf (s.car c).position.code,
              byteOf (bits [(s.car c).state != .outOfService, l.waiters.contains c, (s.car c).hotLate,
                (s.car c).state == .faulted,
                match s.pu.push, s.pu.stall with
                  | some r, _ => r.car == c && r.claimed
                  | none, some r => r.car == c && r.claimed
                  | none, none => false,
                (s.car c).load.isSome]),
              byteOf (((s.car c).target.map Location.code).getD 0)] ++
              half ((s.car c).travelTimer.getD 0) ++
              half (((s.car c).quenchTimer.or ((s.car c).drainTimer.or (s.car c).dumpTimer)).getD 0) ++
              half ((s.car c).hotTimer.getD 0) ++
              (match (s.car c).load with
                | some k => halfBytes k.number ++ [byteOf k.oven] ++ wordBytes k.second
                | none => List.replicate 7 0) ++
              [byteOf (s.car c).status.code, byteOf (s.car c).fault,
                byteOf (((s.car c).lastFault.map FaultCause.code).getD 0)]) ++
          [1, 2, 3, 4].flatMap (fun b =>
            [byteOf (l.bay b).state.code, byteOf (((l.bay b).car.map Car.code).getD 0)] ++
              half ((l.bay b).holdTimer.getD 0)) ++
          l.zones.flatMap (fun z => [byteOf z.preferred.code, byteOf ((z.alternate.map Car.code).getD 0)]), 84)] :
        List (Instr × Byte × List Byte × List Byte × Nat)),
      ∃ t, exec q.1 s = .next t ∧ FrameOf q.1 [.sl] s t ∧
        Answered s t ⟨q.2.1, tag, q.2.2.1⟩ .ok q.2.2.2.1 ∧ q.2.2.2.1.length + 2 = q.2.2.2.2) ∧
  (∀ (s : State) (tag n : Byte), s.Free → tag ≠ 0 →
    (n.toNat = 0 ∨ s.ovenCount < n.toNat →
      ∀ q ∈ [(Instr.queryOven tag n, (0x16 : Byte)), (.queryDoors tag n, 0x42)],
        ∃ t, exec q.1 s = .next t ∧ FrameOf q.1 [.sl] s t ∧ Answered s t ⟨q.2, tag, [n]⟩ .badOven []) ∧
    (s.ovenCount < n.toNat →
      ∃ t, exec (.queryPressure tag n) s = .next t ∧ FrameOf (.queryPressure tag n) [.sl] s t ∧
        Answered s t ⟨0x56, tag, [n]⟩ .badOven [])) ∧
  (∀ (s : State) (tag : Byte), ShapeLaw s → s.Free → tag ≠ 0 →
    ∀ ovens : List Nat, ovens = (List.range s.ovenCount).map (· + 1) →
    ∀ l : List (Nat × Nat × Nat),
      l = (if s.pins.estop then [(1, 0, 0)] else []) ++
        (Node.all.filter (fun x => (s.fl.entry x).inUse && (s.fl.entry x).liveness == .silent)).map
          (fun x => (2, x.id, 0)) ++
        (s.pu.stall.map (fun r => (3, r.oven, 0))).toList ++
        ovens.flatMap (fun n => ([Side.p, .c].filter (fun d => ((s.oven n).door d).offLong)).map (fun d => (4, n, d.code))) ++
        ovens.flatMap (fun n =>
          ([Side.p, .c].filter (fun d => ((s.oven n).door d).unexpected)).map (fun d => (5, n, d.code))) ++
        ovens.flatMap (fun n =>
          ([Side.p, .c].filter (fun d => ((s.oven n).door d).state == .leaking)).map (fun d => (6, n, d.code))) ++
        (ovens.filter (fun n => (s.oven n).chargeLong)).map (fun n => (7, n, 0)) ++
        ([Car.one, .two].filter (fun c => (s.car c).hotLate)).map (fun c => (8, c.code, 0)) ++
        ([Car.one, .two].filter (fun c => (s.car c).state == .faulted)).map (fun c => (9, c.code, 0)) →
    ∀ fields : List Byte,
      fields = (List.range 9).map (fun k => byteOf (l.countP (fun x => x.1 == k + 1))) ++ [byteOf (min 16 l.length)] ++
        (l.take 16).flatMap (fun x => [byteOf x.1, byteOf x.2.1, byteOf x.2.2]) ++
        List.replicate (48 - 3 * min 16 l.length) 0 →
    fields.length + 2 = 60 ∧
    ∃ t, exec (.alarmSummary tag) s = .next t ∧ FrameOf (.alarmSummary tag) [.sl] s t ∧
      Answered s t ⟨0x03, tag, []⟩ .ok fields)

/-- The state byte's bits (R189): mode, schedule mode, ESTOP#, alarm, notice-lost, notices waiting; bit 7 zero. The ALARM line
is low exactly when at least one of the nine conditions of R202 is present in its owner's record. S_CTS is asserted exactly
while the spare buffer is empty, and not while the part is held in reset (R186, R210). -/
def Obligations.StateByteAndAlarmShowTheStanding : Prop :=
  (∀ s : State,
    s.stateByte.getLsbD 0 = (s.bk.mode == .run) ∧
    s.stateByte.getLsbD 1 = (s.su.mode == .auto) ∧
    s.stateByte.getLsbD 2 = (s.su.mode == .paused) ∧
    s.stateByte.getLsbD 3 = s.pins.estop ∧
    s.stateByte.getLsbD 4 = s.alarmPresent ∧
    s.stateByte.getLsbD 5 = s.sl.noticeLost ∧
    s.stateByte.getLsbD 6 = !s.sl.notices.isEmpty ∧
    s.stateByte.getLsbD 7 = false) ∧
  (∀ s : State, ShapeLaw s → s.pins.inReset = false →
    (s.alarmLine = true ↔
      s.pins.estop = true ∨
      (∃ x : Node, (s.fl.entry x).inUse = true ∧ (s.fl.entry x).liveness = .silent) ∨
      s.pu.stall ≠ none ∨
      (∃ n < 97, 0 < n ∧ n ≤ s.ovenCount ∧ ∃ d : Side,
        ((s.oven n).door d).offLong = true ∨ ((s.oven n).door d).unexpected = true ∨
          ((s.oven n).door d).state = .leaking) ∨
      (∃ n < 97, 0 < n ∧ n ≤ s.ovenCount ∧ (s.oven n).chargeLong = true) ∨
      (∃ c : Car, (s.car c).hotLate = true) ∨
      (∃ c : Car, (s.car c).state = .faulted))) ∧
  (∀ s : State, s.ctsAsserted = true ↔ s.sl.spare = none ∧ s.pins.inReset = false)

/-! ### Frames on the two links -/

/-- A request's frame is judged as that request again, every operand intact; a frame of a kind outside section 8.5 is judged
UNKNOWN_KIND (R187). -/
def Obligations.RequestsSurviveTheWire : Prop :=
  ∀ (c : Instr) (f : Frame), encodeRequest c = some f → c.wf = true →
    ((∀ t k b, c ≠ .unknownKind t k b) → decodeRequest f = .request c) ∧
    ((∃ t k b, c = .unknownKind t k b) → decodeRequest f = .unknownKind)

/-- A report of each node survives its frame's body, every field intact (R171 to R173). -/
def Obligations.ReportsSurviveTheWire : Prop :=
  ∀ r : Report,
    (match r with
      | .pusher x => decide (x.position ≤ 96)
      | .guide x => decide (x.position ≤ 96)
      | .car _ x => x.position.wf
      | .tower _ => true
      | .main _ => true
      | .oven _ es => decide (es.length = 8)) = true →
    decodeReport (encodeReport r).1 (encodeReport r).2.1 (encodeReport r).2.2 = some r

/-- A frame that completes with a good CRC acts as the request it spells, with the receiver back in HUNT; a mismatch changes
only the receiver and the discard count (R185, R186). The whole frame is heard in every state of the receiver, SKIP included,
where R185's bytes complete none: the model's reading (log 38). Taken with a length that is not its kind's (section 8.5), a
frame is answered BAD_LENGTH, and CAR_SERVICE with an action above 1 BAD_VALUE, and nothing else changes (R140, R187, R188).
-/
def Obligations.CompleteFramesActAsTheirRequests : Prop :=
  ∀ (s : State) (f : Frame) (received : Half), s.pins.inReset = false → s.due = [] → f.body.length ≤ 240 →
    (received ≠ supFrameCrc f → exec (.supFrameComplete f.kind f.tag f.body received) s =
      .next { s with sl := { s.sl with receiver := .hunt, discards := min 65535 (s.sl.discards + 1) } }) ∧
    (∀ c, encodeRequest c = some f → c.wf = true → received = supFrameCrc f →
      ∃ t, exec (.supFrameComplete f.kind f.tag f.body received) s = .next t ∧
        exec c { s with sl := { s.sl with receiver := .hunt } } = .next t) ∧
    (s.Free → f.tag ≠ 0 → received = supFrameCrc f →
      (∀ k ∈ [(0x01, 0), (0x02, 4), (0x03, 0), (0x04, 3), (0x05, 0), (0x06, 0), (0x10, 3), (0x11, 1), (0x12, 5), (0x13, 2),
          (0x14, 1), (0x15, 1), (0x16, 1), (0x17, 5), (0x20, 3), (0x21, 2), (0x22, 1), (0x23, 1), (0x24, 1), (0x25, 2),
          (0x26, 3), (0x27, 0), (0x30, 1), (0x31, 2), (0x32, 1), (0x33, 0), (0x34, 12), (0x40, 3), (0x41, 6), (0x42, 1),
          (0x50, 3), (0x51, 0), (0x52, 5), (0x53, 3), (0x54, 1), (0x55, 8), (0x56, 1), (0x60, 17), (0x61, 12), (0x62, 2),
          (0x63, 0), (0x70, 12), (0x71, 0), (0x72, 0), (0x73, 1)], k.1 = f.kind.toNat → f.body.length ≠ k.2 →
        ∃ t, exec (.supFrameComplete f.kind f.tag f.body received) s = .next t ∧
          FrameOf (.supFrameComplete f.kind f.tag f.body received) [.sl] s t ∧
          Answered (s.withSl { s.sl with receiver := .hunt }) t f .badLength []) ∧
      (f.kind = 0x62 → 1 < (f.body.getD 1 0).toNat → f.body.length = 2 →
        ∃ t, exec (.supFrameComplete f.kind f.tag f.body received) s = .next t ∧
          FrameOf (.supFrameComplete f.kind f.tag f.body received) [.sl] s t ∧
          Answered (s.withSl { s.sl with receiver := .hunt }) t f .badValue []))

/-- Bytes make frames. From HUNT, the bytes of a whole supervisory frame act as that frame complete (R184, R185); on an idle
field line, the bytes of a whole field frame act as that frame received (R168, R169). Any two bytes may stand for the CRC. -/
def Obligations.BytesMakeFrames : Prop :=
  (∀ (s : State) (f : Frame) (received : Half), s.pins.inReset = false → s.due = [] → s.sl.receiver = .hunt →
    f.body.length ≤ 240 →
    ∃ t, exec (.supFrameComplete f.kind f.tag f.body received) s = .next t ∧
      Takes (((0xC3 : Byte) :: byteOf f.body.length :: f.kind :: f.tag :: (f.body ++ halfBytes received)).map
        Instr.supervisoryByteReceived) s t) ∧
  (∀ (s : State) (id kind : Byte) (body : List Byte) (received : Half), s.pins.inReset = false → s.due = [] →
    s.fl.receiver = .idle → s.fl.fDe = false → body.length ≤ 120 →
    ∃ t, exec (.fieldFrameReceived id kind body received) s = .next t ∧
      Takes (((0xD5 : Byte) :: id :: byteOf body.length :: kind :: (body ++ halfBytes received)).map
        Instr.fieldByteReceived) s t)

/-! ### The oven table and the coking clock -/

/-- SET_HEAT writes the named word and SELECT_HEAT the selection, in either mode, and each answers the selection and both
words; a selector above 1 is refused BAD_VALUE (R11, R12). SET_TRIM and SET_PLAN write their fields of the named oven and no
other record, in any mode and phase, with the trim clamped to -4096..+4095; they are refused BAD_OVEN outside 1..N, and
SET_TRIM then BAD_VALUE for an inhibit above 1 (R13, R14). -/
def Obligations.HeatTrimAndPlanAreWritten : Prop :=
  (∀ (s : State) (tag sel : Byte) (v : Half), s.Free → tag ≠ 0 →
    (sel.toNat ≤ 1 →
      (∃ t, exec (.setHeat tag sel v) s = .next t ∧ FrameOf (.setHeat tag sel v) [.cc, .sl] s t ∧
        t.cc = (if sel = 0 then { s.cc with heatA := v.toNat } else { s.cc with heatB := v.toNat }) ∧
        Answered s t ⟨0x10, tag, sel :: halfBytes v⟩ .ok (flag s.cc.selectB :: (half t.cc.heatA ++ half t.cc.heatB))) ∧
      (∃ t, exec (.selectHeat tag sel) s = .next t ∧ FrameOf (.selectHeat tag sel) [.cc, .sl] s t ∧
        t.cc = { s.cc with selectB := sel == 1 } ∧
        Answered s t ⟨0x11, tag, [sel]⟩ .ok (sel :: (half s.cc.heatA ++ half s.cc.heatB)))) ∧
    (1 < sel.toNat →
      (∃ t, exec (.setHeat tag sel v) s = .next t ∧ FrameOf (.setHeat tag sel v) [.sl] s t ∧
        Answered s t ⟨0x10, tag, sel :: halfBytes v⟩ .badValue []) ∧
      (∃ t, exec (.selectHeat tag sel) s = .next t ∧ FrameOf (.selectHeat tag sel) [.sl] s t ∧
        Answered s t ⟨0x11, tag, [sel]⟩ .badValue []))) ∧
  (∀ (s : State) (tag n inhibit offset soak : Byte) (trim : Half), s.Free → tag ≠ 0 →
    (1 ≤ n.toNat → n.toNat ≤ s.ovenCount →
      (inhibit.toNat ≤ 1 →
        ∃ t, exec (.setTrim tag n trim inhibit offset) s = .next t ∧
          FrameOf (.setTrim tag n trim inhibit offset) [.ovens, .sl] s t ∧
          t.ovens = s.ovens.set (n.toNat - 1) { s.oven n.toNat with
            trim := max (-4096) (min 4095 trim.toInt), trimInhibit := inhibit == 1, profileOffset := offset.toNat } ∧
          Answered s t ⟨0x12, tag, n :: (halfBytes trim ++ [inhibit, offset])⟩ .ok
            (n :: (signed (max (-4096) (min 4095 trim.toInt)) ++ [inhibit, offset]))) ∧
      (1 < inhibit.toNat →
        ∃ t, exec (.setTrim tag n trim inhibit offset) s = .next t ∧
          FrameOf (.setTrim tag n trim inhibit offset) [.sl] s t ∧
          Answered s t ⟨0x12, tag, n :: (halfBytes trim ++ [inhibit, offset])⟩ .badValue []) ∧
      (∃ t, exec (.setPlan tag n soak) s = .next t ∧ FrameOf (.setPlan tag n soak) [.ovens, .sl] s t ∧
        t.ovens = s.ovens.set (n.toNat - 1) { s.oven n.toNat with planSoak := soak.toNat + 1, planPending := true } ∧
        Answered s t ⟨0x13, tag, [n, soak]⟩ .ok [n, soak, byteOf ((s.oven n.toNat).activeSoak - 1)])) ∧
    (¬(1 ≤ n.toNat ∧ n.toNat ≤ s.ovenCount) →
      (∃ t, exec (.setTrim tag n trim inhibit offset) s = .next t ∧
        FrameOf (.setTrim tag n trim inhibit offset) [.sl] s t ∧
        Answered s t ⟨0x12, tag, n :: (halfBytes trim ++ [inhibit, offset])⟩ .badOven []) ∧
      (∃ t, exec (.setPlan tag n soak) s = .next t ∧ FrameOf (.setPlan tag n soak) [.sl] s t ∧
        Answered s t ⟨0x13, tag, [n, soak]⟩ .badOven [])))

/-- The five requests that set limits are taken in either mode with each value clamped to its range, answer the values taken,
and change nothing else: no timer already loaded is altered (R24, R84, R105, R129, R163). SET_ZONES (R142, R143): BAD_VALUE
for a shift above 4, a preferred car that is not 1 or 2 or an alternate above 2, then BUSY while a push record exists; taken,
the shift and all eight entries are written and the reply repeats the seventeen bytes. -/
def Obligations.LimitsAndZonesAreTaken : Prop :=
  (∀ (s : State) (tag h i j k l : Byte) (a b d e f g : Half), s.Free → tag ≠ 0 →
    (∃ t, exec (.setCokingLimits tag a b k) s = .next t ∧
      FrameOf (.setCokingLimits tag a b k) [.cc, .sl] s t ∧
      t.cc = { s.cc with limits :=
        ⟨max 60 (min 900 a.toNat), max 60 (min 4095 b.toNat), min 120 k.toNat⟩ } ∧
      Answered s t ⟨0x17, tag, halfBytes a ++ halfBytes b ++ [k]⟩ .ok
        (half t.cc.limits.chargeLimit ++ half t.cc.limits.lateLimit ++ [byteOf t.cc.limits.stickerSoak])) ∧
    (∃ t, exec (.setPushLimits tag a b d e f g) s = .next t ∧
      FrameOf (.setPushLimits tag a b d e f g) [.pu, .sl] s t ∧
      t.pu = { s.pu with limits :=
        ⟨max 30 (min 600 a.toNat), max 5 (min 60 b.toNat), max 20 (min 240 d.toNat), max 30 (min 300 e.toNat),
         max 20 (min 240 f.toNat), min 4000 g.toNat⟩ } ∧
      Answered s t
        ⟨0x34, tag, halfBytes a ++ halfBytes b ++ halfBytes d ++ halfBytes e ++ halfBytes f ++ halfBytes g⟩ .ok
        (half t.pu.limits.spot ++ half t.pu.limits.isolate ++ half t.pu.limits.doorsOff ++ half t.pu.limits.ram ++
          half t.pu.limits.doorsOn ++ half t.pu.limits.sticker)) ∧
    (∃ t, exec (.setDoorLimits tag a h i j k) s = .next t ∧
      FrameOf (.setDoorLimits tag a h i j k) [.du, .sl] s t ∧
      t.du = ⟨max 60 (min 900 a.toNat), max 10 (min 120 h.toNat), min 15 i.toNat, max 1 (min 7 j.toNat),
        max 1 (min 8 k.toNat)⟩ ∧
      Answered s t ⟨0x41, tag, halfBytes a ++ [h, i, j, k]⟩ .ok
        (half t.du.doorOffLimit ++
          [byteOf t.du.settleTime, byteOf t.du.baseStep, byteOf t.du.leakThreshold, byteOf t.du.leakPersistence])) ∧
    (∃ t, exec (.setLoop tag h i j k l) s = .next t ∧
      FrameOf (.setLoop tag h i j k l) [.pr, .sl] s t ∧
      t.pr = { s.pr with
        gain := min 16 (h.toNat + 1), shift := min 15 i.toNat, stepLimit := max 1 (min 64 j.toNat),
        leakBias := min 200 k.toNat, margin := min 100 l.toNat } ∧
      Answered s t ⟨0x52, tag, [h, i, j, k, l]⟩ .ok
        [byteOf (t.pr.gain - 1), byteOf t.pr.shift, byteOf t.pr.stepLimit, byteOf t.pr.leakBias, byteOf t.pr.margin]) ∧
    (∃ t, exec (.setQuenchLimits tag a b d e f g) s = .next t ∧
      FrameOf (.setQuenchLimits tag a b d e f g) [.qu, .sl] s t ∧
      t.qu = { s.qu with limits :=
        ⟨max 60 (min 180 a.toNat), max 20 (min 120 b.toNat), max 60 (min 600 d.toNat), max 30 (min 600 e.toNat),
         max 10 (min 120 f.toNat), max 300 (min 3600 g.toNat)⟩ } ∧
      Answered s t
        ⟨0x61, tag, halfBytes a ++ halfBytes b ++ halfBytes d ++ halfBytes e ++ halfBytes f ++ halfBytes g⟩ .ok
        (half t.qu.limits.quench ++ half t.qu.limits.drain ++ half t.qu.limits.hotCoke ++ half t.qu.limits.travel ++
          half t.qu.limits.dump ++ half t.qu.limits.bayHold))) ∧
  (∀ (s : State) (tag z : Byte) (es : List (Byte × Byte)), s.Free → tag ≠ 0 → es.length = 8 →
    (4 < z.toNat ∨ (∃ e ∈ es, (e.1 ≠ 1 ∧ e.1 ≠ 2) ∨ 2 < e.2.toNat) →
      ∃ t, exec (.setZones tag z es) s = .next t ∧ FrameOf (.setZones tag z es) [.sl] s t ∧
        Answered s t ⟨0x60, tag, z :: es.flatMap (fun e => [e.1, e.2])⟩ .badValue []) ∧
    (z.toNat ≤ 4 → (∀ e ∈ es, (e.1 = 1 ∨ e.1 = 2) ∧ e.2.toNat ≤ 2) →
      (s.pu.push ≠ none → ∃ t, exec (.setZones tag z es) s = .next t ∧ FrameOf (.setZones tag z es) [.sl] s t ∧
        Answered s t ⟨0x60, tag, z :: es.flatMap (fun e => [e.1, e.2])⟩ .busy []) ∧
      (s.pu.push = none → ∃ t, exec (.setZones tag z es) s = .next t ∧ FrameOf (.setZones tag z es) [.qu, .sl] s t ∧
        t.qu = { s.qu with zoneShift := z.toNat, zones := t.qu.zones } ∧
        t.qu.zones.map (fun e => (e.preferred.code, (e.alternate.map Car.code).getD 0)) =
          es.map (fun e => (e.1.toNat, e.2.toNat)) ∧
        Answered s t ⟨0x60, tag, z :: es.flatMap (fun e => [e.1, e.2])⟩ .ok (z :: es.flatMap (fun e => [e.1, e.2])))))

/-- CHARGE_BEGIN's checks, in R5's order: the first that fails gives the refusal, which changes no state. CHARGE_BEGIN taken:
the record of R6 to R8 with both permits cleared (R99), the valve to ASPIRATE, or to MANUAL where its manual flag is set, with
that mode's entry commands unless it stands in it already (R112, R113), every other oven kept, and the reply. -/
def Obligations.ChargeBeginChecksAndFillsTheRecord : Prop :=
  (∀ (s : State) (tag n : Byte), ShapeLaw s → s.Free → tag ≠ 0 →
    ∀ x : Status,
      x = (if s.bk.mode ≠ .run then .wrongMode
        else if ¬(1 ≤ n.toNat ∧ n.toNat ≤ s.ovenCount) then .badOven
        else if (s.oven n.toNat).phase ≠ .empty then .wrongPhase
        else if s.excluded n.toNat = true then .excluded
        else if (s.oven n.toNat).doorP.state ≠ .sealed ∨ (s.oven n.toNat).doorC.state ≠ .sealed then .doorsNotSealed
        else if ∃ y ∈ Node.all, y.id = 16 + (n.toNat - 1) / 8 ∧ (s.fl.entry y).liveness ≠ .live then .nodeSilent
        else .ok) →
      ∃ t, exec (.chargeBegin tag n) s = .next t ∧
        (x = .ok → ∃ fields, Replied t ⟨0x14, tag, [n]⟩ .ok fields) ∧
        (x ≠ .ok → FrameOf (.chargeBegin tag n) [.sl] s t ∧ Answered s t ⟨0x14, tag, [n]⟩ x [])) ∧
  (∀ (s : State) (tag n : Byte), ShapeLaw s → s.Free → tag ≠ 0 → s.bk.mode = .run → 1 ≤ n.toNat → n.toNat ≤ s.ovenCount →
    (s.oven n.toNat).phase = .empty → s.excluded n.toNat = false → (s.oven n.toNat).doorP.state = .sealed →
    (s.oven n.toNat).doorC.state = .sealed → s.live (servingNode n.toNat) = true →
    ∃ t, exec (.chargeBegin tag n) s = .next t ∧ FrameOf (.chargeBegin tag n) [.ovens, .fl, .sl] s t ∧
      OthersKept s t n.toNat ∧ t.fl.nodes = s.fl.nodes ∧
      t.oven n.toNat = { s.oven n.toNat with
        phase := .charging, progress := 0, chargedAt := s.bk.minutes
        activeSoak := if (s.oven n.toNat).stickerPending
          then min 256 ((s.oven n.toNat).planSoak + s.cc.limits.stickerSoak) else (s.oven n.toNat).planSoak
        stickerPending := false, planPending := false, late := false, chargeTimer := some s.cc.limits.chargeLimit
        doorP := { (s.oven n.toNat).doorP with permit := false }
        doorC := { (s.oven n.toNat).doorC with permit := false }
        valve := (turnTo n.toNat (if (s.oven n.toNat).valve.manualFlag then .manual else .aspirate) (s.oven n.toNat).valve).1 } ∧
      (t.oven n.toNat).valve.mode = (if (s.oven n.toNat).valve.manualFlag then .manual else .aspirate) ∧
      (s.FieldRoom 2 → Issued s t
        (turnTo n.toNat (if (s.oven n.toNat).valve.manualFlag then .manual else .aspirate) (s.oven n.toNat).valve).2) ∧
      (s.FieldRoom 2 → (s.oven n.toNat).valve.manualFlag = false → (s.oven n.toNat).valve.mode ≠ .aspirate →
        Issued s t [⟨servingNode n.toNat, .valve n.toNat 1023⟩, ⟨servingNode n.toNat, .aspiration n.toNat true⟩] ∧
        (t.oven n.toNat).valve.command = 1023 ∧ (t.oven n.toNat).valve.aspiration = true) ∧
      Replied t ⟨0x14, tag, [n]⟩ .ok
        (n :: byteOf ((t.oven n.toNat).activeSoak - 1) :: wordBytes s.bk.minutes))

/-- CHARGE_END: its three checks in order, and taken it makes the oven COKING with its timer stopped and charge-long cleared;
with no door off unexpectedly, no manual flag, a live node and a valid reading the valve enters AUTO and aspiration ends; in
every case it takes the mode its evaluation gives, with that mode's entry commands (R10, R111 to R113). A charge timer that
runs out on a CHARGING oven in RUN sets charge-long and raises CHARGE_LONG; the oven stays CHARGING and its valve as it is. On
another phase, in CONFIG, or with time left nothing but a run-out timer is cleared (R8, R9). -/
def Obligations.ChargeEndsAndChargeTimers : Prop :=
  (∀ (s : State) (tag n : Byte), ShapeLaw s → s.Free → tag ≠ 0 →
    (∀ x : Status,
      x = (if s.bk.mode ≠ .run then .wrongMode
        else if ¬(1 ≤ n.toNat ∧ n.toNat ≤ s.ovenCount) then .badOven
        else if (s.oven n.toNat).phase ≠ .charging then .wrongPhase
        else .ok) → x ≠ .ok →
      ∃ t, exec (.chargeEnd tag n) s = .next t ∧ FrameOf (.chargeEnd tag n) [.sl] s t ∧
        Answered s t ⟨0x15, tag, [n]⟩ x []) ∧
    (s.bk.mode = .run → 1 ≤ n.toNat → n.toNat ≤ s.ovenCount → (s.oven n.toNat).phase = .charging →
      ∃ t, exec (.chargeEnd tag n) s = .next t ∧ FrameOf (.chargeEnd tag n) [.ovens, .fl, .sl] s t ∧
        OthersKept s t n.toNat ∧ t.fl.nodes = s.fl.nodes ∧
        t.oven n.toNat = { s.oven n.toNat with
          phase := .coking, chargeTimer := none, chargeLong := false
          valve := (turnTo n.toNat (t.valveMode n.toNat) (s.oven n.toNat).valve).1 } ∧
        (t.oven n.toNat).valve.mode = t.valveMode n.toNat ∧
        (s.FieldRoom 2 → Issued s t (turnTo n.toNat (t.valveMode n.toNat) (s.oven n.toNat).valve).2) ∧
        (s.live (servingNode n.toNat) = true → (s.oven n.toNat).valve.lastPressure ≠ none →
          (s.oven n.toNat).valve.manualFlag = false →
          ((s.oven n.toNat).doorP.state ≠ .off ∨ (s.oven n.toNat).doorP.unexpected = false) →
          ((s.oven n.toNat).doorC.state ≠ .off ∨ (s.oven n.toNat).doorC.unexpected = false) →
          (t.oven n.toNat).valve.mode = .auto ∧
          ((s.oven n.toNat).valve.mode ≠ .auto → (t.oven n.toNat).valve.aspiration = false) ∧
          (t.oven n.toNat).valve.command = (s.oven n.toNat).valve.command) ∧
        Replied t ⟨0x15, tag, [n]⟩ .ok (n :: wordBytes (s.bk.minutes - (s.oven n.toNat).chargedAt)))) ∧
  (∀ (s : State) (n : Nat), s.pins.inReset = false → 1 ≤ n → n ≤ 96 →
    (s.bk.mode = .run → n ≤ s.ovenCount → (s.oven n).chargeTimer = some 0 →
      ((s.oven n).phase = .charging → s.NoticeRoom 1 → s.NoticesWait →
        ∃ t, exec (.chargeTimerExpiry n) s = .next t ∧ FrameOf (.chargeTimerExpiry n) [.ovens, .sl] s t ∧
          t.ovens = s.ovens.set (n - 1) { s.oven n with chargeTimer := none, chargeLong := true } ∧
          NoticesOnly s t [.chargeLong n]) ∧
      ((s.oven n).phase ≠ .charging →
        ∃ t, exec (.chargeTimerExpiry n) s = .next t ∧ FrameOf (.chargeTimerExpiry n) [.ovens] s t ∧
          t.ovens = s.ovens.set (n - 1) { s.oven n with chargeTimer := none })) ∧
    (s.bk.mode = .config ∨ s.ovenCount < n ∨ (s.oven n).chargeTimer ≠ some 0 →
      exec (.chargeTimerExpiry n) s = .next (s.passed (.chargeTimerExpiry n))))

/-- The coke-minute expiry (R16 to R21, R48): the minute count advances, every oven 1..N takes the step of its phase and the
lateness check, each on its own, with OVEN_READY and OVEN_LATE, in oven order (log 5); ovens above N are kept. R18's step is
the selected heat word plus the trim, or the word alone under inhibit, clamped to 0..65535. A valve is turned only where its
oven changes phase (R112). Candidate evaluation follows, which outside AUTO does nothing. An expiry that is not owed, or found
in CONFIG, passes: log 3 holds how many are owed. -/
def Obligations.CokeMinuteStepsEveryOven : Prop :=
  (∀ s : State, ShapeLaw s → s.pins.inReset = false → s.bk.mode = .run → 0 < s.cc.minutesDue →
    ∃ t, exec .cokeMinuteExpiry s = .next t ∧ ∃ u : State, t = u.evaluate ∧ (s.su.mode ≠ .auto → t = u) ∧
      FrameOf .cokeMinuteExpiry [.ovens, .cc, .bk, .fl, .sl] s u ∧
      u.cc = { s.cc with minutesDue := s.cc.minutesDue - 1 } ∧ u.bk = { s.bk with minutes := s.bk.minutes + 1 } ∧
      (∀ n < 97, 0 < n →
        (s.ovenCount < n → u.oven n = s.oven n) ∧
        (n ≤ s.ovenCount →
          ∀ h : Nat, h = (if s.cc.selectB then s.cc.heatB else s.cc.heatA) →
            ∀ r : Int, r = max 0 (min 65535 (if (s.oven n).trimInhibit then (h : Int) else (h : Int) + (s.oven n).trim)) →
            u.oven n = { s.oven n with
              phase := (u.oven n).phase, progress := (u.oven n).progress, soakRemaining := (u.oven n).soakRemaining
              late := (u.oven n).late
              valve := if (u.oven n).phase = (s.oven n).phase then (s.oven n).valve
                else (turnTo n (u.valveMode n) (s.oven n).valve).1 } ∧
            ((s.oven n).phase = .coking →
              (16777216 ≤ (s.oven n).progress + r.toNat →
                (u.oven n).phase = .soaking ∧ (u.oven n).progress = 16777216 ∧
                (u.oven n).soakRemaining = (s.oven n).activeSoak) ∧
              ((s.oven n).progress + r.toNat < 16777216 →
                (u.oven n).phase = .coking ∧ (u.oven n).progress = (s.oven n).progress + r.toNat ∧
                (u.oven n).soakRemaining = (s.oven n).soakRemaining)) ∧
            ((s.oven n).phase = .soaking →
              (u.oven n).progress = (s.oven n).progress ∧
              (u.oven n).soakRemaining = (s.oven n).soakRemaining - 1 ∧
              (u.oven n).phase = (if (s.oven n).soakRemaining - 1 = 0 then .ready else .soaking)) ∧
            ((s.oven n).phase ≠ .coking → (s.oven n).phase ≠ .soaking →
              (u.oven n).phase = (s.oven n).phase ∧ (u.oven n).progress = (s.oven n).progress ∧
              (u.oven n).soakRemaining = (s.oven n).soakRemaining) ∧
            ((u.oven n).late = true ↔ (s.oven n).late = true ∨
              (((u.oven n).phase = .soaking ∨ (u.oven n).phase = .ready) ∧
                s.cc.limits.lateLimit ≤ (s.bk.minutes + 1 - (s.oven n).chargedAt).toNat)))) ∧
      (∀ ovens : List Nat, ovens = (List.range s.ovenCount).map (· + 1) →
        ∀ cs : List Outgoing, cs = ovens.flatMap (fun n => if (u.oven n).phase = (s.oven n).phase then []
          else (turnTo n (u.valveMode n) (s.oven n).valve).2) →
        ∀ bs : List NoticeBody, bs = ovens.flatMap (fun n =>
          (if (s.oven n).phase = .soaking ∧ (u.oven n).phase = .ready
            then [.ovenReady n (s.bk.minutes + 1 - (s.oven n).chargedAt)] else []) ++
          (if (s.oven n).late = false ∧ (u.oven n).late = true
            then [.ovenLate n (s.bk.minutes + 1 - (s.oven n).chargedAt)] else [])) →
        s.FieldRoom cs.length → s.NoticeRoom bs.length → s.NoticesWait → Issued s u cs ∧ NoticesOnly s u bs)) ∧
  (∀ s : State, s.pins.inReset = false → s.bk.mode = .config ∨ s.cc.minutesDue = 0 →
    exec .cokeMinuteExpiry s = .next (s.passed .cokeMinuteExpiry))

/-! ### The schedule unit -/

/-- SET_SERIES and SET_PACER (R30, R31, R33): SET_SERIES' checks in order; taken, the series is stored and the cursor stands
on the start oven, with lists, pacer and slot flag kept. SET_PACER writes Q alone. SET_SCHEDULE_MODE (R33, R35): its checks in
order, and taken it writes the mode, clearing the pacer exactly when AUTO is left. -/
def Obligations.SeriesPacerAndModeAreSet : Prop :=
  (∀ (s : State) (tag k j start : Byte) (q : Half), s.Free → tag ≠ 0 →
    (∀ x : Status,
      x = (if s.bk.mode = .run ∧ s.su.mode = .auto then .wrongMode
        else if ¬(1 ≤ start.toNat ∧ start.toNat ≤ s.ovenCount) then .badOven
        else if ¬(2 ≤ k.toNat ∧ k.toNat ≤ 10 ∧ 1 ≤ j.toNat ∧ j.toNat ≤ k.toNat - 1) then .badSeries
        else if ¬(Nat.gcd j.toNat k.toNat = 1 ∧ k.toNat ≤ s.ovenCount) then .badSeries
        else .ok) →
      (x ≠ .ok → ∃ t, exec (.setSeries tag k j start) s = .next t ∧ FrameOf (.setSeries tag k j start) [.sl] s t ∧
        Answered s t ⟨0x20, tag, [k, j, start]⟩ x []) ∧
      (x = .ok → ∃ t, exec (.setSeries tag k j start) s = .next t ∧ FrameOf (.setSeries tag k j start) [.su, .sl] s t ∧
        t.su = { s.su with step := k.toNat, offset := j.toNat, startOven := start.toNat, cursor := t.su.cursor } ∧
        t.su.cursor < s.ovenCount ∧ t.ovenAt t.su.cursor = start.toNat ∧
        Answered s t ⟨0x20, tag, [k, j, start]⟩ .ok [k, j, start, byteOf t.su.cursor])) ∧
    (∃ t, exec (.setPacer tag q) s = .next t ∧ FrameOf (.setPacer tag q) [.su, .sl] s t ∧
      t.su = { s.su with increment := q.toNat } ∧
      Answered s t ⟨0x21, tag, halfBytes q⟩ .ok (half q.toNat ++ half s.su.accumulator))) ∧
  (∀ (s : State) (tag code : Byte), ShapeLaw s → s.Free → tag ≠ 0 →
    (2 < code.toNat → ∃ t, exec (.setScheduleMode tag code) s = .next t ∧
      FrameOf (.setScheduleMode tag code) [.sl] s t ∧ Answered s t ⟨0x22, tag, [code]⟩ .badValue []) ∧
    (∀ m : ScheduleMode, m.code = code.toNat → ∀ x : Status,
      x = (if s.bk.mode ≠ .run then .wrongMode
        else if (m = .auto ∨ (s.su.mode = .paused ∧ m ≠ .paused)) ∧ (s.pins.estop = true ∨ s.pu.stall ≠ none) then .busy
        else if m = .auto ∧ ∃ y ∈ Node.all, (y.id = 1 ∨ y.id = 2 ∨ (16 ≤ y.id ∧ y.id ≤ 15 + (s.ovenCount + 7) / 8)) ∧
          (s.fl.entry y).liveness ≠ .live then .nodeSilent
        else .ok) →
      (x ≠ .ok → ∃ t, exec (.setScheduleMode tag code) s = .next t ∧ FrameOf (.setScheduleMode tag code) [.sl] s t ∧
        Answered s t ⟨0x22, tag, [code]⟩ x []) ∧
      (x = .ok → ∃ t, exec (.setScheduleMode tag code) s = .next t ∧ FrameOf (.setScheduleMode tag code) [.su, .sl] s t ∧
        t.su = (if s.su.mode = .auto ∧ m ≠ .auto then { s.su with mode := m, accumulator := 0, carriesDue := 0, slotFlag := false }
          else { s.su with mode := m }) ∧
        Answered s t ⟨0x22, tag, [code]⟩ .ok [code])))

/-- A valid series visits every oven 1..N exactly once (R29), and the series of R29's example is the order its table gives. -/
def Obligations.ValidSeriesVisitsEveryOvenOnce : Prop :=
  (∀ n k j : Nat, 2 ≤ k → (seriesValid n k j = true ↔ Nat.gcd j k = 1 ∧ k ≤ n)) ∧
  (∀ n k j : Nat, 2 ≤ k → seriesValid n k j = true →
    (permutation n k j).Perm ((List.range n).map (· + 1))) ∧
  permutation 10 5 2 = [1, 6, 3, 8, 5, 10, 2, 7, 4, 9] ∧ positionOf 10 5 2 8 = 3

/-- QUEUE_OUT_OF_TURN (R43): its checks in order; taken, the oven joins the tail of the queue and leaves the deferred list. -/
def Obligations.QueueOutOfTurnAppends : Prop :=
  ∀ (s : State) (tag n : Byte), s.Free → tag ≠ 0 →
    ∀ x : Status,
      x = (if s.bk.mode ≠ .run then .wrongMode
        else if ¬(1 ≤ n.toNat ∧ n.toNat ≤ s.ovenCount) then .badOven
        else if s.excluded n.toNat = true then .excluded
        else if (s.oven n.toNat).phase ≠ .coking ∧ (s.oven n.toNat).phase ≠ .soaking ∧
          (s.oven n.toNat).phase ≠ .ready then .wrongPhase
        else if n.toNat ∈ s.su.outOfTurn then .duplicate
        else if 4 ≤ s.su.outOfTurn.length then .full
        else .ok) →
      (x ≠ .ok → ∃ t, exec (.queueOutOfTurn tag n) s = .next t ∧ FrameOf (.queueOutOfTurn tag n) [.sl] s t ∧
        Answered s t ⟨0x23, tag, [n]⟩ x []) ∧
      (x = .ok → ∃ t, exec (.queueOutOfTurn tag n) s = .next t ∧ FrameOf (.queueOutOfTurn tag n) [.su, .sl] s t ∧
        t.su = { s.su with
          outOfTurn := s.su.outOfTurn ++ [n.toNat], deferred := s.su.deferred.erase n.toNat } ∧
        Answered s t ⟨0x23, tag, [n]⟩ .ok
          [byteOf (s.su.outOfTurn.length + 1), if n.toNat ∈ s.su.deferred then 1 else 0])

/-- WITHDRAW (R45), in either mode: BAD_OVEN outside 1..N; an oven in a list leaves it, the others keeping their order, and
the reply names the list; in neither list it is NOT_FOUND, as in CONFIG, where the lists are empty. -/
def Obligations.WithdrawRemovesFromItsList : Prop :=
  ∀ (s : State) (tag n : Byte), s.Free → tag ≠ 0 →
    (¬(1 ≤ n.toNat ∧ n.toNat ≤ s.ovenCount) →
      ∃ t, exec (.withdraw tag n) s = .next t ∧ FrameOf (.withdraw tag n) [.sl] s t ∧
        Answered s t ⟨0x24, tag, [n]⟩ .badOven []) ∧
    (1 ≤ n.toNat → n.toNat ≤ s.ovenCount →
      (n.toNat ∈ s.su.outOfTurn →
        ∃ t, exec (.withdraw tag n) s = .next t ∧ FrameOf (.withdraw tag n) [.su, .sl] s t ∧
          t.su = { s.su with outOfTurn := s.su.outOfTurn.erase n.toNat } ∧ Answered s t ⟨0x24, tag, [n]⟩ .ok [1]) ∧
      (n.toNat ∉ s.su.outOfTurn → n.toNat ∈ s.su.deferred →
        ∃ t, exec (.withdraw tag n) s = .next t ∧ FrameOf (.withdraw tag n) [.su, .sl] s t ∧
          t.su = { s.su with deferred := s.su.deferred.erase n.toNat } ∧ Answered s t ⟨0x24, tag, [n]⟩ .ok [2]) ∧
      (n.toNat ∉ s.su.outOfTurn → n.toNat ∉ s.su.deferred →
        ∃ t, exec (.withdraw tag n) s = .next t ∧ FrameOf (.withdraw tag n) [.sl] s t ∧
          Answered s t ⟨0x24, tag, [n]⟩ .notFound []) ∧
      (ListLaw s → s.bk.mode = .config →
        ∃ t, exec (.withdraw tag n) s = .next t ∧ Answered s t ⟨0x24, tag, [n]⟩ .notFound []))

/-- When an oven is excluded (R38): within 1..N, within the frame's reach, and its bit set, bit i covering the ovens S + i × g
to S + i × g + g − 1. SET_BATTERY clears all 64 bits and sets the frame to encoding 0 and S = 1. -/
def Obligations.ExclusionReadsTheVector : Prop :=
  (∀ (s : State) (n : Nat), s.excluded n = true ↔
    (1 ≤ n ∧ n ≤ s.ovenCount) ∧
      s.su.exclusionStart ≤ n ∧ n < s.su.exclusionStart + 64 * 2 ^ s.su.granularity ∧
      ∃ i < 64, s.su.exclusion.getLsbD i = true ∧
        s.su.exclusionStart + i * 2 ^ s.su.granularity ≤ n ∧
        n ≤ s.su.exclusionStart + i * 2 ^ s.su.granularity + 2 ^ s.su.granularity - 1) ∧
  (∀ (s : State) (tag b : Byte), s.Free → tag ≠ 0 → s.bk.mode = .config →
    ∃ t, exec (.setBattery tag b) s = .next t ∧ t.su.exclusion = 0 ∧ t.su.granularity = 0 ∧ t.su.exclusionStart = 1)

/-- The exclusion edits (R39 to R41): their checks in order; taken, the frame is set with S lowered to a multiple of g, or the
word replaces bits 16w to 16w + 15 and no other; then every oven now excluded leaves both lists, the rest keep their order,
and the reply counts the entries removed. -/
def Obligations.ExclusionEditsTrimTheLists : Prop :=
  ∀ (s : State) (tag g start i : Byte) (w : Half), s.Free → tag ≠ 0 →
    (∀ x : Status,
      x = (if 3 < g.toNat then .badValue
        else if ¬(1 ≤ start.toNat ∧ start.toNat ≤ s.ovenCount) then .badOven
        else if s.pu.push ≠ none ∨ s.pu.stall ≠ none then .busy
        else .ok) →
      (x ≠ .ok → ∃ t, exec (.setExclusionFrame tag g start) s = .next t ∧
        FrameOf (.setExclusionFrame tag g start) [.sl] s t ∧ Answered s t ⟨0x25, tag, [g, start]⟩ x []) ∧
      (x = .ok → ∃ t, exec (.setExclusionFrame tag g start) s = .next t ∧
        FrameOf (.setExclusionFrame tag g start) [.su, .sl] s t ∧
        t.su = { s.su with
          granularity := g.toNat, exclusionStart := start.toNat - (start.toNat - 1) % 2 ^ g.toNat
          outOfTurn := s.su.outOfTurn.filter (fun n => !t.excluded n)
          deferred := s.su.deferred.filter (fun n => !t.excluded n) } ∧
        Answered s t ⟨0x25, tag, [g, start]⟩ .ok
          [g, byteOf t.su.exclusionStart,
           byteOf (s.su.outOfTurn.length + s.su.deferred.length - (t.su.outOfTurn.length + t.su.deferred.length))])) ∧
    (∀ x : Status,
      x = (if 3 < i.toNat then .badValue
        else if s.pu.push ≠ none ∨ s.pu.stall ≠ none then .busy
        else .ok) →
      (x ≠ .ok → ∃ t, exec (.writeExclusionWord tag i w) s = .next t ∧
        FrameOf (.writeExclusionWord tag i w) [.sl] s t ∧ Answered s t ⟨0x26, tag, i :: halfBytes w⟩ x []) ∧
      (x = .ok → ∃ t, exec (.writeExclusionWord tag i w) s = .next t ∧
        FrameOf (.writeExclusionWord tag i w) [.su, .sl] s t ∧
        t.su = { s.su with
          exclusion := t.su.exclusion
          outOfTurn := s.su.outOfTurn.filter (fun n => !t.excluded n)
          deferred := s.su.deferred.filter (fun n => !t.excluded n) } ∧
        (∀ b < 64, t.su.exclusion.getLsbD b =
          if 16 * i.toNat ≤ b ∧ b ≤ 16 * i.toNat + 15 then w.getLsbD (b - 16 * i.toNat)
          else s.su.exclusion.getLsbD b) ∧
        Answered s t ⟨0x26, tag, i :: halfBytes w⟩ .ok
          (i :: (halfBytes w ++
            [byteOf (s.su.outOfTurn.length + s.su.deferred.length -
              (t.su.outOfTurn.length + t.su.deferred.length))]))))

/-- A slot carry (R32, R52). One that is owed in RUN and AUTO and finds the flag set raises SLOT_OVERRUN; one that finds it
clear sets it and candidate evaluation runs. One that is not owed, or found outside AUTO or RUN, passes: log 3 holds how many
are owed. Candidate evaluation (R47 to R51). With a condition of R48 unmet it changes nothing. A candidate is an oven 1..N
that is READY with every neighbour within 1..N braced: the out-of-turn head, else the first such deferred entry, else the
series. The series passes over excluded ovens; the cursor oven is then a candidate, or the cursor advances over it (EMPTY,
CHARGING, listed already, or deferred now), or, with the deferred list full, stays. A candidate with no car changes nothing
more, the excluded skips standing. The evaluation events of R48 that end a push or park a car, with a slot pending: the event
acts as it does with none, and then State.evaluate runs once (log 13). So at a push's end (a stage confirmation, the stage
timer, ESTOP# at PU, a car's fault, ABORT_PUSH), at a dump's end and at CAR_SERVICE IN; a request's reply is formed after the
evaluation, with the car as it then stands for CAR_SERVICE IN (log 20). A machine's silence is no such event: it pauses AUTO
at SU (R52; log 39). A push start (R51, R55, R59, R144), of whichever origin: the record with the next number at SPOT, the
oven PUSHING and no longer late, off both lists, the cursor advanced for SERIES alone and the slot flag cleared for every
origin but MANUAL, the car TO_SPOT under way to the oven, TRAVEL to both machines, PUSH_STARTED. Said of a valve in the mode
its evaluation gives, which a push at SPOT keeps. -/
def Obligations.SlotCarryTakesACandidate : Prop :=
  (∀ s : State, s.pins.inReset = false →
    (s.bk.mode = .run → s.su.mode = .auto → 0 < s.su.carriesDue →
      (s.su.slotFlag = true → s.NoticeRoom 1 → s.NoticesWait →
        ∃ t, exec .slotCarry s = .next t ∧ FrameOf .slotCarry [.su, .sl] s t ∧
          t.su = { s.su with carriesDue := s.su.carriesDue - 1 } ∧ NoticesOnly s t [.slotOverrun]) ∧
      (s.su.slotFlag = false →
        ∃ t, exec .slotCarry s = .next t ∧ ∀ u : State,
          u = (s.passed .slotCarry).withSu { s.su with carriesDue := s.su.carriesDue - 1, slotFlag := true } → t = u.evaluate)) ∧
    (s.bk.mode = .config ∨ s.su.mode ≠ .auto ∨ s.su.carriesDue = 0 →
      exec .slotCarry s = .next (s.passed .slotCarry))) ∧
  (∀ s : State, ShapeLaw s →
    (s.bk.mode = .config ∨ s.su.mode ≠ .auto ∨ s.su.slotFlag = false ∨ s.pu.push ≠ none ∨ s.pu.stall ≠ none ∨
      s.pins.estop = true → s.evaluate = s) ∧
    (∀ n, s.pushable n = true ↔ (1 ≤ n ∧ n ≤ s.ovenCount) ∧ (s.oven n).phase = .ready ∧
      ∀ m, (m + 1 = n ∨ m = n + 1) → 1 ≤ m ∧ m ≤ s.ovenCount → (s.oven m).Holds ∨ s.excluded m = true) ∧
    (s.bk.mode = .run → s.su.mode = .auto → s.su.slotFlag = true → s.pu.push = none → s.pu.stall = none →
      s.pins.estop = false →
      (∀ n, s.su.outOfTurn.head? = some n → s.pushable n = true →
        s.evaluate = (match s.offerCar n with | some c => s.startPush n .outOfTurn c | none => s)) ∧
      ((∀ n, s.su.outOfTurn.head? = some n → s.pushable n = false) →
        (∀ n, s.su.deferred.find? s.pushable = some n →
          s.evaluate = (match s.offerCar n with | some c => s.startPush n .deferred c | none => s)) ∧
        (s.su.deferred.find? s.pushable = none →
          (s.su.cursor < s.ovenCount →
            (∀ i < s.ovenCount, s.excluded (s.ovenAt ((s.nextPosition)^[i] s.su.cursor)) = true) → s.evaluate = s) ∧
          (∀ j < s.ovenCount, (∀ i < j, s.excluded (s.ovenAt ((s.nextPosition)^[i] s.su.cursor)) = true) →
            ∀ p, p = (s.nextPosition)^[j] s.su.cursor → ∀ n, n = s.ovenAt p → s.inRange n = true → s.excluded n = false →
            ∀ u : State, u = s.withSu { s.su with cursor := p } →
            (s.pushable n = true →
              s.evaluate = (match s.offerCar n with | some c => u.startPush n .series c | none => u)) ∧
            ((s.oven n).phase = .empty ∨ (s.oven n).phase = .charging →
              s.evaluate = s.withSu { s.su with cursor := s.nextPosition p }) ∧
            ((s.oven n).Holds → s.pushable n = false →
              (n ∈ s.su.outOfTurn ∨ n ∈ s.su.deferred →
                s.evaluate = s.withSu { s.su with cursor := s.nextPosition p }) ∧
              (n ∉ s.su.outOfTurn → n ∉ s.su.deferred → s.su.deferred.length < 8 →
                s.evaluate = s.withSu { s.su with cursor := s.nextPosition p, deferred := s.su.deferred ++ [n] }) ∧
              (n ∉ s.su.outOfTurn → n ∉ s.su.deferred → 8 ≤ s.su.deferred.length → s.evaluate = u))))))) ∧
  (∀ (s t : State), ∀ u : State, u = State.evaluate (t.withSu { t.su with slotFlag := s.su.slotFlag }) →
    (∀ c : Instr, s.pins.inReset = false →
      ((∃ m es, c = .stageConfirmation m es) ∨ c = .stageTimerExpiry ∨ c = .estopAtPu ∨ (∃ k x, c = .carReport k x) ∨
        (∃ k, c = .travelTimerExpiry k ∨ c = .dumpTimerExpiry k ∨ c = .carNodeSilence k)) →
      exec c (s.withSu { s.su with slotFlag := false }) = .next t →
      (s.pu.push ≠ none ∧ t.pu.push = none ∧ t.pu.stall = none) ∨
        (∃ k, (s.car k).state = .dumping ∧ (t.car k).state = .parked) →
      exec c s = .next u) ∧
    (∀ (tag : Byte) (k : Half), s.Free → tag ≠ 0 → s.NoticeRoom 4 →
      exec (.abortPush tag k) (s.withSu { s.su with slotFlag := false }) = .next t →
      s.pu.push ≠ none ∧ t.pu.push = none ∧ t.pu.stall = none →
      ∃ v, exec (.abortPush tag k) s = .next v ∧ Keeps [.sl] u v ∧
        v.sl = { u.sl with replySlot := v.sl.replySlot } ∧
        ∀ x fields, Replied t ⟨0x31, tag, halfBytes k⟩ x fields → Replied v ⟨0x31, tag, halfBytes k⟩ x fields) ∧
    (∀ (tag : Byte) (c : Car), s.Free → tag ≠ 0 → s.NoticeRoom 3 →
      exec (.carServiceIn tag (byteOf c.code)) (s.withSu { s.su with slotFlag := false }) = .next t →
      (s.car c).state = .outOfService ∧ (t.car c).state = .parked →
      ∃ v, exec (.carServiceIn tag (byteOf c.code)) s = .next v ∧ Keeps [.sl] u v ∧
        v.sl = { u.sl with replySlot := v.sl.replySlot } ∧
        Replied v ⟨0x62, tag, [byteOf c.code, 1]⟩ .ok
          [byteOf c.code, byteOf (v.car c).state.code, byteOf (v.car c).position.code])) ∧
  (∀ (s : State) (n : Nat) (o : Origin) (c : Car), ShapeLaw s → 1 ≤ n → n ≤ s.ovenCount → (s.oven n).phase = .ready →
    s.pu.push = none → s.pins.estop = false → (s.oven n).valve.mode = s.valveMode n → s.FieldRoom 3 → s.NoticeRoom 1 →
    ∀ t : State, t = s.startPush n o c →
      Keeps [.ovens, .su, .pu, .qu, .fl, .sl] s t ∧
      t.pu = { s.pu with
        counter := s.pu.counter + 1
        push := some {
          number := s.pu.counter + 1, oven := n, origin := o, car := c, claimed := true, stage := .spot,
          entered := s.bk.seconds, timer := s.pu.limits.spot, latchSent := false, forwardSeen := false, peakForce := 0,
          emptyCar := false, doorFault := false, abortCause := none } } ∧
      t.ovens = s.ovens.set (n - 1) { s.oven n with phase := .pushing, late := false } ∧
      t.su = { s.su with
        outOfTurn := s.su.outOfTurn.erase n, deferred := s.su.deferred.erase n
        cursor := if o = .series then (if s.su.cursor + 1 < s.ovenCount then s.su.cursor + 1 else 0) else s.su.cursor
        slotFlag := if o = .manual then s.su.slotFlag else false } ∧
      t.qu = s.qu.setCar c { s.car c with
        state := .toSpot, target := some (.oven n), travelTimer := some s.qu.limits.travel } ∧
      Issued s t [⟨.car c, .move (.oven n)⟩, ⟨.pusher, .travel n⟩, ⟨.guide, .travel n⟩] ∧
      (s.NoticesWait → NoticesOnly s t [.pushStarted (s.pu.counter + 1) n o c]))

/-- Silence of the pusher, the guide or an oven node in use pauses the schedule from AUTO only, and ESTOP# assertion from
MANUAL or AUTO, each in RUN with its SCHEDULE_PAUSED notice; a schedule already PAUSED is left as it is (R33, R36). -/
def Obligations.ScheduleIsPausedBySilenceAndEstop : Prop :=
  ∀ (s : State), s.pins.inReset = false → s.NoticeRoom 1 → s.NoticesWait →
    (∀ x : Node, (x = .pusher ∨ x = .guide ∨ ∃ m, x = .oven m) →
      (s.bk.mode = .run → s.su.mode = .auto → (s.fl.entry x).inUse = true →
        ∃ t, exec (.silenceAtSu x) s = .next t ∧ FrameOf (.silenceAtSu x) [.su, .sl] s t ∧
          t.su = { s.su with mode := .paused, accumulator := 0, carriesDue := 0, slotFlag := false } ∧
          NoticesOnly s t [.schedulePaused 3 x.id]) ∧
      (s.bk.mode = .config ∨ s.su.mode ≠ .auto ∨ (s.fl.entry x).inUse = false →
        exec (.silenceAtSu x) s = .next (s.passed (.silenceAtSu x)))) ∧
    (s.bk.mode = .run → s.su.mode ≠ .paused →
      ∃ t, exec .estopAtSu s = .next t ∧ FrameOf .estopAtSu [.su, .sl] s t ∧
        t.su = (if s.su.mode = .auto then { s.su with mode := .paused, accumulator := 0, carriesDue := 0, slotFlag := false }
          else { s.su with mode := .paused }) ∧
        NoticesOnly s t [.schedulePaused 1 0]) ∧
    (s.bk.mode = .config ∨ s.su.mode = .paused → exec .estopAtSu s = .next (s.passed .estopAtSu))

/-! ### The push unit -/

/-- PUSH_NOW's checks in R58's order, with the extra byte of WRONG_PHASE and NODE_SILENT; a refused one changes no state. The
car QU offers for oven n (R142): n's zone is the smaller of 7 and n - 1 shifted right by the zone shift; its preferred car if
that is PARKED, else its alternate if the zone has one and it is PARKED, else none. Where the car stands does not enter.
PUSH_NOW taken starts the push of R59: the record with the next number at SPOT, the oven PUSHING and no longer late, off both
lists, the car TO_SPOT under way to it, TRAVEL to both machines, PUSH_STARTED; every other oven and the other car are kept.
Said of a valve in the mode its evaluation gives, which a push at SPOT keeps. -/
def Obligations.PushNowChecksAndStarts : Prop :=
  (∀ (s : State) (tag n : Byte), ShapeLaw s → s.Free → tag ≠ 0 →
    ∀ x : Status × List Byte,
      x = (if ¬(s.bk.mode = .run ∧ s.su.mode = .manual) then (.wrongMode, [])
        else if ¬(1 ≤ n.toNat ∧ n.toNat ≤ s.ovenCount) then (.badOven, [])
        else if s.pu.push ≠ none ∨ s.pu.stall ≠ none then (.busy, [])
        else if s.pins.estop = true then (.busy, [])
        else if (s.oven n.toNat).phase ≠ .ready then (.wrongPhase, [0])
        else if s.inRange (n.toNat - 1) = true ∧ s.braces (n.toNat - 1) = false then
          (.wrongPhase, [byteOf (n.toNat - 1)])
        else if s.inRange (n.toNat + 1) = true ∧ s.braces (n.toNat + 1) = false then
          (.wrongPhase, [byteOf (n.toNat + 1)])
        else if s.live .pusher = false then (.nodeSilent, [1])
        else if s.live .guide = false then (.nodeSilent, [2])
        else if s.live (servingNode n.toNat) = false then (.nodeSilent, [byteOf (16 + (n.toNat - 1) / 8)])
        else if s.offerCar n.toNat = none then (.noCar, [])
        else (.ok, [])) →
      x.1 ≠ .ok →
      ∃ t, exec (.pushNow tag n) s = .next t ∧ FrameOf (.pushNow tag n) [.sl] s t ∧
        Answered s t ⟨0x30, tag, [n]⟩ x.1 x.2) ∧
  (∀ (s : State) (n : Nat), ShapeLaw s → 1 ≤ n → n ≤ s.ovenCount →
    ∀ z : Zone, s.qu.zones[min 7 ((n - 1) >>> s.qu.zoneShift)]? = some z →
      s.offerCar n =
        (if (s.car z.preferred).state = .parked then some z.preferred
          else match z.alternate with
            | some a => if (s.car a).state = .parked then some a else none
            | none => none)) ∧
  (∀ (s : State) (tag n : Byte) (c : Car), ShapeLaw s → s.Free → tag ≠ 0 → s.bk.mode = .run → s.su.mode = .manual →
    1 ≤ n.toNat → n.toNat ≤ s.ovenCount → s.pu.push = none → s.pu.stall = none → s.pins.estop = false →
    (s.oven n.toNat).phase = .ready → s.braced n.toNat = true → s.live .pusher = true → s.live .guide = true →
    s.live (servingNode n.toNat) = true → s.offerCar n.toNat = some c → s.FieldRoom 3 → s.NoticeRoom 1 →
    (s.oven n.toNat).valve.mode = s.valveMode n.toNat →
    ∃ t, exec (.pushNow tag n) s = .next t ∧ FrameOf (.pushNow tag n) [.ovens, .su, .pu, .qu, .fl, .sl] s t ∧
      t.pu = { s.pu with
        counter := s.pu.counter + 1
        push := some {
          number := s.pu.counter + 1, oven := n.toNat, origin := .manual, car := c, claimed := true, stage := .spot,
          entered := s.bk.seconds, timer := s.pu.limits.spot, latchSent := false, forwardSeen := false, peakForce := 0,
          emptyCar := false, doorFault := false, abortCause := none } } ∧
      t.ovens = s.ovens.set (n.toNat - 1) { s.oven n.toNat with phase := .pushing, late := false } ∧
      t.su = { s.su with
        outOfTurn := s.su.outOfTurn.erase n.toNat, deferred := s.su.deferred.erase n.toNat } ∧
      t.qu = s.qu.setCar c { s.car c with
        state := .toSpot, target := some (.oven n.toNat), travelTimer := some s.qu.limits.travel } ∧
      Issued s t [⟨.car c, .move (.oven n.toNat)⟩, ⟨.pusher, .travel n.toNat⟩, ⟨.guide, .travel n.toNat⟩] ∧
      Noticed s t [.pushStarted (s.pu.counter + 1) n.toNat .manual c] ∧
      Replied t ⟨0x30, tag, [n]⟩ .ok (halfBytes (s.pu.counter + 1) ++ [n, byteOf c.code]))

/-- ABORT_PUSH (R80): its checks in order; taken, the push ends or goes on as its stage requires (R71, R72, R74, R75): SPOT
and ISOLATE send HALT and CAP close and release the claimed car, RAM sends RAM_HALT and HALT, DOORS_ON HALT and CAP close; the
valve takes its evaluated mode with its entry commands after them, the order of different blocks' commands being the model's
(log 5), and the reply gives the stage and the outcome. A travel timer standing at 0, its expiry not yet taken, counts as
running and HALT is sent (logs 3, 25). Said with no slot pending, so that no new push follows at once. -/
def Obligations.AbortPushActsByStage : Prop :=
  ∀ (s : State) (tag : Byte) (k : Half), ShapeLaw s → PushLaw s → s.Free → tag ≠ 0 →
    (s.pu.stall ≠ none → ∃ t, exec (.abortPush tag k) s = .next t ∧ FrameOf (.abortPush tag k) [.sl] s t ∧
      Answered s t ⟨0x31, tag, halfBytes k⟩ .wrongPhase []) ∧
    (s.pu.stall = none → (∀ r, s.pu.push = some r → r.number ≠ k) →
      ∃ t, exec (.abortPush tag k) s = .next t ∧ FrameOf (.abortPush tag k) [.sl] s t ∧
        Answered s t ⟨0x31, tag, halfBytes k⟩ .notFound []) ∧
    (∀ r, s.pu.push = some r → s.pu.stall = none → r.number = k →
      (r.stage = .retreat → ∃ t, exec (.abortPush tag k) s = .next t ∧ FrameOf (.abortPush tag k) [.sl] s t ∧
        Answered s t ⟨0x31, tag, halfBytes k⟩ .wrongPhase []) ∧
      (r.stage = .spot ∨ r.stage = .isolate → s.su.slotFlag = false → s.FieldRoom 6 → s.NoticeRoom 1 →
        ∃ t, exec (.abortPush tag k) s = .next t ∧
          FrameOf (.abortPush tag k) [.ovens, .pu, .qu, .fl, .sl] s t ∧ t.pu = { s.pu with push := none } ∧
          OthersKept s t r.oven ∧
          t.oven r.oven = { s.oven r.oven with
            phase := .ready, valve := (turnTo r.oven (t.valveMode r.oven) (s.oven r.oven).valve).1 } ∧
          Noticed s t [.pushAborted k r.oven r.stage .host] ∧
          (r.claimed = false → t.qu = s.qu ∧ Issued s t ([⟨.pusher, .halt⟩, ⟨.guide, .halt⟩,
            ⟨servingNode r.oven, .cap r.oven false⟩] ++ (turnTo r.oven (t.valveMode r.oven) (s.oven r.oven).valve).2)) ∧
          (r.claimed = true →
            t.qu = s.qu.setCar r.car { s.car r.car with
              state := if (s.car r.car).state = .toSpot ∨ (s.car r.car).state = .spotted then .parked else (s.car r.car).state
              target := none
              travelTimer := if (s.car r.car).target = none then (s.car r.car).travelTimer else none } ∧
            Issued s t ([⟨.pusher, .halt⟩, ⟨.guide, .halt⟩, ⟨servingNode r.oven, .cap r.oven false⟩] ++
              (if (s.car r.car).target ≠ none ∧ (s.car r.car).travelTimer ≠ none then [⟨.car r.car, .halt⟩] else []) ++
              (turnTo r.oven (t.valveMode r.oven) (s.oven r.oven).valve).2)) ∧
          Replied t ⟨0x31, tag, halfBytes k⟩ .ok [byteOf r.stage.code, 1]) ∧
      (r.stage = .doorsOff → s.FieldRoom 2 →
        ∃ t, exec (.abortPush tag k) s = .next t ∧ FrameOf (.abortPush tag k) [.pu, .fl, .sl] s t ∧
          t.pu = { s.pu with push := some { r with
            abortCause := some .host, stage := .retreat, entered := s.bk.seconds, timer := s.pu.limits.doorsOn } } ∧
          Issued s t [⟨.pusher, .replace⟩, ⟨.guide, .replace⟩] ∧
          Answered s t ⟨0x31, tag, halfBytes k⟩ .ok [3, 2]) ∧
      (r.stage = .ram → s.FieldRoom 4 → s.NoticeRoom 2 →
        ∃ t, exec (.abortPush tag k) s = .next t ∧ FrameOf (.abortPush tag k) [.ovens, .su, .pu, .fl, .sl] s t ∧
          t.pu = { s.pu with
            push := none
            stall := some {
              oven := r.oven, number := k, origin := r.origin, car := r.car, claimed := r.claimed, stage := .ram,
              cause := .host, firstCause := none, peakForce := r.peakForce, second := s.bk.seconds } } ∧
          OthersKept s t r.oven ∧
          t.oven r.oven = { s.oven r.oven with
            phase := .stalled, valve := (turnTo r.oven .closed (s.oven r.oven).valve).1 } ∧
          Issued s t ([⟨.pusher, .ramHalt⟩, ⟨.guide, .halt⟩] ++ (turnTo r.oven .closed (s.oven r.oven).valve).2) ∧
          t.su = (if s.su.mode = .auto then
            { s.su with mode := .paused, accumulator := 0, carriesDue := 0, slotFlag := false }
            else { s.su with mode := .paused }) ∧
          Noticed s t (.stalled k r.oven .ram .host none ::
            (if s.su.mode = .paused then [] else [.schedulePaused 2 0])) ∧
          Replied t ⟨0x31, tag, halfBytes k⟩ .ok [4, 3]) ∧
      (r.stage = .doorsOn → s.su.slotFlag = false → s.FieldRoom 5 → s.NoticeRoom 1 →
        ∃ t, exec (.abortPush tag k) s = .next t ∧
          FrameOf (.abortPush tag k) [.ovens, .pu, .fl, .sl] s t ∧ t.pu = { s.pu with push := none } ∧
          OthersKept s t r.oven ∧
          t.oven r.oven = { s.oven r.oven with
            phase := .empty, progress := 0, lastPushNumber := k
            valve := (turnTo r.oven (t.valveMode r.oven) (s.oven r.oven).valve).1 } ∧
          Issued s t ([⟨.pusher, .halt⟩, ⟨.guide, .halt⟩, ⟨servingNode r.oven, .cap r.oven false⟩] ++
            (turnTo r.oven (t.valveMode r.oven) (s.oven r.oven).valve).2) ∧
          Noticed s t [.pushDone k r.oven r.car r.peakForce r.emptyCar true] ∧
          Replied t ⟨0x31, tag, halfBytes k⟩ .ok [5, 4]))

/-- CLEAR_STALL (R78): its checks in order; taken, the oven becomes EMPTY or READY, CAP close is sent, the stall record is
removed, the valve takes its evaluated mode and the reply gives the oven and the result. With no car claimed QU is left alone.
A LOADED claimed car is dispatched (R148): with the tower free of holder and waiters it takes the grant and moves to TOWER,
else it joins the waiting list in the order of load seconds, car 1 before car 2 (R150; as ages modulo 2^32, log 14), and moves
to APPROACH_T. Any other claimed car is released (R147): SPOTTED becomes PARKED, FAULTED stays, and a move ends, with HALT if
its timer still stood, one run out to 0 included (logs 3, 25). The order of different blocks' commands is the model's (log 5).
-/
def Obligations.ClearStallRemovesTheRecord : Prop :=
  ∀ (s : State) (tag result : Byte), ShapeLaw s → PushLaw s → s.Free → tag ≠ 0 →
    (1 < result.toNat → ∃ t, exec (.clearStall tag result) s = .next t ∧ FrameOf (.clearStall tag result) [.sl] s t ∧
      Answered s t ⟨0x32, tag, [result]⟩ .badValue []) ∧
    (result.toNat ≤ 1 → s.pu.stall = none → ∃ t, exec (.clearStall tag result) s = .next t ∧
      FrameOf (.clearStall tag result) [.sl] s t ∧ Answered s t ⟨0x32, tag, [result]⟩ .notFound []) ∧
    (∀ r, s.pu.stall = some r → result.toNat ≤ 1 →
      (s.pins.estop = true → ∃ t, exec (.clearStall tag result) s = .next t ∧
        FrameOf (.clearStall tag result) [.sl] s t ∧ Answered s t ⟨0x32, tag, [result]⟩ .busy []) ∧
      (s.pins.estop = false → result = 0 →
        ((s.oven r.oven).doorP.state = .off ∨ (s.oven r.oven).doorC.state = .off) →
        ∃ t, exec (.clearStall tag result) s = .next t ∧
          FrameOf (.clearStall tag result) [.sl] s t ∧ Answered s t ⟨0x32, tag, [result]⟩ .doorsNotSealed []) ∧
      (s.pins.estop = false →
        (result = 1 ∨ ((s.oven r.oven).doorP.state ≠ .off ∧ (s.oven r.oven).doorC.state ≠ .off)) →
        s.FieldRoom 5 → s.NoticeRoom 1 →
        ∃ t, exec (.clearStall tag result) s = .next t ∧
          FrameOf (.clearStall tag result) [.ovens, .pu, .qu, .fl, .sl] s t ∧ t.pu = { s.pu with stall := none } ∧
          OthersKept s t r.oven ∧
          (∀ v : Valve, v = (turnTo r.oven (t.valveMode r.oven) (s.oven r.oven).valve).1 →
            t.oven r.oven = (if result = 1 then { s.oven r.oven with
                phase := .empty, progress := 0, lastPushNumber := r.number, valve := v }
              else { s.oven r.oven with phase := .ready, valve := v })) ∧
          (∃ moves : List Outgoing,
            Issued s t ([⟨servingNode r.oven, .cap r.oven false⟩] ++ moves ++
              (turnTo r.oven (t.valveMode r.oven) (s.oven r.oven).valve).2) ∧
            (r.claimed = false → t.qu = s.qu ∧ moves = []) ∧
            (r.claimed = true → (s.car r.car).state ≠ .loaded →
              t.qu = s.qu.setCar r.car { s.car r.car with
                state := if (s.car r.car).state = .toSpot ∨ (s.car r.car).state = .spotted then .parked
                  else (s.car r.car).state
                target := none
                travelTimer := if (s.car r.car).target = none then (s.car r.car).travelTimer else none } ∧
              moves = (if (s.car r.car).target ≠ none ∧ (s.car r.car).travelTimer ≠ none
                then [⟨.car r.car, .halt⟩] else [])) ∧
            (r.claimed = true → (s.car r.car).state = .loaded →
              ∀ age : Car → Nat,
                age = (fun c => match (s.car c).load with | some l => (s.bk.seconds - l.second).toNat | none => 0) →
              ∀ before : Car → Bool,
                before = (fun c => decide (¬(age c < age r.car ∨ (age c = age r.car ∧ r.car = .one)))) →
              (s.qu.holder = none ∧ s.qu.waiters = [] →
                t.qu = { s.qu with holder := some r.car }.setCar r.car { s.car r.car with
                  state := .toTower, target := some .tower, travelTimer := some s.qu.limits.travel } ∧
                moves = [⟨.car r.car, .move .tower⟩]) ∧
              (s.qu.holder ≠ none ∨ s.qu.waiters ≠ [] →
                t.qu = { s.qu with
                    waiters := s.qu.waiters.takeWhile before ++ r.car :: s.qu.waiters.dropWhile before }.setCar r.car
                  { s.car r.car with
                    state := .toTower, target := some .approachT, travelTimer := some s.qu.limits.travel } ∧
                moves = [⟨.car r.car, .move .approachT⟩]))) ∧
          Noticed s t [.stallCleared r.number r.oven result.toNat] ∧
          Replied t ⟨0x32, tag, [result]⟩ .ok [byteOf r.oven, result]))

/-- A pusher report replaces the pusher view whole (R57). With no push nothing else changes. In SPOT it completes the stage
into ISOLATE when it makes the three conditions hold together (R62, R63). In RAM the record takes forward seen and the force
of every report, a moving one included: R66 says both that each report's force is copied and that a moving report changes
nothing in the record, and the model copies the force (log 22). Ram home after ram forward completes RAM: DOORS_ON with
REPLACE to both, the car no longer claimed, and a force above the threshold a hard push (R67, R68). A LOADED car is dispatched
(R148): the grant and TOWER, or the waiting list in the order of load seconds (R150; log 14) and APPROACH_T, the move held
under ESTOP#, with HALT to a move still running (R161; log 36). Any other car is released (R147), a travel timer standing at 0
counting as running (logs 3, 25). -/
def Obligations.PusherReportsDriveTheRam : Prop :=
  ∀ (s : State) (x : PusherReport), s.pins.inReset = false → x.position ≤ 96 →
    ∀ v : PusherView, v = ⟨x.position, x.ram, min 4000 x.force.toNat, x.holding, x.fault.toNat⟩ →
    (s.pu.push = none → ∃ t, exec (.pusherReport x) s = .next t ∧ FrameOf (.pusherReport x) [.pu] s t ∧
      t.pu = { s.pu with pusher := v }) ∧
    (∀ r, s.pu.push = some r →
      (r.stage = .isolate ∨ r.stage = .doorsOff ∨ r.stage = .doorsOn ∨ r.stage = .retreat →
        ∃ t, exec (.pusherReport x) s = .next t ∧ FrameOf (.pusherReport x) [.pu] s t ∧
          t.pu = { s.pu with pusher := v }) ∧
      (r.stage = .spot →
        (ShapeLaw s → PushLaw s → x.position = r.oven → s.pu.guide.position = r.oven → s.pu.guide.latched = true →
          r.claimed = true → (s.car r.car).state = .spotted → (s.car r.car).position = .oven r.oven → s.FieldRoom 3 →
          ∃ t, exec (.pusherReport x) s = .next t ∧ FrameOf (.pusherReport x) [.ovens, .pu, .fl] s t ∧
            t.pu = { s.pu with
              pusher := v
              push := some { r with stage := .isolate, entered := s.bk.seconds, timer := s.pu.limits.isolate } } ∧
            OthersKept s t r.oven ∧
            t.oven r.oven = (s.oven r.oven).setValve (turnTo r.oven .closed (s.oven r.oven).valve).1 ∧
            Issued s t ((turnTo r.oven .closed (s.oven r.oven).valve).2 ++ [⟨servingNode r.oven, .cap r.oven true⟩])) ∧
        (x.position ≠ r.oven ∨ s.pu.guide.position ≠ r.oven ∨ s.pu.guide.latched = false ∨ r.claimed = false ∨
            (s.car r.car).state ≠ .spotted ∨ (s.car r.car).position ≠ .oven r.oven →
          ∃ t, exec (.pusherReport x) s = .next t ∧ FrameOf (.pusherReport x) [.pu] s t ∧
            t.pu = { s.pu with pusher := v })) ∧
      (r.stage = .ram → x.ram ≠ .home ∨ r.forwardSeen = false →
        ∃ t, exec (.pusherReport x) s = .next t ∧ FrameOf (.pusherReport x) [.pu] s t ∧
          t.pu = { s.pu with
            pusher := v
            push := some { r with
              forwardSeen := r.forwardSeen || x.ram == .forward, peakForce := min 4000 x.force.toNat } }) ∧
      (ShapeLaw s → PushLaw s → r.stage = .ram → x.ram = .home → r.forwardSeen = true → s.FieldRoom 3 → s.NoticeRoom 1 →
        s.NoticesWait →
        ∃ t, exec (.pusherReport x) s = .next t ∧ FrameOf (.pusherReport x) [.ovens, .pu, .qu, .fl, .sl] s t ∧
          t.pu = { s.pu with
            pusher := v
            push := some { r with
              stage := .doorsOn, entered := s.bk.seconds, timer := s.pu.limits.doorsOn, claimed := false
              peakForce := min 4000 x.force.toNat
              emptyCar := r.emptyCar || (s.car r.car).state != .loaded } } ∧
          OthersKept s t r.oven ∧
          (s.pu.limits.sticker < min 4000 x.force.toNat →
            t.oven r.oven = { s.oven r.oven with
              hardPushCount := min 255 ((s.oven r.oven).hardPushCount + 1), stickerPending := true } ∧
            NoticesOnly s t [.hardPush r.oven r.number (min 4000 x.force.toNat)]) ∧
          (min 4000 x.force.toNat ≤ s.pu.limits.sticker → t.ovens = s.ovens ∧ t.sl = s.sl) ∧
          (∃ moves : List Outgoing, Issued s t (moves ++ [⟨.pusher, .replace⟩, ⟨.guide, .replace⟩]) ∧
            ((s.car r.car).state ≠ .loaded →
              t.qu = s.qu.setCar r.car { s.car r.car with
                state := if (s.car r.car).state = .toSpot ∨ (s.car r.car).state = .spotted then .parked
                  else (s.car r.car).state
                target := none
                travelTimer := if (s.car r.car).target = none then (s.car r.car).travelTimer else none } ∧
              moves = (if (s.car r.car).target ≠ none ∧ (s.car r.car).travelTimer ≠ none
                then [⟨.car r.car, .halt⟩] else [])) ∧
            ((s.car r.car).state = .loaded →
              ∀ age : Car → Nat,
                age = (fun c => match (s.car c).load with | some l => (s.bk.seconds - l.second).toNat | none => 0) →
              ∀ before : Car → Bool,
                before = (fun c => decide (¬(age c < age r.car ∨ (age c = age r.car ∧ r.car = .one)))) →
              ∀ travel : Timer, travel = (if s.pins.estop then none else some s.qu.limits.travel) →
              ∀ halt : List Outgoing, halt = (if (s.car r.car).travelTimer ≠ none then [⟨.car r.car, .halt⟩] else []) →
              (s.qu.holder = none ∧ s.qu.waiters = [] →
                t.qu = { s.qu with holder := some r.car }.setCar r.car { s.car r.car with
                  state := .toTower, target := some .tower, travelTimer := travel } ∧
                moves = (if s.pins.estop = false then [⟨.car r.car, .move .tower⟩] else halt)) ∧
              (s.qu.holder ≠ none ∨ s.qu.waiters ≠ [] →
                t.qu = { s.qu with
                    waiters := s.qu.waiters.takeWhile before ++ r.car :: s.qu.waiters.dropWhile before }.setCar r.car
                  { s.car r.car with state := .toTower, target := some .approachT, travelTimer := travel } ∧
                moves = (if s.pins.estop = false then [⟨.car r.car, .move .approachT⟩] else halt))))))

/-- A guide report replaces the guide view whole (R57). In SPOT the first report of the guide at the oven and not latched
sends LATCH once, and the stage completes into ISOLATE at the event at which its three conditions hold together: the valve
goes CLOSED and CAP open is sent (R61 to R63). Elsewhere, and with one of the three missing (a latched guide at another oven,
a SPOTTED car recorded elsewhere), nothing else changes. -/
def Obligations.GuideReportsLatchAndCompleteSpot : Prop :=
  ∀ (s : State) (x : GuideReport), s.pins.inReset = false → x.position ≤ 96 →
    ∀ v : GuideView, v = ⟨x.position, x.latched, x.holding, x.fault.toNat⟩ →
    ((∀ r, s.pu.push = some r → r.stage ≠ .spot) →
      ∃ t, exec (.guideReport x) s = .next t ∧ FrameOf (.guideReport x) [.pu] s t ∧ t.pu = { s.pu with guide := v }) ∧
    (∀ r, s.pu.push = some r → r.stage = .spot →
      (x.position = r.oven → x.latched = false → r.latchSent = false → s.FieldRoom 1 →
        ∃ t, exec (.guideReport x) s = .next t ∧ FrameOf (.guideReport x) [.pu, .fl] s t ∧
          t.pu = { s.pu with guide := v, push := some { r with latchSent := true } } ∧ Issued s t [⟨.guide, .latch⟩]) ∧
      (x.latched = false → r.latchSent = true ∨ x.position ≠ r.oven →
        ∃ t, exec (.guideReport x) s = .next t ∧ FrameOf (.guideReport x) [.pu] s t ∧ t.pu = { s.pu with guide := v }) ∧
      (ShapeLaw s → PushLaw s → x.position = r.oven → x.latched = true → s.pu.pusher.position = r.oven → r.claimed = true →
        (s.car r.car).state = .spotted → (s.car r.car).position = .oven r.oven → s.FieldRoom 3 →
        ∃ t, exec (.guideReport x) s = .next t ∧ FrameOf (.guideReport x) [.ovens, .pu, .fl] s t ∧
          t.pu = { s.pu with
            guide := v
            push := some { r with stage := .isolate, entered := s.bk.seconds, timer := s.pu.limits.isolate } } ∧
          OthersKept s t r.oven ∧
          t.oven r.oven = (s.oven r.oven).setValve (turnTo r.oven .closed (s.oven r.oven).valve).1 ∧
          Issued s t ((turnTo r.oven .closed (s.oven r.oven).valve).2 ++ [⟨servingNode r.oven, .cap r.oven true⟩])) ∧
      (x.latched = true →
        x.position ≠ r.oven ∨ s.pu.pusher.position ≠ r.oven ∨ r.claimed = false ∨ (s.car r.car).state ≠ .spotted ∨
          (s.car r.car).position ≠ .oven r.oven →
        ∃ t, exec (.guideReport x) s = .next t ∧ FrameOf (.guideReport x) [.pu] s t ∧ t.pu = { s.pu with guide := v }))

/-- A stage confirmation is judged by the stage in progress (R63 to R65, R69, R73): ISOLATE completes on feedback of 16 or
less with the cap open; DOORS_OFF on both doors absent, into RAM if the re-check passes and else into RETREAT; DOORS_ON and
RETREAT on both present, with the oven EMPTY or READY, CAP close, the release of a car still claimed (R147; a travel timer
standing at 0 counts as running, logs 3, 25) and the valve's evaluated mode with its entry commands after them (log 5). PU
notes the report it found (log 21). Said of a push's end with no slot pending. -/
def Obligations.StageConfirmationsAreJudgedByStage : Prop :=
  ∀ (s : State) (m : Fin 12) (es : List OvenEntry), s.pins.inReset = false → es.length = 8 →
    (s.pu.push = none → exec (.stageConfirmation m es) s = .next (s.passed (.stageConfirmation m es))) ∧
    (∀ r, s.pu.push = some r →
      ((r.oven - 1) / 8 % 12 ≠ m.val → exec (.stageConfirmation m es) s = .next (s.passed (.stageConfirmation m es))) ∧
      (∀ e, es[(r.oven - 1) % 8]? = some e → ShapeLaw s → PushLaw s → (r.oven - 1) / 8 = m.val →
        ∀ p : PushUnit, p = { s.pu with taken := some ⟨r.oven, es, r.stage⟩ } →
        (r.stage = .spot ∨ r.stage = .ram ∨ (r.stage = .isolate ∧ (16 < e.feedback.toNat ∨ e.capOpen = false)) ∨
          (r.stage = .doorsOff ∧ (e.presentP = true ∨ e.presentC = true)) ∨
          ((r.stage = .doorsOn ∨ r.stage = .retreat) ∧ (e.presentP = false ∨ e.presentC = false)) →
          ∃ t, exec (.stageConfirmation m es) s = .next t ∧ FrameOf (.stageConfirmation m es) [.pu] s t ∧ t.pu = p) ∧
        (r.stage = .isolate → e.feedback.toNat ≤ 16 → e.capOpen = true → s.FieldRoom 2 →
          ∃ t, exec (.stageConfirmation m es) s = .next t ∧ FrameOf (.stageConfirmation m es) [.pu, .fl] s t ∧
            t.pu = { p with push := some { r with
              stage := .doorsOff, entered := s.bk.seconds, timer := s.pu.limits.doorsOff } } ∧
            Issued s t [⟨.pusher, .extract⟩, ⟨.guide, .extract⟩]) ∧
        (r.stage = .doorsOff → e.presentP = false → e.presentC = false → s.FieldRoom 2 →
          ∃ t, exec (.stageConfirmation m es) s = .next t ∧ FrameOf (.stageConfirmation m es) [.pu, .fl] s t ∧
            (s.pu.guide.latched = true → s.pu.pusher.holding = true → s.pu.guide.holding = true → r.claimed = true →
              (s.car r.car).state = .spotted → (s.car r.car).position = .oven r.oven → s.pins.estop = false →
              t.pu = { p with push := some { r with
                stage := .ram, entered := s.bk.seconds, timer := s.pu.limits.ram, forwardSeen := false, peakForce := 0 } } ∧
              Issued s t [⟨.pusher, .ramForward⟩]) ∧
            (s.pu.guide.latched = false ∨ s.pu.pusher.holding = false ∨ s.pu.guide.holding = false ∨
              r.claimed = false ∨ (s.car r.car).state ≠ .spotted ∨ (s.car r.car).position ≠ .oven r.oven ∨
              s.pins.estop = true →
              t.pu = { p with push := some { r with
                stage := .retreat, entered := s.bk.seconds, timer := s.pu.limits.doorsOn, abortCause := some .recheck } } ∧
              Issued s t [⟨.pusher, .replace⟩, ⟨.guide, .replace⟩])) ∧
        (r.stage = .doorsOn → e.presentP = true → e.presentC = true → s.su.slotFlag = false → s.FieldRoom 3 →
          s.NoticeRoom 1 → s.NoticesWait →
          ∃ t, exec (.stageConfirmation m es) s = .next t ∧
            FrameOf (.stageConfirmation m es) [.ovens, .pu, .fl, .sl] s t ∧ t.pu = { p with push := none } ∧
            OthersKept s t r.oven ∧
            t.oven r.oven = { s.oven r.oven with
              phase := .empty, progress := 0, lastPushNumber := r.number
              valve := (turnTo r.oven (t.valveMode r.oven) (s.oven r.oven).valve).1 } ∧
            Issued s t (⟨servingNode r.oven, .cap r.oven false⟩ ::
              (turnTo r.oven (t.valveMode r.oven) (s.oven r.oven).valve).2) ∧
            NoticesOnly s t [.pushDone r.number r.oven r.car r.peakForce r.emptyCar r.doorFault]) ∧
        (r.stage = .retreat → e.presentP = true → e.presentC = true → s.su.slotFlag = false → s.FieldRoom 4 →
          s.NoticeRoom 1 → s.NoticesWait →
          ∃ t, exec (.stageConfirmation m es) s = .next t ∧
            FrameOf (.stageConfirmation m es) [.ovens, .pu, .qu, .fl, .sl] s t ∧ t.pu = { p with push := none } ∧
            OthersKept s t r.oven ∧
            t.oven r.oven = { s.oven r.oven with
              phase := .ready, valve := (turnTo r.oven (t.valveMode r.oven) (s.oven r.oven).valve).1 } ∧
            (r.claimed = false → t.qu = s.qu ∧ Issued s t (⟨servingNode r.oven, .cap r.oven false⟩ ::
              (turnTo r.oven (t.valveMode r.oven) (s.oven r.oven).valve).2)) ∧
            (r.claimed = true →
              t.qu = s.qu.setCar r.car { s.car r.car with
                state := if (s.car r.car).state = .toSpot ∨ (s.car r.car).state = .spotted then .parked
                  else (s.car r.car).state
                target := none
                travelTimer := if (s.car r.car).target = none then (s.car r.car).travelTimer else none } ∧
              Issued s t ([⟨servingNode r.oven, .cap r.oven false⟩] ++
                (if (s.car r.car).target ≠ none ∧ (s.car r.car).travelTimer ≠ none then [⟨.car r.car, .halt⟩] else []) ++
                (turnTo r.oven (t.valveMode r.oven) (s.oven r.oven).valve).2)) ∧
            (∀ y, r.abortCause = some y → NoticesOnly s t [.pushAborted r.number r.oven .doorsOff y]))))

/-- The stage timer running out, a machine's silence and ESTOP# assertion abort the push as its stage requires (R61, R70 to
R76, R79, R81), with the stage's commands, the release of the claimed car in SPOT and ISOLATE, and the entry commands of the
valve's evaluated mode after them, the order of different blocks' commands being the model's (log 5); with no push, and for a
timer with time left, they pass. A travel timer standing at 0 counts as running and HALT is sent (logs 3, 25). Said of a
push's end with no slot pending, but for a machine's silence, after which no evaluation runs (R52; log 39). -/
def Obligations.AbortEventsActByStage : Prop :=
  ∀ (s : State) (c : Instr) (y : AbortCause), ShapeLaw s → PushLaw s → s.pins.inReset = false →
    (c = .stageTimerExpiry ∧ y = .timeout) ∨ (c = .machineSilenceAtPu .pusher ∧ y = .pusherSilent) ∨
      (c = .machineSilenceAtPu .guide ∧ y = .guideSilent) ∨ (c = .estopAtPu ∧ y = .estop) →
    (s.pu.push = none → exec c s = .next (s.passed c)) ∧
    (∀ r, s.pu.push = some r →
      (c = .stageTimerExpiry → r.timer ≠ 0 → exec c s = .next (s.passed c)) ∧
      ((c = .stageTimerExpiry → r.timer = 0) →
        (r.stage = .spot ∨ r.stage = .isolate → s.su.slotFlag = false ∨ y = .pusherSilent ∨ y = .guideSilent →
          s.FieldRoom 6 → s.NoticeRoom 1 → s.NoticesWait →
          ∃ t, exec c s = .next t ∧ FrameOf c [.ovens, .pu, .qu, .fl, .sl] s t ∧ t.pu = { s.pu with push := none } ∧
            OthersKept s t r.oven ∧
            t.oven r.oven = { s.oven r.oven with
              phase := .ready, valve := (turnTo r.oven (t.valveMode r.oven) (s.oven r.oven).valve).1 } ∧
            (r.claimed = false → t.qu = s.qu ∧ Issued s t ([⟨.pusher, .halt⟩, ⟨.guide, .halt⟩,
              ⟨servingNode r.oven, .cap r.oven false⟩] ++ (turnTo r.oven (t.valveMode r.oven) (s.oven r.oven).valve).2)) ∧
            (r.claimed = true →
              t.qu = s.qu.setCar r.car { s.car r.car with
                state := if (s.car r.car).state = .toSpot ∨ (s.car r.car).state = .spotted then .parked
                  else (s.car r.car).state
                target := none
                travelTimer := if (s.car r.car).target = none then (s.car r.car).travelTimer else none } ∧
              Issued s t ([⟨.pusher, .halt⟩, ⟨.guide, .halt⟩, ⟨servingNode r.oven, .cap r.oven false⟩] ++
                (if (s.car r.car).target ≠ none ∧ (s.car r.car).travelTimer ≠ none then [⟨.car r.car, .halt⟩] else []) ++
                (turnTo r.oven (t.valveMode r.oven) (s.oven r.oven).valve).2)) ∧
            NoticesOnly s t [.pushAborted r.number r.oven r.stage y]) ∧
        (r.stage = .doorsOff → y ≠ .estop → s.FieldRoom 2 →
          ∃ t, exec c s = .next t ∧ FrameOf c [.pu, .fl] s t ∧
            t.pu = { s.pu with push := some { r with
              abortCause := some y, stage := .retreat, entered := s.bk.seconds, timer := s.pu.limits.doorsOn } } ∧
            Issued s t [⟨.pusher, .replace⟩, ⟨.guide, .replace⟩]) ∧
        (r.stage = .ram ∨ r.stage = .retreat ∨ (r.stage = .doorsOff ∧ y = .estop) → s.FieldRoom 4 → s.NoticeRoom 2 →
          s.NoticesWait →
          ∃ t, exec c s = .next t ∧ FrameOf c [.ovens, .su, .pu, .fl, .sl] s t ∧
            t.pu = { s.pu with
              push := none
              stall := some {
                oven := r.oven, number := r.number, origin := r.origin, car := r.car, claimed := r.claimed
                stage := r.stage, cause := y, firstCause := if r.stage = .retreat then r.abortCause else none
                peakForce := r.peakForce, second := s.bk.seconds } } ∧
            OthersKept s t r.oven ∧
            t.oven r.oven = { s.oven r.oven with
              phase := .stalled, valve := (turnTo r.oven .closed (s.oven r.oven).valve).1 } ∧
            Issued s t ((if r.stage = .ram then [⟨.pusher, .ramHalt⟩, ⟨.guide, .halt⟩]
              else if y = .estop then [⟨.pusher, .halt⟩, ⟨.guide, .halt⟩] else []) ++
              (turnTo r.oven .closed (s.oven r.oven).valve).2) ∧
            t.su = (if s.su.mode = .auto then
              { s.su with mode := .paused, accumulator := 0, carriesDue := 0, slotFlag := false }
              else { s.su with mode := .paused }) ∧
            NoticesOnly s t (.stalled r.number r.oven r.stage y (if r.stage = .retreat then r.abortCause else none) ::
              (if s.su.mode = .paused then [] else [.schedulePaused 2 0]))) ∧
        (r.stage = .doorsOn → s.su.slotFlag = false ∨ y = .pusherSilent ∨ y = .guideSilent →
          s.FieldRoom 5 → s.NoticeRoom 1 → s.NoticesWait →
          ∃ t, exec c s = .next t ∧ FrameOf c [.ovens, .pu, .fl, .sl] s t ∧ t.pu = { s.pu with push := none } ∧
            OthersKept s t r.oven ∧
            t.oven r.oven = { s.oven r.oven with
              phase := .empty, progress := 0, lastPushNumber := r.number
              valve := (turnTo r.oven (t.valveMode r.oven) (s.oven r.oven).valve).1 } ∧
            Issued s t ([⟨.pusher, .halt⟩, ⟨.guide, .halt⟩, ⟨servingNode r.oven, .cap r.oven false⟩] ++
              (turnTo r.oven (t.valveMode r.oven) (s.oven r.oven).valve).2) ∧
            NoticesOnly s t [.pushDone r.number r.oven r.car r.peakForce r.emptyCar true])))

/-! ### Doors -/

/-- DOOR_SERVICE (R99, R100): its checks in order; taken, the door's permit is as the action says, every other door and oven
kept, and the reply carries the oven, the side, the permit, the state and the unexpected flag. -/
def Obligations.DoorServiceSetsThePermit : Prop :=
  ∀ (s : State) (tag n side action : Byte), ShapeLaw s → s.Free → tag ≠ 0 →
    ∀ x : Status,
      x = (if ¬(1 ≤ n.toNat ∧ n.toNat ≤ s.ovenCount) then .badOven
        else if 1 < side.toNat ∨ 1 < action.toNat then .badValue
        else if action = 1 ∧ ((∃ r ∈ s.pu.push, r.oven = n.toNat) ∨ (∃ r ∈ s.pu.stall, r.oven = n.toNat)) then .busy
        else if action = 1 ∧ (s.oven n.toNat).phase ≠ .empty ∧ s.excluded n.toNat = false then .wrongPhase
        else .ok) →
      (x ≠ .ok → ∃ t, exec (.doorService tag n side action) s = .next t ∧
        FrameOf (.doorService tag n side action) [.sl] s t ∧ Answered s t ⟨0x40, tag, [n, side, action]⟩ x []) ∧
      (x = .ok → ∀ d : Side, d.code = side.toNat →
        ∃ t, exec (.doorService tag n side action) s = .next t ∧
          FrameOf (.doorService tag n side action) [.ovens, .sl] s t ∧
          t.ovens = s.ovens.set (n.toNat - 1) ((s.oven n.toNat).setDoor d
            { (s.oven n.toNat).door d with permit := action == 1 }) ∧
          Answered s t ⟨0x40, tag, [n, side, action]⟩ .ok
            [n, side, action, byteOf ((s.oven n.toNat).door d).state.code, flag ((s.oven n.toNat).door d).unexpected])

/-- A door taken from a report in RUN (section 4.2, R89 to R91, R97, R98). `expected` says whether a push at DOORS_OFF or
RETREAT, or the permit, accounts for a removal. The learned step stays as it stands on entry to LEAKING, and every door, one
LEAKING at base step 15 included, reseats at the larger of the base step and its learned step less 1 (log 33, DEDUCED). Which
removals a push accounts for (R90): those of the oven its record names at DOORS_OFF or RETREAT. Where PU has taken the same
report before DU, the stage is the one PU found, which PU notes (log 21, the model's reading for one report in two orders). An
oven node report at DU takes every door of the node's ovens within 1..N on its own, by the table of section 4.2 in RUN and by
R103 in CONFIG, after its leak level is recorded, with the doors' CLAMP commands and notices, oven by oven and P before C (log
5); a valve is evaluated where a door's state or unexpected flag changed, once for each such door, P before C, with the entry
commands of a mode entered after the door's own (R112, R113; logs 5, 31), and else kept; no other oven, and nothing else of an
oven's record, changes (R89, R90, R103). -/
def Obligations.OvenReportsDriveTheDoors : Prop :=
  (∀ (d : Door) (l : DoorLimits) (n : Nat) (x : Side) (expected : Bool),
    (d.state = .off → d.takeRun l n x expected false = ⟨d, [], []⟩) ∧
    (d.state ≠ .off → d.takeRun l n x expected false =
      ⟨{ d with
          state := .off, persistence := 0, settleTimer := none, doorOffTimer := some l.doorOffLimit
          unexpected := d.unexpected || !expected },
        [], if expected then [] else [.doorUnexpected n x]⟩) ∧
    (d.state = .off → d.takeRun l n x expected true =
      ⟨{ d with
          state := .seated, doorOffTimer := none, offLong := false, unexpected := false, permit := false
          clampStep := max l.baseStep (d.learnedStep - 1), settleTimer := some l.settleTime },
        [⟨servingNode n, .clamp n x (max l.baseStep (d.learnedStep - 1))⟩], []⟩) ∧
    (d.state = .seated → d.takeRun l n x expected true = ⟨d, [], []⟩) ∧
    (d.state = .sealed →
      (d.leakLevel < l.leakThreshold → 0 < l.leakPersistence →
        d.takeRun l n x expected true = ⟨{ d with persistence := 0 }, [], []⟩) ∧
      (l.leakThreshold ≤ d.leakLevel → d.persistence + 1 < l.leakPersistence →
        d.takeRun l n x expected true = ⟨{ d with persistence := d.persistence + 1 }, [], []⟩) ∧
      (l.leakThreshold ≤ d.leakLevel → l.leakPersistence ≤ d.persistence + 1 → d.clampStep < 15 →
        d.takeRun l n x expected true =
          ⟨{ d with clampStep := d.clampStep + 1, learnedStep := d.clampStep + 1, persistence := 0 },
            [⟨servingNode n, .clamp n x (d.clampStep + 1)⟩], []⟩) ∧
      (l.leakThreshold ≤ d.leakLevel → l.leakPersistence ≤ d.persistence + 1 → 15 ≤ d.clampStep →
        d.takeRun l n x expected true =
          ⟨{ d with state := .leaking, persistence := 0 }, [], [.doorLeaking n x d.leakLevel]⟩)) ∧
    (d.state = .leaking →
      (l.leakThreshold ≤ d.leakLevel → 0 < l.leakPersistence →
        d.takeRun l n x expected true = ⟨{ d with persistence := 0 }, [], []⟩) ∧
      (d.leakLevel < l.leakThreshold → d.persistence + 1 < l.leakPersistence →
        d.takeRun l n x expected true = ⟨{ d with persistence := d.persistence + 1 }, [], []⟩) ∧
      (d.leakLevel < l.leakThreshold → l.leakPersistence ≤ d.persistence + 1 →
        d.takeRun l n x expected true = ⟨{ d with state := .sealed, persistence := 0 }, [], [.doorResealed n x]⟩))) ∧
  (∀ (s : State) (es : List OvenEntry) (n : Nat),
    (s.pu.taken = none → (s.pushTakesDoors es n = true ↔
      ∃ r ∈ s.pu.push, r.oven = n ∧ (r.stage = .doorsOff ∨ r.stage = .retreat))) ∧
    (∀ k, s.pu.taken = some k →
      (k.oven = n ∧ k.entries = es → (s.pushTakesDoors es n = true ↔ k.stage = .doorsOff ∨ k.stage = .retreat)) ∧
      (k.oven ≠ n ∨ k.entries ≠ es → (s.pushTakesDoors es n = true ↔
        ∃ r ∈ s.pu.push, r.oven = n ∧ (r.stage = .doorsOff ∨ r.stage = .retreat))))) ∧
  (∀ (s : State) (m : Fin 12) (es : List OvenEntry), ShapeLaw s → s.pins.inReset = false → es.length = 8 →
    ∃ t, exec (.ovenReport m es) s = .next t ∧
      FrameOf (.ovenReport m es) [.ovens, .pu, .fl, .sl] s t ∧
      t.pu = { s.pu with taken := t.pu.taken } ∧ t.fl.nodes = s.fl.nodes ∧
      (∀ n < 97, 0 < n → (n - 1) / 8 ≠ m.val ∨ s.ovenCount < n → t.oven n = s.oven n) ∧
      (∀ n < 97, 0 < n → (n - 1) / 8 = m.val → n ≤ s.ovenCount → ∀ e, es[(n - 1) % 8]? = some e →
        t.oven n = { s.oven n with
          doorP := (t.oven n).doorP, doorC := (t.oven n).doorC, valve := (t.oven n).valve } ∧
        ((∀ x : Side, ((t.oven n).door x).state = ((s.oven n).door x).state ∧
            ((t.oven n).door x).unexpected = ((s.oven n).door x).unexpected) → (t.oven n).valve = (s.oven n).valve) ∧
        ((∃ x : Side, ((t.oven n).door x).state ≠ ((s.oven n).door x).state ∨
            ((t.oven n).door x).unexpected ≠ ((s.oven n).door x).unexpected) →
          (t.oven n).valve.mode = t.valveMode n) ∧
        ∀ x : Side, ∀ d : Door,
          d = { (s.oven n).door x with leakLevel := (match x with | .p => e.leakP.toNat | .c => e.leakC.toNat) } →
          ∀ present : Bool, present = (match x with | .p => e.presentP | .c => e.presentC) →
          (s.bk.mode = .run →
            (t.oven n).door x =
              (d.takeRun s.du n x (s.pushTakesDoors es n || ((s.oven n).door x).permit) present).door) ∧
          (s.bk.mode = .config →
            (present = false → (t.oven n).door x =
              if d.state = .off then d else { d with state := .off, persistence := 0, settleTimer := none }) ∧
            (present = true → (t.oven n).door x =
              if d.state = .off ∨ d.state = .seated then { d with
                state := .sealed, doorOffTimer := none, settleTimer := none, persistence := 0, unexpected := false
                offLong := false, permit := false, clampStep := max s.du.baseStep (d.learnedStep - 1) }
              else d))) ∧
      (∀ changed : Nat → Side → Bool,
          changed = (fun n x => decide (((t.oven n).door x).state ≠ ((s.oven n).door x).state ∨
            ((t.oven n).door x).unexpected ≠ ((s.oven n).door x).unexpected)) →
        ∀ afterP : Nat → Valve × List Outgoing,
          afterP = (fun n => if changed n .p then
              turnTo n ((s.setOven n ((s.oven n).setDoor .p (t.oven n).doorP)).valveMode n) (s.oven n).valve
            else ((s.oven n).valve, [])) →
        ∀ afterC : Nat → Valve × List Outgoing,
          afterC = (fun n => if changed n .c then turnTo n (t.valveMode n) (afterP n).1 else ((afterP n).1, [])) →
        (∀ n < 97, 0 < n → (n - 1) / 8 = m.val → n ≤ s.ovenCount → (t.oven n).valve = (afterC n).1) ∧
        (s.FieldRoom 48 → s.NoticeRoom 16 → s.NoticesWait →
          ∀ ovens : List Nat,
            ovens = ((List.range 8).map (fun k => 8 * m.val + 1 + k)).filter (fun n => n ≤ s.ovenCount) →
          ∀ act : Nat → Side → List Outgoing × List NoticeBody,
            act = (fun n x => match es[(n - 1) % 8]? with
              | some e =>
                let d := (s.oven n).door x
                let present := match x with | .p => e.presentP | .c => e.presentC
                match s.bk.mode with
                | .run =>
                  let a := { d with leakLevel := match x with | .p => e.leakP.toNat | .c => e.leakC.toNat }.takeRun s.du n x
                    (s.pushTakesDoors es n || d.permit) present
                  (a.commands, a.notices)
                | .config =>
                  (if present = true ∧ (d.state = .off ∨ d.state = .seated) then
                    [⟨servingNode n, .clamp n x (max s.du.baseStep (d.learnedStep - 1))⟩] else [], [])
              | none => ([], [])) →
          Issued s t (ovens.flatMap (fun n => (act n .p).1 ++ (afterP n).2 ++ (act n .c).1 ++ (afterC n).2)) ∧
          NoticesOnly s t (ovens.flatMap (fun n => (act n .p).2 ++ (act n .c).2)))))

/-- A door's timers (R92, R96): a settle timer that runs out makes a SEATED door SEALED with count 0, and the valve takes the
mode its evaluation gives with that mode's entry commands, which for a valve already in it is nothing; a door-off timer that
runs out on an OFF door sets off-long and raises DOOR_OFF_LONG. On a door in another state the timer alone is cleared. Each
acts in RUN and on ovens 1..N only, and otherwise passes. -/
def Obligations.DoorTimersSealAndMark : Prop :=
  ∀ (s : State) (n : Nat) (x : Side), ShapeLaw s → s.pins.inReset = false → 1 ≤ n → n ≤ 96 →
    (s.bk.mode = .run → n ≤ s.ovenCount → ((s.oven n).door x).settleTimer = some 0 → ((s.oven n).door x).state = .seated →
      ∃ t, exec (.settleTimerExpiry n x) s = .next t ∧ FrameOf (.settleTimerExpiry n x) [.ovens, .fl, .sl] s t ∧
        OthersKept s t n ∧ t.oven n = ((s.oven n).setDoor x
          { (s.oven n).door x with state := .sealed, persistence := 0, settleTimer := none }).setValve
            (turnTo n (t.valveMode n) (s.oven n).valve).1 ∧
        (s.FieldRoom 2 → t.sl = s.sl ∧ Issued s t (turnTo n (t.valveMode n) (s.oven n).valve).2) ∧
        ((s.oven n).valve.mode = s.valveMode n →
          (t.oven n).valve = (s.oven n).valve ∧ t.fl = s.fl ∧ t.sl = s.sl)) ∧
    (s.bk.mode = .run → n ≤ s.ovenCount → ((s.oven n).door x).settleTimer = some 0 → ((s.oven n).door x).state ≠ .seated →
      ∃ t, exec (.settleTimerExpiry n x) s = .next t ∧ FrameOf (.settleTimerExpiry n x) [.ovens] s t ∧
        t.ovens = s.ovens.set (n - 1) ((s.oven n).setDoor x { (s.oven n).door x with settleTimer := none })) ∧
    (s.bk.mode = .run → n ≤ s.ovenCount → ((s.oven n).door x).doorOffTimer = some 0 → ((s.oven n).door x).state ≠ .off →
      ∃ t, exec (.doorOffTimerExpiry n x) s = .next t ∧ FrameOf (.doorOffTimerExpiry n x) [.ovens] s t ∧
        t.ovens = s.ovens.set (n - 1) ((s.oven n).setDoor x { (s.oven n).door x with doorOffTimer := none })) ∧
    (s.bk.mode = .run → n ≤ s.ovenCount → ((s.oven n).door x).doorOffTimer = some 0 → ((s.oven n).door x).state = .off →
      s.NoticeRoom 1 → s.NoticesWait →
      ∃ t, exec (.doorOffTimerExpiry n x) s = .next t ∧ FrameOf (.doorOffTimerExpiry n x) [.ovens, .sl] s t ∧
        t.ovens = s.ovens.set (n - 1) ((s.oven n).setDoor x
          { (s.oven n).door x with offLong := true, doorOffTimer := none }) ∧
        NoticesOnly s t [.doorOffLong n x]) ∧
    (s.bk.mode = .config ∨ s.ovenCount < n ∨ ((s.oven n).door x).settleTimer ≠ some 0 →
      exec (.settleTimerExpiry n x) s = .next (s.passed (.settleTimerExpiry n x))) ∧
    (s.bk.mode = .config ∨ s.ovenCount < n ∨ ((s.oven n).door x).doorOffTimer ≠ some 0 →
      exec (.doorOffTimerExpiry n x) s = .next (s.passed (.doorOffTimerExpiry n x)))

/-! ### Offtake pressure -/

/-- The profile requests (R120, R121), taken in either mode: SET_PROFILE_POINT writes the clamped value to one point of the
shadow; APPLY_PROFILE copies the shadow into the active profile at once and counts the points that changed. An index above 16
is refused BAD_VALUE. START and STOP keep both copies, and both are the default table after reset. The setpoint of an oven
(R122 to R126): index, interpolation rounded to the nearest with an exact half upward, leak bias, main floor, clamp. The three
indications say which stage acted. The floor is applied with the last m from the main node's return at PR to its silence at PR
(R133, R135, R180). -/
def Obligations.ProfileRequestsAndSetpoints : Prop :=
  ((∀ (s : State) (tag i : Byte) (v : Half), s.Free → tag ≠ 0 →
    (i.toNat ≤ 16 → ∃ t, exec (.setProfilePoint tag i v) s = .next t ∧ FrameOf (.setProfilePoint tag i v) [.pr, .sl] s t ∧
      t.pr = { s.pr with shadow := s.pr.shadow.set i.toNat (max (-500) (min 500 v.toInt)) } ∧
      Answered s t ⟨0x50, tag, i :: halfBytes v⟩ .ok (i :: signed (max (-500) (min 500 v.toInt)))) ∧
    (16 < i.toNat → ∃ t, exec (.setProfilePoint tag i v) s = .next t ∧
      FrameOf (.setProfilePoint tag i v) [.sl] s t ∧ Answered s t ⟨0x50, tag, i :: halfBytes v⟩ .badValue []) ∧
    (∃ t, exec (.applyProfile tag) s = .next t ∧ FrameOf (.applyProfile tag) [.pr, .sl] s t ∧
      t.pr = { s.pr with active := s.pr.shadow } ∧
      Answered s t ⟨0x51, tag, []⟩ .ok
        [byteOf (((List.range 17).filter (fun k => s.pr.active.getD k 0 != s.pr.shadow.getD k 0)).length)])) ∧
  (∀ (s t : State) (tag : Byte), exec (.start tag) s = .next t ∨ exec (.stop tag) s = .next t → s.Free →
    t.pr.active = s.pr.active ∧ t.pr.shadow = s.pr.shadow) ∧
  State.reset.pr.active = [160, 150, 140, 130, 120, 120, 120, 120, 120, 60, 40, 30, 20, 20, 20, 20, 20] ∧
  State.reset.pr.shadow = State.reset.pr.active) ∧
  (∀ (s : State) (o : Oven),
    ∀ u : Nat, u = min (o.progress + o.profileOffset * 65536) 16777216 → ∀ k : Nat, k = u / 1048576 →
    ∀ f : Nat, f = u / 4096 % 256 →
    ∀ d : Int, d = (s.pr.active.getD (k + 1) 0 - s.pr.active.getD k 0) * (f : Int) →
    ∀ base : Int, base = (if k = 16 then s.pr.active.getD 16 0 else s.pr.active.getD k 0 + (2 * d + 256) / 512) →
    ∀ biased : Int, biased = (if o.doorP.state = .leaking ∨ o.doorC.state = .leaking then base - (s.pr.leakBias : Int) else base) →
    ∀ floored : Int, floored = (match s.pr.floorOn, s.pr.main.pressure with
      | true, some m => max biased (m + (s.pr.margin : Int))
      | true, none => biased
      | false, _ => biased) →
    s.setpoint o = (max (-500) (min 500 floored),
      decide (o.doorP.state = .leaking ∨ o.doorC.state = .leaking), decide (floored ≠ biased),
      decide (max (-500) (min 500 floored) ≠ floored)))

/-- SET_VALVE_MANUAL and RELEASE_VALVE (R112, R113, R115, R116). The flag and the clamped position are written; unless the
oven is CLOSED by a push or stall the mode is MANUAL and the position is sent, entered now or not, and becomes the command:
once, where R113 and R115 both ask for it (log 9). A release clears the flag and the mode is the evaluated one with its entry
commands, position kept and, into AUTO, the command too; with the flag clear already it changes nothing. Outside 1..N both are
refused BAD_OVEN. SET_MAIN (R130, R132): BAD_VALUE for an action above 1; taken, every value is written as clamped and the
mode evaluated. In MANUAL the position is sent and becomes the command, even if MANUAL was in force, and is sent once (log 9);
else nothing is sent and the command stays. -/
def Obligations.ManualValvesAndMainAreSet : Prop :=
  (∀ (s : State) (tag n : Byte) (p : Half), ShapeLaw s → s.Free → tag ≠ 0 →
    (¬(1 ≤ n.toNat ∧ n.toNat ≤ s.ovenCount) →
      (∃ t, exec (.setValveManual tag n p) s = .next t ∧ FrameOf (.setValveManual tag n p) [.sl] s t ∧
        Answered s t ⟨0x53, tag, n :: halfBytes p⟩ .badOven []) ∧
      (∃ t, exec (.releaseValve tag n) s = .next t ∧ FrameOf (.releaseValve tag n) [.sl] s t ∧
        Answered s t ⟨0x54, tag, [n]⟩ .badOven [])) ∧
    (1 ≤ n.toNat → n.toNat ≤ s.ovenCount →
      ((s.oven n.toNat).phase ≠ .stalled → ((s.oven n.toNat).phase = .pushing → s.pastSpot n.toNat = false) →
        s.FieldRoom 2 →
        ∃ t, exec (.setValveManual tag n p) s = .next t ∧ FrameOf (.setValveManual tag n p) [.ovens, .fl, .sl] s t ∧
          t.ovens = s.ovens.set (n.toNat - 1) ((s.oven n.toNat).setValve { (s.oven n.toNat).valve with
            mode := .manual, manualFlag := true, manualPosition := min 1023 p.toNat, command := min 1023 p.toNat
            aspiration := (s.oven n.toNat).valve.mode == .manual && (s.oven n.toNat).valve.aspiration }) ∧
          Issued s t (⟨servingNode n.toNat, .valve n.toNat (min 1023 p.toNat)⟩ ::
            (if (s.oven n.toNat).valve.mode ≠ .manual ∧ (s.oven n.toNat).valve.aspiration = true
              then [⟨servingNode n.toNat, .aspiration n.toNat false⟩] else [])) ∧
          Answered s t ⟨0x53, tag, n :: halfBytes p⟩ .ok (n :: (half (min 1023 p.toNat) ++ [4]))) ∧
      ((s.oven n.toNat).phase = .stalled ∨ ((s.oven n.toNat).phase = .pushing ∧ s.pastSpot n.toNat = true) →
        (s.oven n.toNat).valve.mode = .closed →
        ∃ t, exec (.setValveManual tag n p) s = .next t ∧ FrameOf (.setValveManual tag n p) [.ovens, .sl] s t ∧
          t.ovens = s.ovens.set (n.toNat - 1) ((s.oven n.toNat).setValve { (s.oven n.toNat).valve with
            manualFlag := true, manualPosition := min 1023 p.toNat }) ∧
          Answered s t ⟨0x53, tag, n :: halfBytes p⟩ .ok (n :: (half (min 1023 p.toNat) ++ [2]))) ∧
      ((s.oven n.toNat).valve.manualFlag = true → s.FieldRoom 2 →
        ∃ t, exec (.releaseValve tag n) s = .next t ∧ FrameOf (.releaseValve tag n) [.ovens, .fl, .sl] s t ∧
          OthersKept s t n.toNat ∧
          t.oven n.toNat = (s.oven n.toNat).setValve
            (turnTo n.toNat (t.valveMode n.toNat) { (s.oven n.toNat).valve with manualFlag := false }).1 ∧
          (t.oven n.toNat).valve.mode = t.valveMode n.toNat ∧
          (t.oven n.toNat).valve.manualPosition = (s.oven n.toNat).valve.manualPosition ∧
          ((t.oven n.toNat).valve.mode = .auto →
            (t.oven n.toNat).valve.command = (s.oven n.toNat).valve.command) ∧
          Issued s t (turnTo n.toNat (t.valveMode n.toNat) { (s.oven n.toNat).valve with manualFlag := false }).2 ∧
          Answered s t ⟨0x54, tag, [n]⟩ .ok [n, byteOf (t.oven n.toNat).valve.mode.code]) ∧
      ((s.oven n.toNat).valve.manualFlag = false →
        ∃ t, exec (.releaseValve tag n) s = .next t ∧ FrameOf (.releaseValve tag n) [.sl] s t ∧
          Answered s t ⟨0x54, tag, [n]⟩ .ok [n, byteOf (s.oven n.toNat).valve.mode.code]))) ∧
  (∀ (s : State) (tag g k l a : Byte) (sp pos : Half), s.Free → tag ≠ 0 →
    (1 < a.toNat → ∃ t, exec (.setMain tag sp g k l a pos) s = .next t ∧
      FrameOf (.setMain tag sp g k l a pos) [.sl] s t ∧
      Answered s t ⟨0x55, tag, halfBytes sp ++ [g, k, l, a] ++ halfBytes pos⟩ .badValue []) ∧
    (a.toNat ≤ 1 → s.FieldRoom 1 →
      ∃ t, exec (.setMain tag sp g k l a pos) s = .next t ∧ FrameOf (.setMain tag sp g k l a pos) [.pr, .fl, .sl] s t ∧
        t.pr = { s.pr with main := { s.pr.main with
          setpoint := max (-200) (min 200 sp.toInt), gain := min 16 (g.toNat + 1), shift := min 15 k.toNat
          stepLimit := max 1 (min 64 l.toNat), manualFlag := a == 1, manualPosition := min 1023 pos.toNat
          mode := if a = 1 then .manual
            else if s.bk.mode = .config ∨ s.live .main = false ∨ s.pr.main.pressure = none then .hold else .auto
          command := if a = 1 then min 1023 pos.toNat else s.pr.main.command } } ∧
        Issued s t (if a = 1 then [⟨.main, .mainValve (min 1023 pos.toNat)⟩] else []) ∧
        Answered s t ⟨0x55, tag, halfBytes sp ++ [g, k, l, a] ++ halfBytes pos⟩ .ok
          (signed t.pr.main.setpoint ++ [byteOf (t.pr.main.gain - 1), byteOf t.pr.main.shift, byteOf t.pr.main.stepLimit, a] ++
            half t.pr.main.manualPosition ++ [byteOf t.pr.main.mode.code])))

/-- A node report's samples at PR (R117, R126, R127). Each oven of the node within 1..N has its readings recorded. Where its
pressure turns valid or INVALID its mode is evaluated, with that mode's entry commands; while PR has not taken the node's
return it is evaluated at every sample with the node silent, so that it stays in HOLD (R118; log 10). In AUTO the loop then
stores setpoint, trace and step, rounded to the nearest with an exact half upward and limited, moves the command by no more
than the limit and sends it; in any other mode the rest of the valve is left. Nothing else changes. The commands of several
ovens in ascending order are the model's choice (log 5). A main report (R130, R131): m and the feedback are recorded; in RUN
with the main node heard, no manual flag and m valid the mode is AUTO and the main loop steps the command within its limit and
sends it; otherwise the record alone is written, in HOLD or MANUAL. A LIVE main node is heard once its return is taken at PR;
a report before it is recorded in HOLD, whatever the mode was (R133; log 10). -/
def Obligations.SamplesRunTheLoops : Prop :=
  (∀ (s : State) (m : Fin 12) (es : List OvenEntry), ShapeLaw s → ValveLaw s → s.pins.inReset = false → es.length = 8 →
    ∃ t, exec (.ovenSample m es) s = .next t ∧ FrameOf (.ovenSample m es) [.ovens, .fl, .sl] s t ∧
      ValvesOnly s t ∧ t.fl.nodes = s.fl.nodes ∧
      (∀ n < 97, 0 < n → (n - 1) / 8 ≠ m.val ∨ s.ovenCount < n → t.oven n = s.oven n) ∧
      (∀ n < 97, 0 < n → (n - 1) / 8 = m.val → n ≤ s.ovenCount → ∀ e, es[(n - 1) % 8]? = some e →
        ∀ v : Valve, v = { (s.oven n).valve with
          feedback := min 1023 e.feedback.toNat, capOpen := e.capOpen
          lastPressure := if e.pressure = 0x8000 then none else some (max (-1000) (min 1000 e.pressure.toInt)) } →
        ∀ r : Valve × List Outgoing,
          r = (if (s.oven n).valve.lastPressure.isSome = v.lastPressure.isSome ∧ Instr.ovenNodeReturn m ∉ s.due then (v, [])
            else turnTo n (t.valveModeBy (s.hearsOven n) n) v) →
        (r.1.mode ≠ .auto ∨ r.1.lastPressure = none → (t.oven n).valve = r.1) ∧
        (∀ p, r.1.lastPressure = some p → r.1.mode = .auto →
          ∀ q : Int, q = (p - (s.setpoint (s.oven n)).1) * (s.pr.gain : Int) →
            ∀ raw : Int, raw = (2 * q + 2 ^ s.pr.shift) / 2 ^ (s.pr.shift + 1) →
            ∀ k : Valve, k = (t.oven n).valve →
            k = { r.1 with
              setpoint := (s.setpoint (s.oven n)).1
              lastStep := max (-(s.pr.stepLimit : Int)) (min (s.pr.stepLimit : Int) raw)
              trace := ⟨(s.setpoint (s.oven n)).2.1, (s.setpoint (s.oven n)).2.2.1, (s.setpoint (s.oven n)).2.2.2,
                decide (max (-(s.pr.stepLimit : Int)) (min (s.pr.stepLimit : Int) raw) ≠ raw)⟩
              command := k.command } ∧
            (k.command : Int) = max 0 (min 1023 ((r.1.command : Int) + k.lastStep)) ∧
            (k.command : Int) - r.1.command ≤ s.pr.stepLimit ∧ (r.1.command : Int) - k.command ≤ s.pr.stepLimit)) ∧
      (s.FieldRoom 16 → t.sl = s.sl ∧
        Issued s t ((((List.range 8).map (fun k => 8 * m.val + 1 + k)).filter (fun n => n ≤ s.ovenCount)).flatMap (fun n =>
          (if (s.oven n).valve.lastPressure.isSome = (t.oven n).valve.lastPressure.isSome ∧
              Instr.ovenNodeReturn m ∉ s.due then []
            else (turnTo n (t.valveModeBy (s.hearsOven n) n) (s.oven n).valve).2) ++
          (if (t.oven n).valve.mode = .auto ∧ (t.oven n).valve.lastPressure ≠ none then
            [⟨servingNode n, .valve n (t.oven n).valve.command⟩] else []))))) ∧
  (∀ (s : State) (x : MainReport), s.pins.inReset = false → s.FieldRoom 1 →
    s.pr.main.mode = s.mainModeBy s.hearsMain ∨
      (Instr.mainNodeReturn ∈ s.due ∧ (s.pr.main.manualFlag = true → s.pr.main.mode = .manual)) →
    ∃ t, exec (.mainReport x) s = .next t ∧ FrameOf (.mainReport x) [.pr, .fl] s t ∧
      t.pr.main.feedback = min 1023 x.feedback.toNat ∧
      t.pr.main.pressure = (if x.pressure = 0x8000 then none else some (max (-1000) (min 1000 x.pressure.toInt))) ∧
      t.pr = { s.pr with main := { s.pr.main with
        feedback := t.pr.main.feedback, pressure := t.pr.main.pressure, mode := t.pr.main.mode
        command := t.pr.main.command, lastStep := t.pr.main.lastStep } } ∧
      t.pr.main.mode = (if s.pr.main.manualFlag then .manual
        else if s.bk.mode = .config ∨ s.hearsMain = false ∨ x.pressure = 0x8000 then .hold else .auto) ∧
      (s.bk.mode = .config ∨ s.hearsMain = false ∨ s.pr.main.manualFlag = true ∨ x.pressure = 0x8000 →
        t.pr.main.command = s.pr.main.command ∧ t.pr.main.lastStep = s.pr.main.lastStep ∧ t.fl = s.fl) ∧
      (s.bk.mode = .run → s.hearsMain = true → s.pr.main.manualFlag = false → x.pressure ≠ 0x8000 →
        ∀ q : Int, q = (max (-1000) (min 1000 x.pressure.toInt) - s.pr.main.setpoint) * (s.pr.main.gain : Int) →
        ∀ raw : Int, raw = (2 * q + 2 ^ s.pr.main.shift) / 2 ^ (s.pr.main.shift + 1) →
        t.pr.main.mode = .auto ∧
        t.pr.main.lastStep = max (-(s.pr.main.stepLimit : Int)) (min (s.pr.main.stepLimit : Int) raw) ∧
        (t.pr.main.command : Int) = max 0 (min 1023 ((s.pr.main.command : Int) + t.pr.main.lastStep)) ∧
        Issued s t [⟨.main, .mainValve t.pr.main.command⟩]))

/-- The valve mode of an oven (R111, R171, R177): the first of the eight conditions that holds gives the mode, the last two on
the liveness FL's table gives the oven's node. A node is heard at a sample while it is LIVE and its return is not still to be
taken at PR (R118; log 10); the main node likewise at a main sample (R133; log 10). The main mode is R130's. An evaluation
that gives the mode in force changes nothing and sends nothing (R112); one that gives another sets it, with the valve command,
the aspiration and the commands of R113's table. Silence and return of an oven node or of the main node at PR (R118, R130,
R133): each of the node's ovens within 1..N, or the main, takes the mode its evaluation gives, with that mode's entry
commands, in oven order (log 5); readings are kept and nothing else changes. The main floor is withdrawn at the main node's
silence and restored at its return (R180; log 10). At the silence the node counts as silent, so that AUTO goes to HOLD, though
FL's entry be LIVE again already (log 37); at the return it is as FL's entry says. The tower node at QU (R153): its silence
changes nothing; at its return the spray and the four gates are commanded again, SPRAY on exactly while the holder awaits
spray (log 15) or is QUENCHING, a gate open exactly while its bay's car is DUMPING, or FAULTED at that bay. -/
def Obligations.SilenceAndReturnAtTheOwners : Prop :=
  (∀ (s : State) (n : Nat) (heard : Bool), 1 ≤ n → n ≤ 96 →
    s.valveModeBy heard n =
      (if (s.oven n).phase = .stalled ∨
          ((s.oven n).phase = .pushing ∧ ∃ r ∈ s.pu.push, r.oven = n ∧ r.stage ≠ .spot) then .closed
        else if (s.oven n).valve.manualFlag = true then .manual
        else if s.bk.mode = .config then .hold
        else if (s.oven n).phase = .empty then .closed
        else if (s.oven n).phase = .charging then .aspirate
        else if ((s.oven n).doorP.state = .off ∧ (s.oven n).doorP.unexpected = true) ∨
          ((s.oven n).doorC.state = .off ∧ (s.oven n).doorC.unexpected = true) then .aspirate
        else if heard = false ∨ (s.oven n).valve.lastPressure = none then .hold
        else .auto) ∧
    (∀ y : Node, y.id = 16 + (n - 1) / 8 → ∀ m : Fin 12, m.val = (n - 1) / 8 →
      s.valveMode n = s.valveModeBy ((s.fl.entry y).liveness == .live) n ∧
      (s.hearsOven n = true ↔ (s.fl.entry y).liveness = .live ∧ Instr.ovenNodeReturn m ∉ s.due)) ∧
    s.mainModeBy heard = (if s.pr.main.manualFlag then .manual
      else if s.bk.mode = .config ∨ heard = false ∨ s.pr.main.pressure = none then .hold else .auto) ∧
    s.mainMode = s.mainModeBy ((s.fl.entry .main).liveness == .live) ∧
    (s.hearsMain = true ↔ (s.fl.entry .main).liveness = .live ∧ Instr.mainNodeReturn ∉ s.due)) ∧
  (∀ (n : Nat) (m : ValveMode) (v : Valve) (y : Node), 1 ≤ n → n ≤ 96 → y.id = 16 + (n - 1) / 8 →
    (m = v.mode → turnTo n m v = (v, [])) ∧
    (m ≠ v.mode → ∀ off : List Outgoing, off = (if v.aspiration then [⟨y, .aspiration n false⟩] else []) →
      (m = .closed → turnTo n m v =
        ({ v with mode := .closed, command := 0, aspiration := false }, ⟨y, .valve n 0⟩ :: off)) ∧
      (m = .aspirate → turnTo n m v =
        ({ v with mode := .aspirate, command := 1023, aspiration := true }, [⟨y, .valve n 1023⟩, ⟨y, .aspiration n true⟩])) ∧
      (m = .manual → turnTo n m v =
        ({ v with mode := .manual, command := v.manualPosition, aspiration := false },
          ⟨y, .valve n v.manualPosition⟩ :: off)) ∧
      (m = .auto → turnTo n m v = ({ v with mode := .auto, aspiration := false }, off)) ∧
      (m = .hold → turnTo n m v = ({ v with mode := .hold }, [])))) ∧
  ((∀ (s : State) (m : Fin 12) (c : Instr) (heard : Bool),
    (c = .ovenNodeSilence m ∧ heard = false) ∨
      (c = .ovenNodeReturn m ∧ heard = ((s.fl.entry (.oven m)).liveness == .live)) → ShapeLaw s → s.pins.inReset = false →
    ∃ t, exec c s = .next t ∧ FrameOf c [.ovens, .fl, .sl] s t ∧ t.fl.nodes = s.fl.nodes ∧
      (∀ n < 97, 0 < n → (n - 1) / 8 ≠ m.val ∨ s.ovenCount < n → t.oven n = s.oven n) ∧
      (∀ n < 97, 0 < n → (n - 1) / 8 = m.val → n ≤ s.ovenCount →
        t.oven n = (s.oven n).setValve (turnTo n (s.valveModeBy heard n) (s.oven n).valve).1 ∧
        (t.oven n).valve.mode = t.valveModeBy heard n) ∧
      (s.FieldRoom 16 → t.sl = s.sl ∧
        Issued s t ((((List.range 8).map (fun k => 8 * m.val + 1 + k)).filter (fun n => n ≤ s.ovenCount)).flatMap (fun n =>
          (turnTo n (s.valveModeBy heard n) (s.oven n).valve).2)))) ∧
  (∀ s : State, s.pins.inReset = false → (s.pr.main.manualFlag = true → s.pr.main.mode = .manual) →
    (∃ t, exec .mainNodeSilence s = .next t ∧ FrameOf .mainNodeSilence [.pr] s t ∧
      t.pr = { s.pr with
        floorOn := false, main := { s.pr.main with mode := if s.pr.main.manualFlag then .manual else .hold } }) ∧
    (∃ t, exec .mainNodeReturn s = .next t ∧ FrameOf .mainNodeReturn [.pr] s t ∧
      t.pr = { s.pr with
        floorOn := (s.fl.entry .main).liveness == .live, main := { s.pr.main with mode := s.mainMode } }))) ∧
  (∀ s : State, s.pins.inReset = false → s.FieldRoom 5 →
    exec .towerNodeSilence s = .next (s.passed .towerNodeSilence) ∧
    ∃ t, exec .towerNodeReturn s = .next t ∧ FrameOf .towerNodeReturn [.fl] s t ∧
      ∃ spray gate1 gate2 gate3 gate4 : Bool,
        Issued s t [⟨.tower, .spray spray⟩, ⟨.tower, .gate 1 gate1⟩, ⟨.tower, .gate 2 gate2⟩, ⟨.tower, .gate 3 gate3⟩,
          ⟨.tower, .gate 4 gate4⟩] ∧
        (spray = true ↔ ∃ c ∈ allCars, s.qu.holder = some c ∧
          (((s.car c).state = .toTower ∧ (s.car c).target = none) ∨ (s.car c).state = .quenching)) ∧
        ∀ g ∈ [(1, gate1), (2, gate2), (3, gate3), (4, gate4)], (g.2 = true ↔
          ∃ c ∈ allCars, (s.qu.bay g.1).car = some c ∧
            ((s.car c).state = .dumping ∨ ((s.car c).state = .faulted ∧ (s.car c).position = .bay g.1))))

/-! ### Quench cars, tower and wharf -/

/-- CAR_SERVICE IN (R140): BAD_VALUE for a car other than 1 or 2; a car in service is left; a car OUT_OF_SERVICE whose node is
not live is refused NODE_SILENT, and else becomes PARKED where it was last reported. Said with no slot pending, so that no
push takes it at once. CAR_SERVICE OUT (R141): BAD_VALUE for a car other than 1 or 2; OUT_OF_SERVICE changes nothing; PARKED
goes out; a FAULTED car is recovered: its grant is released and handed on to the first waiter, which moves to TOWER (R150);
its load is discarded; its bay is OCCUPIED with its gate closed if it stands there, and else FREE and handed on to the first
car waiting for a bay, which moves to it (R156); a stall's claim is cleared and its timers stop. Under ESTOP# both moves are
held, with HALT to a car still on one (R161; log 36). Any other state is BUSY. That the bay made OCCUPIED names no reserving
car is the model's choice (log 18). -/
def Obligations.CarServiceTakesCarsInAndOut : Prop :=
  (∀ (s : State) (tag b : Byte), s.Free → tag ≠ 0 →
    (b ≠ 1 → b ≠ 2 → ∃ t, exec (.carServiceIn tag b) s = .next t ∧ FrameOf (.carServiceIn tag b) [.sl] s t ∧
      Answered s t ⟨0x62, tag, [b, 1]⟩ .badValue []) ∧
    (∀ c : Car, c.code = b.toNat →
      ((s.car c).state ≠ .outOfService → ∃ t, exec (.carServiceIn tag b) s = .next t ∧
        FrameOf (.carServiceIn tag b) [.sl] s t ∧
        Answered s t ⟨0x62, tag, [b, 1]⟩ .ok [b, byteOf (s.car c).state.code, byteOf (s.car c).position.code]) ∧
      ((s.car c).state = .outOfService → s.live (.car c) = false → ∃ t, exec (.carServiceIn tag b) s = .next t ∧
        FrameOf (.carServiceIn tag b) [.sl] s t ∧ Answered s t ⟨0x62, tag, [b, 1]⟩ .nodeSilent []) ∧
      ((s.car c).state = .outOfService → s.live (.car c) = true → s.su.slotFlag = false →
        ∃ t, exec (.carServiceIn tag b) s = .next t ∧ FrameOf (.carServiceIn tag b) [.qu, .sl] s t ∧
          t.qu = s.qu.setCar c { s.car c with state := .parked } ∧
          Answered s t ⟨0x62, tag, [b, 1]⟩ .ok [b, 1, byteOf (s.car c).position.code]))) ∧
  (∀ (s : State) (tag b : Byte), ShapeLaw s → s.Free → tag ≠ 0 →
    (b ≠ 1 → b ≠ 2 → ∃ t, exec (.carServiceOut tag b) s = .next t ∧ FrameOf (.carServiceOut tag b) [.sl] s t ∧
      Answered s t ⟨0x62, tag, [b, 0]⟩ .badValue []) ∧
    (∀ c : Car, c.code = b.toNat →
      ((s.car c).state = .outOfService → ∃ t, exec (.carServiceOut tag b) s = .next t ∧
        FrameOf (.carServiceOut tag b) [.sl] s t ∧ Answered s t ⟨0x62, tag, [b, 0]⟩ .ok [b, 0, 0]) ∧
      ((s.car c).state = .parked → ∃ t, exec (.carServiceOut tag b) s = .next t ∧
        FrameOf (.carServiceOut tag b) [.qu, .sl] s t ∧
        t.qu = s.qu.setCar c { s.car c with state := .outOfService } ∧ Answered s t ⟨0x62, tag, [b, 0]⟩ .ok [b, 0, 0]) ∧
      ((s.car c).state ≠ .outOfService → (s.car c).state ≠ .parked → (s.car c).state ≠ .faulted →
        ∃ t, exec (.carServiceOut tag b) s = .next t ∧ FrameOf (.carServiceOut tag b) [.sl] s t ∧
          Answered s t ⟨0x62, tag, [b, 0]⟩ .busy []) ∧
      ((s.car c).state = .faulted → c ∉ s.qu.waiters → c ∉ s.qu.bayWaiters → s.NoticeRoom 1 → s.FieldRoom 2 →
        ∃ t, exec (.carServiceOut tag b) s = .next t ∧ FrameOf (.carServiceOut tag b) [.pu, .qu, .fl, .sl] s t ∧
          (∀ travel : Timer, travel = (if s.pins.estop then none else some s.qu.limits.travel) →
            ∀ p : QuenchUnit × List Outgoing,
              p = (if s.qu.holder ≠ some c then (s.qu, []) else match s.qu.waiters with
                | [] => ({ s.qu with holder := none }, [])
                | w :: rest => ({ s.qu with holder := some w, waiters := rest }.setCar w { s.car w with
                    state := .toTower, target := some .tower, travelTimer := travel },
                  if s.pins.estop = false then [⟨.car w, .move .tower⟩]
                    else if (s.car w).travelTimer ≠ none then [⟨.car w, .halt⟩] else [])) →
            ∀ q : QuenchUnit × List Outgoing,
              q = (match (s.car c).reservedBay with
                | none => (p.1, [])
                | some k =>
                  if (s.car c).position = .bay k then
                    (p.1.setBay k ⟨.occupied, none, some s.qu.limits.bayHold⟩, [⟨.tower, .gate k false⟩])
                  else match s.qu.bayWaiters with
                    | [] => (p.1.setBay k ⟨.free, none, none⟩, [])
                    | w :: rest => (({ p.1 with bayWaiters := rest }.setBay k ⟨.reserved, some w, none⟩).setCar w
                        { p.1.car w with
                          state := .toWharf, reservedBay := some k, target := some (.bay k), travelTimer := travel },
                      if s.pins.estop = false then [⟨.car w, .move (.bay k)⟩]
                        else if (p.1.car w).travelTimer ≠ none then [⟨.car w, .halt⟩] else [])) →
            t.qu = q.1.setCar c { s.car c with
              state := .outOfService, load := none, hotLate := false, reservedBay := none, travelTimer := none
              hotTimer := none, quenchTimer := none, drainTimer := none, dumpTimer := none } ∧
            Issued s t (p.2 ++ q.2)) ∧
          t.pu = { s.pu with stall := s.pu.stall.map (fun r =>
            if r.car = c then { r with claimed := false } else r) } ∧
          Noticed s t (match (s.car c).load with
            | some l => [.loadDiscarded c l.oven l.number]
            | none => []) ∧
          Replied t ⟨0x62, tag, [b, 0]⟩ .ok [b, 0, byteOf (bits [s.qu.holder == some c, (s.car c).load.isSome,
            (s.car c).reservedBay.any (fun k => (s.car c).position == .bay k),
            (s.car c).reservedBay.any (fun k => (s.car c).position != .bay k),
            s.pu.stall.any (fun r => r.car == c && r.claimed)])])))

/-- Car reports (R139, R144 to R146, R149, R155): the readings are always recorded; a car out of service or FAULTED acts on
none. Without a fault code and not off its spot, an arrival ends the move and acts as its state's rule says; a loaded report
at RAM makes a SPOTTED claimed car, of a push or of a stall made there, LOADED; an empty one ends a dump. An arrival at the
spot that makes the conditions of SPOT hold together completes the stage into ISOLATE (R62, R63). A report of a car in service
that is no fault, no off-spot position, no arrival, no loading and no end of a dump is recorded and nothing else. Said of a
dump's end with no slot pending. -/
def Obligations.CarReportsMoveTheCycle : Prop :=
  ∀ (s : State) (c : Car) (x : CarReport), ShapeLaw s → s.pins.inReset = false → x.position.wf = true →
    ∀ k : CarRecord, k = { s.car c with position := x.position, status := x.status, fault := x.fault.toNat } →
    s.FieldRoom 1 → s.NoticeRoom 1 → s.NoticesWait →
    ((s.car c).state = .outOfService ∨ (s.car c).state = .faulted →
      ∃ t, exec (.carReport c x) s = .next t ∧ FrameOf (.carReport c x) [.qu] s t ∧ t.qu = s.qu.setCar c k) ∧
    (x.fault = 0 →
      ((s.car c).state = .toSpot → (s.car c).target = some x.position → (∃ n, x.position = .oven n) → x.status = .ready →
        (∀ r, s.pu.push = some r → r.stage ≠ .spot ∨ s.pu.pusher.position ≠ r.oven ∨ s.pu.guide.position ≠ r.oven ∨
          s.pu.guide.latched = false ∨ r.claimed = false ∨ (r.car = c ∧ x.position ≠ .oven r.oven)) →
        ∃ t, exec (.carReport c x) s = .next t ∧ FrameOf (.carReport c x) [.qu] s t ∧
          t.qu = s.qu.setCar c { k with state := .spotted, target := none, travelTimer := none }) ∧
      ((s.car c).state ≠ .outOfService → (s.car c).state ≠ .faulted →
        ((s.car c).state = .spotted ∨ (s.car c).state = .loaded →
          (∀ r, s.pu.push = some r → r.car = c → r.claimed = true → x.position = .oven r.oven) ∧
          (s.pu.push = none → ∀ r, s.pu.stall = some r → r.car = c → r.claimed = true → x.position = .oven r.oven)) →
        (∀ l, (s.car c).target = some l → x.position ≠ l ∨ ((∃ n, l = .oven n) ∧ x.status ≠ .ready)) →
        ((s.car c).state = .spotted → x.status = .loaded →
          (∀ r, s.pu.push = some r → r.car = c → r.claimed = true → r.stage ≠ .ram) ∧
          (s.pu.push = none → ∀ r, s.pu.stall = some r → r.car = c → r.claimed = true → r.stage ≠ .ram)) →
        ((s.car c).state = .dumping → x.status = .empty → (s.car c).reservedBay = none) →
        ∃ t, exec (.carReport c x) s = .next t ∧ FrameOf (.carReport c x) [.qu] s t ∧ t.qu = s.qu.setCar c k) ∧
      (∀ r, s.pu.push = some r → PushLaw s → r.stage = .spot → r.car = c → r.claimed = true → s.pu.pusher.position = r.oven →
        s.pu.guide.position = r.oven → s.pu.guide.latched = true → (s.car c).state = .toSpot →
        (s.car c).target = some (.oven r.oven) → x.position = .oven r.oven → x.status = .ready → s.FieldRoom 3 →
        ∃ t, exec (.carReport c x) s = .next t ∧ FrameOf (.carReport c x) [.ovens, .pu, .qu, .fl] s t ∧
          t.qu = s.qu.setCar c { k with state := .spotted, target := none, travelTimer := none } ∧
          t.pu = { s.pu with push := some { r with
            stage := .isolate, entered := s.bk.seconds, timer := s.pu.limits.isolate } } ∧
          OthersKept s t r.oven ∧
          t.oven r.oven = (s.oven r.oven).setValve (turnTo r.oven .closed (s.oven r.oven).valve).1 ∧
          Issued s t ((turnTo r.oven .closed (s.oven r.oven).valve).2 ++ [⟨servingNode r.oven, .cap r.oven true⟩])) ∧
      ((s.car c).state = .toTower → c ∈ s.qu.waiters → (s.car c).target = some .approachT → x.position = .approachT →
        ∃ t, exec (.carReport c x) s = .next t ∧ FrameOf (.carReport c x) [.qu] s t ∧
          t.qu = s.qu.setCar c { k with state := .waitingTower, target := none, travelTimer := none }) ∧
      ((s.car c).state = .toTower → s.qu.holder = some c → (s.car c).target = some .tower → x.position = .tower →
        ∃ t, exec (.carReport c x) s = .next t ∧ FrameOf (.carReport c x) [.qu, .fl] s t ∧
          t.qu = s.qu.setCar c { k with target := none, travelTimer := none } ∧ Issued s t [⟨.tower, .spray true⟩]) ∧
      (∀ b, (s.car c).reservedBay = some b → (s.car c).state = .toWharf → (s.car c).target = some (.bay b) →
        x.position = .bay b →
        ∃ t, exec (.carReport c x) s = .next t ∧ FrameOf (.carReport c x) [.qu, .fl] s t ∧
          t.qu = s.qu.setCar c { k with
            state := .dumping, target := none, travelTimer := none, dumpTimer := some s.qu.limits.dump } ∧
          Issued s t [⟨.tower, .gate b true⟩]) ∧
      ((s.car c).state = .waitingBay → (s.car c).target = some .approachW → x.position = .approachW →
        ∃ t, exec (.carReport c x) s = .next t ∧ FrameOf (.carReport c x) [.qu] s t ∧
          t.qu = s.qu.setCar c { k with target := none, travelTimer := none }) ∧
      (∀ r, s.pu.push = some r → (s.car c).state = .spotted → (s.car c).target = none → r.car = c → r.claimed = true →
        r.stage = .ram → x.position = .oven r.oven → x.status = .loaded →
        ∃ t, exec (.carReport c x) s = .next t ∧ FrameOf (.carReport c x) [.qu] s t ∧
          t.qu = s.qu.setCar c { k with
            state := .loaded, load := some ⟨r.number, r.oven, s.bk.seconds⟩, hotTimer := some s.qu.limits.hotCoke }) ∧
      (s.pu.push = none → ∀ r, s.pu.stall = some r → (s.car c).state = .spotted → (s.car c).target = none → r.car = c →
        r.claimed = true → r.stage = .ram → x.position = .oven r.oven → x.status = .loaded →
        ∃ t, exec (.carReport c x) s = .next t ∧ FrameOf (.carReport c x) [.qu] s t ∧
          t.qu = s.qu.setCar c { k with
            state := .loaded, load := some ⟨r.number, r.oven, s.bk.seconds⟩, hotTimer := some s.qu.limits.hotCoke }) ∧
      (∀ b, (s.car c).reservedBay = some b → ∀ l, (s.car c).load = some l → (s.car c).state = .dumping →
        (s.car c).target = none → x.status = .empty → s.su.slotFlag = false →
        ∃ t, exec (.carReport c x) s = .next t ∧ FrameOf (.carReport c x) [.qu, .fl, .sl] s t ∧
          t.qu = (s.qu.setCar c { k with state := .parked, dumpTimer := none, load := none, reservedBay := none }).setBay b
            ⟨.occupied, none, some s.qu.limits.bayHold⟩ ∧
          Issued s t [⟨.tower, .gate b false⟩] ∧ NoticesOnly s t [.loadDumped c b l.oven l.number]))

/-- A car in service and not FAULTED becomes FAULTED (R145, R157, R159) on a fault code, off its spot while claimed, when its
travel timer runs out with a target, when its dump timer runs out DUMPING, or when its node falls silent. Its move ends, with
HALT if its travel timer still stood, one run out to 0 included (log 25); it leaves both waiting lists; it keeps load,
hot-coke timer, grant and reservation, and CAR_FAULT is raised. Unclaimed by a push, it touches nothing else. Claimed, it
aborts the push with cause CAR (R70 to R74): SPOT and ISOLATE are undone with the car left FAULTED, DOORS_OFF retreats and
RETREAT goes on with no car claimed, RAM stalls with the car claimed. Said of SPOT and ISOLATE with no slot pending; the order
of different blocks' commands is the model's (log 5). Where the car timers and a car node's silence do not fault or end
anything they pass, or only clear a timer that has run out: in CONFIG, with time left or not running, and for a silent car out
of service or FAULTED (R157, R159, R206). R180 has QU record the silence of a car out of service; that nothing of QU changes
there, FL's entry showing it, is the model's reading (log 35, DEDUCED). -/
def Obligations.CarFaultsHaltTheCar : Prop :=
  (∀ (s : State) (c : Car) (e : Instr) (y : FaultCause) (k : CarRecord), ShapeLaw s → PushLaw s → s.pins.inReset = false →
    (s.car c).state ≠ .outOfService → (s.car c).state ≠ .faulted →
    ((∃ x : CarReport, e = .carReport c x ∧ x.position.wf = true ∧
        k = { s.car c with position := x.position, status := x.status, fault := x.fault.toNat } ∧
        ((x.fault ≠ 0 ∧ y = .report) ∨
          (x.fault = 0 ∧ y = .offSpot ∧ ((s.car c).state = .spotted ∨ (s.car c).state = .loaded) ∧
            ((∃ r, s.pu.push = some r ∧ r.car = c ∧ r.claimed = true ∧ x.position ≠ .oven r.oven) ∨
              (∃ r, s.pu.stall = some r ∧ r.car = c ∧ r.claimed = true ∧ x.position ≠ .oven r.oven))))) ∨
      (e = .travelTimerExpiry c ∧ y = .travel ∧ k = s.car c ∧ s.bk.mode = .run ∧ k.travelTimer = some 0 ∧ k.target ≠ none) ∨
      (e = .dumpTimerExpiry c ∧ y = .dump ∧ k = s.car c ∧ s.bk.mode = .run ∧ k.dumpTimer = some 0 ∧ k.state = .dumping) ∨
      (e = .carNodeSilence c ∧ y = .silent ∧ k = s.car c)) →
    ∃ t, exec e s = .next t ∧ FrameOf e [.ovens, .su, .pu, .qu, .fl, .sl] s t ∧
      t.car c = { k with
        state := .faulted, lastFault := some y, target := none, travelTimer := none, quenchTimer := none
        drainTimer := none, dumpTimer := none } ∧
      t.qu.holder = s.qu.holder ∧ t.qu.bays = s.qu.bays ∧
      ∀ cs : List Outgoing, cs = (if k.target ≠ none ∧ k.travelTimer ≠ none then [⟨.car c, .halt⟩] else []) ++
          (if k.state = .quenching then [⟨.tower, .spray false⟩] else []) →
      ((∀ r, s.pu.push = some r → r.car = c → r.claimed = false) → s.FieldRoom 2 → s.NoticeRoom 1 → s.NoticesWait →
        FrameOf e [.qu, .fl, .sl] s t ∧
        t.qu = { s.qu with waiters := s.qu.waiters.erase c, bayWaiters := s.qu.bayWaiters.erase c }.setCar c (t.car c) ∧
        Issued s t cs ∧ NoticesOnly s t [.carFault c y k.fault k.state]) ∧
      (∀ r, s.pu.push = some r → r.car = c → r.claimed = true →
        (r.stage = .spot ∨ r.stage = .isolate → s.su.slotFlag = false) → s.FieldRoom 7 → s.NoticeRoom 3 →
        s.NoticesWait → ∀ v : Valve, v = (s.oven r.oven).valve →
        t.qu = { s.qu with waiters := s.qu.waiters.erase c, bayWaiters := s.qu.bayWaiters.erase c }.setCar c (t.car c) ∧
        OthersKept s t r.oven ∧
        (r.stage = .spot ∨ r.stage = .isolate →
          t.pu = { s.pu with push := none } ∧ t.su = s.su ∧
          t.oven r.oven = { s.oven r.oven with phase := .ready, valve := (turnTo r.oven (t.valveMode r.oven) v).1 } ∧
          Issued s t (cs ++ [⟨.pusher, .halt⟩, ⟨.guide, .halt⟩, ⟨servingNode r.oven, .cap r.oven false⟩] ++
            (turnTo r.oven (t.valveMode r.oven) v).2) ∧
          NoticesOnly s t [.carFault c y k.fault k.state, .pushAborted r.number r.oven r.stage .car]) ∧
        (r.stage = .doorsOff →
          t.pu = { s.pu with push := some { r with
            claimed := false, abortCause := some .car, stage := .retreat, entered := s.bk.seconds
            timer := s.pu.limits.doorsOn } } ∧
          t.su = s.su ∧ t.oven r.oven = s.oven r.oven ∧
          Issued s t (cs ++ [⟨.pusher, .replace⟩, ⟨.guide, .replace⟩]) ∧
          NoticesOnly s t [.carFault c y k.fault k.state]) ∧
        (r.stage = .ram →
          t.pu = { s.pu with
            push := none
            stall := some {
              oven := r.oven, number := r.number, origin := r.origin, car := c, claimed := true, stage := .ram, cause := .car
              firstCause := none, peakForce := r.peakForce, second := s.bk.seconds } } ∧
          t.su = (if s.su.mode = .auto then
            { s.su with mode := .paused, accumulator := 0, carriesDue := 0, slotFlag := false }
            else { s.su with mode := .paused }) ∧
          t.oven r.oven = { s.oven r.oven with phase := .stalled, valve := (turnTo r.oven .closed v).1 } ∧
          Issued s t (cs ++ [⟨.pusher, .ramHalt⟩, ⟨.guide, .halt⟩] ++ (turnTo r.oven .closed v).2) ∧
          NoticesOnly s t ([.carFault c y k.fault k.state, .stalled r.number r.oven .ram .car none] ++
            (if s.su.mode = .paused then [] else [.schedulePaused 2 0]))) ∧
        (r.stage = .retreat →
          t.pu = { s.pu with push := some { r with claimed := false } } ∧ t.su = s.su ∧ t.oven r.oven = s.oven r.oven ∧
          Issued s t cs ∧ NoticesOnly s t [.carFault c y k.fault k.state]))) ∧
  (∀ (s : State) (c : Car), s.pins.inReset = false →
    (s.bk.mode = .config ∨ (s.car c).quenchTimer ≠ some 0 →
      exec (.quenchTimerExpiry c) s = .next (s.passed (.quenchTimerExpiry c))) ∧
    (s.bk.mode = .config ∨ (s.car c).drainTimer ≠ some 0 →
      exec (.drainTimerExpiry c) s = .next (s.passed (.drainTimerExpiry c))) ∧
    (s.bk.mode = .config ∨ (s.car c).dumpTimer ≠ some 0 →
      exec (.dumpTimerExpiry c) s = .next (s.passed (.dumpTimerExpiry c))) ∧
    (s.bk.mode = .config ∨ (s.car c).travelTimer ≠ some 0 →
      exec (.travelTimerExpiry c) s = .next (s.passed (.travelTimerExpiry c))) ∧
    (s.bk.mode = .config ∨ (s.car c).hotTimer ≠ some 0 →
      exec (.hotCokeTimerExpiry c) s = .next (s.passed (.hotCokeTimerExpiry c))) ∧
    (s.bk.mode = .run →
      ((s.car c).quenchTimer = some 0 → (s.car c).state ≠ .quenching →
        exec (.quenchTimerExpiry c) s =
          .next ((s.passed (.quenchTimerExpiry c)).setCar c { s.car c with quenchTimer := none })) ∧
      ((s.car c).drainTimer = some 0 → (s.car c).state ≠ .draining →
        exec (.drainTimerExpiry c) s =
          .next ((s.passed (.drainTimerExpiry c)).setCar c { s.car c with drainTimer := none })) ∧
      ((s.car c).dumpTimer = some 0 → (s.car c).state ≠ .dumping →
        exec (.dumpTimerExpiry c) s =
          .next ((s.passed (.dumpTimerExpiry c)).setCar c { s.car c with dumpTimer := none })) ∧
      ((s.car c).travelTimer = some 0 →
        (s.car c).target = none ∨ (s.car c).state = .outOfService ∨ (s.car c).state = .faulted →
        exec (.travelTimerExpiry c) s =
          .next ((s.passed (.travelTimerExpiry c)).setCar c { s.car c with travelTimer := none }))) ∧
    ((s.car c).state = .outOfService ∨ (s.car c).state = .faulted →
      exec (.carNodeSilence c) s = .next (s.passed (.carNodeSilence c))))

/-- The quench (R149, R151, R152, R158): a tower report is recorded, and one of spray on naming the holder that awaits it
begins the quench, a car awaiting spray being one TO_TOWER with the grant and no move target (log 15); its expiry sends SPRAY
off and begins the drain; the drain's expiry hands the grant on and sends the car to the lowest-numbered FREE bay, or to wait
at the wharf approach; under ESTOP# both moves are held, with HALT to a car still on a move (R161; log 36); a hot-coke timer
that runs out sets the flag and raises HOT_COKE_LATE. A bay's hold timer running out (R156) makes the bay FREE with no one
waiting, and else hands it to the first car of the bay waiting list, which moves to it, or, under ESTOP#, whose move is held,
with HALT if a travel timer of it still runs (R161; log 36); in CONFIG or with time left it passes. -/
def Obligations.TowerQuenchesAndBaysAreHandedOn : Prop :=
  (∀ (s : State) (c : Car) (x : TowerReport), ShapeLaw s → s.pins.inReset = false → s.FieldRoom 2 →
    (∀ q : QuenchUnit, q = { s.qu with sprayReported := x.spray, carInTower := x.carInTower } →
      (x.spray = true → x.carInTower = some c → s.qu.holder = some c → (s.car c).state = .toTower → (s.car c).target = none →
        ∃ t, exec (.towerReport x) s = .next t ∧ FrameOf (.towerReport x) [.qu] s t ∧
          t.qu = q.setCar c { s.car c with
            state := .quenching, quenchTimer := some s.qu.limits.quench, hotTimer := none, hotLate := false }) ∧
      (x.spray = false ∨ x.carInTower = none ∨
        (x.carInTower = some c ∧
          (s.qu.holder ≠ some c ∨ (s.car c).state ≠ .toTower ∨ (s.car c).target ≠ none)) →
        ∃ t, exec (.towerReport x) s = .next t ∧ FrameOf (.towerReport x) [.qu] s t ∧ t.qu = q)) ∧
    (s.bk.mode = .run → (s.car c).quenchTimer = some 0 → (s.car c).state = .quenching →
      ∃ t, exec (.quenchTimerExpiry c) s = .next t ∧ FrameOf (.quenchTimerExpiry c) [.qu, .fl] s t ∧
        t.qu = s.qu.setCar c { s.car c with
          state := .draining, quenchTimer := none, drainTimer := some s.qu.limits.drain } ∧
        Issued s t [⟨.tower, .spray false⟩]) ∧
    (s.bk.mode = .run → (s.car c).drainTimer = some 0 → (s.car c).state = .draining → s.qu.holder = some c →
      c ∉ s.qu.waiters →
      ∀ travel : Timer, travel = (if s.pins.estop then none else some s.qu.limits.travel) →
      ∀ first : List Outgoing, first = (match s.qu.waiters.head? with
        | some w => if s.pins.estop = false then [⟨.car w, .move .tower⟩]
          else if (s.car w).travelTimer ≠ none then [⟨.car w, .halt⟩] else []
        | none => []) →
      ∀ halt : List Outgoing, halt = (if (s.car c).travelTimer ≠ none then [⟨.car c, .halt⟩] else []) →
      ∃ t, exec (.drainTimerExpiry c) s = .next t ∧ FrameOf (.drainTimerExpiry c) [.qu, .fl] s t ∧
        ∀ q : QuenchUnit, q = (match s.qu.waiters with
          | [] => { s.qu with holder := none }
          | w :: rest => { s.qu with holder := some w, waiters := rest }.setCar w { s.car w with
              state := .toTower, target := some .tower, travelTimer := travel }) →
        (∀ b < 5, 0 < b → (s.qu.bay b).state = .free → (∀ a < b, 0 < a → (s.qu.bay a).state ≠ .free) →
          t.qu = (q.setBay b ⟨.reserved, some c, none⟩).setCar c { s.car c with
            state := .toWharf, drainTimer := none, reservedBay := some b, target := some (.bay b)
            travelTimer := travel } ∧
          Issued s t (first ++ (if s.pins.estop = false then [⟨.car c, .move (.bay b)⟩] else halt))) ∧
        ((∀ b < 5, 0 < b → (s.qu.bay b).state ≠ .free) →
          t.qu = { q with bayWaiters := s.qu.bayWaiters ++ [c] }.setCar c { s.car c with
            state := .waitingBay, drainTimer := none, target := some .approachW
            travelTimer := travel } ∧
          Issued s t (first ++ (if s.pins.estop = false then [⟨.car c, .move .approachW⟩] else halt)))) ∧
    (s.bk.mode = .run → (s.car c).hotTimer = some 0 → s.NoticeRoom 1 → s.NoticesWait →
      ∃ t, exec (.hotCokeTimerExpiry c) s = .next t ∧ FrameOf (.hotCokeTimerExpiry c) [.qu, .sl] s t ∧
        t.qu = s.qu.setCar c { s.car c with hotTimer := none, hotLate := true } ∧
        NoticesOnly s t (match (s.car c).load with
          | some l => [.hotCokeLate c l.oven l.number]
          | none => []))) ∧
  (∀ (s : State) (b : Nat), s.pins.inReset = false → 1 ≤ b → b ≤ 4 →
    (s.bk.mode = .config ∨ (s.qu.bay b).holdTimer ≠ some 0 →
      exec (.bayHoldTimerExpiry b) s = .next (s.passed (.bayHoldTimerExpiry b))) ∧
    (s.bk.mode = .run → (s.qu.bay b).holdTimer = some 0 →
      (s.qu.bayWaiters = [] →
        ∃ t, exec (.bayHoldTimerExpiry b) s = .next t ∧ FrameOf (.bayHoldTimerExpiry b) [.qu] s t ∧
          t.qu = s.qu.setBay b ⟨.free, none, none⟩) ∧
      (∀ w, s.qu.bayWaiters.head? = some w → s.FieldRoom 1 →
        ∃ t, exec (.bayHoldTimerExpiry b) s = .next t ∧ FrameOf (.bayHoldTimerExpiry b) [.qu, .fl] s t ∧
          t.qu = ({ s.qu with bayWaiters := s.qu.bayWaiters.tail }.setBay b ⟨.reserved, some w, none⟩).setCar w { s.car w with
            state := .toWharf, reservedBay := some b, target := some (.bay b)
            travelTimer := if s.pins.estop then none else some s.qu.limits.travel } ∧
          Issued s t (if s.pins.estop = false then [⟨.car w, .move (.bay b)⟩]
            else if (s.car w).travelTimer ≠ none then [⟨.car w, .halt⟩] else []))))

/-- The debounced ESTOP# level (R218): its assertion sets the level and is brought about at PU, SU and QU; its release clears
it and is brought about at QU. A level that does not change is no event. The order of the three in the list of events brought
about is the model's (logs 2, 5). ESTOP# at QU (R161, R162): at the assertion each car whose travel timer runs is sent HALT
and its timer stops, target and state kept; at the release each car with a target is sent MOVE with it and its timer is loaded
afresh. No car state, tower or bay record changes. The commands of car 1 before those of car 2 are the model's order (log 5).
A timer standing at 0, its expiry not yet taken, counts as running at the assertion (logs 3, 25). -/
def Obligations.EstopIsDeliveredAndActsOnCars : Prop :=
  (∀ s : State, s.pins.inReset = false →
    (s.pins.estop = false → ∃ t, exec .estopAssertion s = .next t ∧ Keeps [.pins, .due] s t ∧
      t.pins = { s.pins with estop := true } ∧
      t.due = s.due.erase .estopAssertion ++ [.estopAtPu, .estopAtSu, .estopAtQu]) ∧
    (s.pins.estop = true → exec .estopAssertion s = .next (s.passed .estopAssertion)) ∧
    (s.pins.estop = true → ∃ t, exec .estopRelease s = .next t ∧ Keeps [.pins, .due] s t ∧
      t.pins = { s.pins with estop := false } ∧ t.due = s.due.erase .estopRelease ++ [.estopReleaseAtQu]) ∧
    (s.pins.estop = false → exec .estopRelease s = .next (s.passed .estopRelease))) ∧
  (∀ s : State, s.pins.inReset = false → s.FieldRoom 2 →
    (∃ t, exec .estopAtQu s = .next t ∧ FrameOf .estopAtQu [.qu, .fl] s t ∧
      (∀ c : Car, t.car c = { s.car c with travelTimer := none }) ∧
      t.qu = { s.qu with car1 := t.qu.car1, car2 := t.qu.car2 } ∧
      Issued s t (allCars.flatMap (fun c => if (s.car c).travelTimer ≠ none then [⟨.car c, .halt⟩] else []))) ∧
    (∃ t, exec .estopReleaseAtQu s = .next t ∧ FrameOf .estopReleaseAtQu [.qu, .fl] s t ∧
      (∀ c : Car, t.car c = (if (s.car c).target = none then s.car c
        else { s.car c with travelTimer := some s.qu.limits.travel })) ∧
      t.qu = { s.qu with car1 := t.qu.car1, car2 := t.qu.car2 } ∧
      Issued s t (allCars.flatMap (fun c => match (s.car c).target with
        | some l => [⟨.car c, .move l⟩]
        | none => []))))

/-! ### The two links -/

/-- A field frame with a good CRC from a node in use whose kind, length and code fields are right is a valid report: the node
is LIVE with no quiet seconds at this second, and the report comes about at its owners (R174: PU for pusher and guide, QU for
cars and tower, PR for the main, DU, PR and PU for an oven node), with the return of a tower, main or oven node before it, and
NODE_BACK with code 0 from SILENT and 1 from NEVER_HEARD (R179, R180). A LIVE node whose window has run out untaken first
falls silent and is then brought back (R182; log 28). Any other frame changes nothing but the receiver, and while F_DE is
asserted nothing at all (R167, R169). The return's events before the report's and the order of the owners are the model's
(logs 2, 5), and so is the wait for an idle line after a whole frame, good or bad (log 27). A node's silence window (R178,
R180): an in-use LIVE entry whose quiet seconds have reached the window becomes SILENT with NODE_SILENT, and the silence is
brought about at its owners, in the model's order (logs 2, 5, 39); otherwise the event passes. -/
def Obligations.ReportsReachTheirOwnersAndSilenceIsSeen : Prop :=
  (∀ (s : State) (id kind : Byte) (body : List Byte) (received : Half), ShapeLaw s → s.pins.inReset = false →
    body.length ≤ 120 →
    ∀ c : Instr, c = .fieldFrameReceived id kind body received →
    (s.fl.fDe = true → exec c s = .next (s.passed c)) ∧
    (s.fl.fDe = false →
      (received ≠ crc (id :: byteOf body.length :: kind :: body) ∨
        (∀ x : Node, x.id = id.toNat → (s.fl.entry x).inUse = false ∨ decodeReport x kind body = none) →
        ∃ t, exec c s = .next t ∧ FrameOf c [.fl] s t ∧ t.fl = { s.fl with receiver := .skip }) ∧
      (∀ x : Node, ∀ r, decodeReport x kind body = some r → received = crc (id :: byteOf body.length :: kind :: body) →
        x.id = id.toNat → (s.fl.entry x).inUse = true →
        ∃ t, exec c s = .next t ∧ Keeps [.fl, .sl, .due] s t ∧
          t.fl = { s.fl with receiver := .skip, nodes := t.fl.nodes } ∧
          t.fl.entry x = ⟨.live, true, 0, s.bk.seconds⟩ ∧ (∀ y : Node, y ≠ x → t.fl.entry y = s.fl.entry y) ∧
          ∀ report : List Instr, report = (match r with
            | .pusher y => [.pusherReport y]
            | .guide y => [.guideReport y]
            | .car k y => [.carReport k y]
            | .tower y => [.towerReport y]
            | .main y => [.mainReport y]
            | .oven m es => [.ovenReport m es, .ovenSample m es, .stageConfirmation m es]) →
          ∀ back : List Instr, back = (match x with
            | .pusher => []
            | .guide => []
            | .car _ => []
            | .tower => [.towerNodeReturn]
            | .main => [.mainNodeReturn]
            | .oven m => [.ovenNodeReturn m]) →
          ((s.fl.entry x).liveness = .live → (s.fl.entry x).quiet < x.window →
            t.sl = s.sl ∧ t.due = s.due.erase c ++ report) ∧
          ((s.fl.entry x).liveness = .silent → s.NoticeRoom 1 → s.NoticesWait →
            NoticesOnly s t [.nodeBack x 0] ∧ t.due = s.due.erase c ++ back ++ report) ∧
          ((s.fl.entry x).liveness = .neverHeard → s.NoticeRoom 1 → s.NoticesWait →
            NoticesOnly s t [.nodeBack x 1] ∧ t.due = s.due.erase c ++ back ++ report) ∧
          ((s.fl.entry x).liveness = .live → x.window ≤ (s.fl.entry x).quiet → s.NoticeRoom 2 → s.NoticesWait →
            NoticesOnly s t [.nodeSilent x (s.fl.entry x).lastReport, .nodeBack x 0] ∧
            t.due = s.due.erase c ++ (match x with
              | .pusher => [.silenceAtSu .pusher, .machineSilenceAtPu .pusher]
              | .guide => [.silenceAtSu .guide, .machineSilenceAtPu .guide]
              | .car k => [.carNodeSilence k]
              | .tower => [.towerNodeSilence]
              | .main => [.mainNodeSilence]
              | .oven m => [.ovenNodeSilence m, .silenceAtSu (.oven m)]) ++ back ++ report)))) ∧
  (∀ (s : State) (x : Node), ShapeLaw s → s.pins.inReset = false →
    ((s.fl.entry x).inUse = false ∨ (s.fl.entry x).liveness ≠ .live ∨ (s.fl.entry x).quiet < x.window →
      exec (.silenceWindowExpiry x) s = .next (s.passed (.silenceWindowExpiry x))) ∧
    ((s.fl.entry x).inUse = true → (s.fl.entry x).liveness = .live → x.window ≤ (s.fl.entry x).quiet →
      s.NoticeRoom 1 → s.NoticesWait →
      ∃ t, exec (.silenceWindowExpiry x) s = .next t ∧ Keeps [.fl, .sl, .due] s t ∧
        t.fl = { s.fl with nodes := t.fl.nodes } ∧
        t.fl.entry x = { s.fl.entry x with liveness := .silent } ∧ (∀ y : Node, y ≠ x → t.fl.entry y = s.fl.entry y) ∧
        NoticesOnly s t [.nodeSilent x (s.fl.entry x).lastReport] ∧
        t.due = s.due.erase (.silenceWindowExpiry x) ++ (match x with
          | .pusher => [.silenceAtSu .pusher, .machineSilenceAtPu .pusher]
          | .guide => [.silenceAtSu .guide, .machineSilenceAtPu .guide]
          | .car k => [.carNodeSilence k]
          | .tower => [.towerNodeSilence]
          | .main => [.mainNodeSilence]
          | .oven m => [.ovenNodeSilence m, .silenceAtSu (.oven m)])))

/-- The field line (R167, R169, R175, R176): when it goes idle a frame being collected is lost and the head of the queue, if
any, is begun with F_DE; a frame sent leaves the queue, F_DE is released and an emptied queue forgets its discards; while idle
a byte 0xD5 begins a frame and any other is ignored until the next idle line. Commands issued (R167, R175, R176), each in
turn: while the queue holds fewer than 256 frames a command joins its tail, and on an idle line with no frame being sent the
head frame is begun at once with F_DE; a command that finds 256 is discarded, and the first discarded since the queue was last
empty raises FIELD_QUEUE_FULL with its node and kind (R174). So TOWER_NODE_RETURN issues its five. -/
def Obligations.FieldLineSendsTheQueueInOrder : Prop :=
  (∀ (s : State) (b : Byte), s.pins.inReset = false →
    (s.fl.fDe = true → exec .fieldLineIdle s = .next (s.passed .fieldLineIdle) ∧
      exec (.fieldByteReceived b) s = .next (s.passed (.fieldByteReceived b)) ∧
      ∃ t, exec .fieldFrameSent s = .next t ∧ FrameOf .fieldFrameSent [.fl] s t ∧
        t.fl = { s.fl with
          fDe := false, queue := s.fl.queue.tail, receiver := .skip
          fullRaised := if s.fl.queue.tail = [] then false else s.fl.fullRaised }) ∧
    (s.fl.fDe = false → exec .fieldFrameSent s = .next (s.passed .fieldFrameSent) ∧
      (∃ t, exec .fieldLineIdle s = .next t ∧ FrameOf .fieldLineIdle [.fl] s t ∧
        t.fl = (if s.fl.queue = [] then { s.fl with receiver := .idle } else { s.fl with fDe := true, receiver := .skip })) ∧
      (s.fl.receiver = .idle → ∃ t, exec (.fieldByteReceived b) s = .next t ∧ FrameOf (.fieldByteReceived b) [.fl] s t ∧
        t.fl = { s.fl with receiver := if b = 0xD5 then .collect [] else .skip }) ∧
      (s.fl.receiver = .skip → exec (.fieldByteReceived b) s = .next (s.passed (.fieldByteReceived b))) ∧
      (∀ id, s.fl.receiver = .collect [id] → 120 < b.toNat →
        ∃ t, exec (.fieldByteReceived b) s = .next t ∧ FrameOf (.fieldByteReceived b) [.fl] s t ∧
          t.fl = { s.fl with receiver := .skip }))) ∧
  (∀ (s : State) (cs : List Outgoing), s.fl.queue.length ≤ 256 →
    (∀ kind : FieldCommand → Nat, kind = (fun x => match x with
        | .travel _ => 0x81
        | .extract => 0x82
        | .replace => 0x83
        | .ramForward => 0x84
        | .ramHalt => 0x85
        | .halt => 0x86
        | .latch => 0x87
        | .move _ => 0x88
        | .spray _ => 0x89
        | .gate _ _ => 0x8A
        | .mainValve _ => 0x8B
        | .valve _ _ => 0x8B
        | .cap _ _ => 0x8C
        | .clamp _ _ _ => 0x8D
        | .aspiration _ _ => 0x8E) →
      ∀ t : State, t = s.issueAll cs →
        Keeps [.fl, .sl] s t ∧
        t.fl = { s.fl with
          queue := (s.fl.queue ++ cs).take 256
          fullRaised := s.fl.fullRaised || decide (256 < s.fl.queue.length + cs.length)
          fDe := s.fl.fDe || (s.fl.receiver == .idle && !cs.isEmpty && decide (s.fl.queue.length < 256))
          receiver := if s.fl.fDe = false ∧ s.fl.receiver = .idle ∧ cs ≠ [] ∧ s.fl.queue.length < 256 then .skip
            else s.fl.receiver } ∧
        t.sl = (match s.fl.fullRaised, (s.fl.queue ++ cs)[256]? with
          | false, some o => (s.raise (.fieldQueueFull o.node (kind o.command))).sl
          | _, _ => s.sl)) ∧
    (s.pins.inReset = false → ∃ five : List Outgoing, five.length = 5 ∧ (∀ o ∈ five, o.node = .tower) ∧
      exec .towerNodeReturn s = .next ((s.passed .towerNodeReturn).issueAll five)))

/-- The receiver's table (R185): HUNT, COLLECT and SKIP against the lead byte, other bytes, a length above 240 and a silence;
a frame discarded is counted and changes nothing else. The transmitter (R186, R193): a reply sent ends its request's service,
the spare frame is taken at once, and the next frame is a waiting reply, else under S_RTS the oldest notice. A notice sent
frees the transmitter likewise; S_RTS asserted begins one and deasserted holds back those not begun. An event that finds
nothing being sent passes. A notice raised (R191 to R193). With 32 waiting it is discarded and notice-lost is set; else it
joins the queue at this second, and an idle transmitter with no reply waiting, S_RTS asserted and no request in service begins
the oldest at once. That none is begun while a request's reply is still to be formed is the model's (log 12). So DOOR_OFF_LONG
is raised at a door-off timer's expiry. The next reply shows notice-lost in bit 5 of its state byte and clears it (R192). -/
def Obligations.SupervisoryReceiverAndTransmitter : Prop :=
  (∀ (s : State) (b : Byte), s.pins.inReset = false →
    (s.sl.receiver = .hunt → ∃ t, exec (.supervisoryByteReceived b) s = .next t ∧
      FrameOf (.supervisoryByteReceived b) [.sl] s t ∧
      t.sl = { s.sl with receiver := if b = 0xC3 then .collect [] else .skip }) ∧
    (s.sl.receiver = .skip → exec (.supervisoryByteReceived b) s = .next (s.passed (.supervisoryByteReceived b))) ∧
    (s.sl.receiver = .collect [] → 240 < b.toNat → ∃ t, exec (.supervisoryByteReceived b) s = .next t ∧
      FrameOf (.supervisoryByteReceived b) [.sl] s t ∧
      t.sl = { s.sl with receiver := .skip, discards := min 65535 (s.sl.discards + 1) }) ∧
    (s.sl.receiver = .collect [] → b.toNat ≤ 240 → ∃ t, exec (.supervisoryByteReceived b) s = .next t ∧
      FrameOf (.supervisoryByteReceived b) [.sl] s t ∧ t.sl = { s.sl with receiver := .collect [b] }) ∧
    (s.sl.receiver = .hunt → exec .supSilence s = .next (s.passed .supSilence)) ∧
    (s.sl.receiver = .skip → ∃ t, exec .supSilence s = .next t ∧ FrameOf .supSilence [.sl] s t ∧
      t.sl = { s.sl with receiver := .hunt }) ∧
    ((∃ bytes, s.sl.receiver = .collect bytes) → ∃ t, exec .supSilence s = .next t ∧ FrameOf .supSilence [.sl] s t ∧
      t.sl = { s.sl with receiver := .hunt, discards := min 65535 (s.sl.discards + 1) })) ∧
  (∀ s : State, s.pins.inReset = false →
    (s.sl.transmitter ≠ .reply → exec .replySent s = .next (s.passed .replySent)) ∧
    ((∀ n, s.sl.transmitter ≠ .notice n) → exec .noticeSent s = .next (s.passed .noticeSent)) ∧
    (s.sl.transmitter = .reply → s.sl.spare = none →
      ∃ t, exec .replySent s = .next t ∧ FrameOf .replySent [.sl] s t ∧
        t.sl = (match s.sl.rts, s.sl.notices with
          | true, n :: rest => { s.sl with inService := none, replySlot := none, transmitter := .notice n, notices := rest }
          | _, _ => { s.sl with inService := none, replySlot := none, transmitter := .idle })) ∧
    (∀ f, s.sl.spare = some f → ∀ c, encodeRequest c = some f → c.wf = true → s.sl.transmitter = .reply →
      f.tag ≠ 0 → s.due = [] →
      ∃ t, exec .replySent s = .next t ∧ t.sl.inService = some f ∧ t.sl.spare = none ∧ t.sl.transmitter = .reply ∧
        exec c { s with sl := { s.sl with
          inService := none, replySlot := none, transmitter := .idle, spare := none } } = .next t) ∧
    ((∃ n, s.sl.transmitter = .notice n) →
      ∃ t, exec .noticeSent s = .next t ∧ FrameOf .noticeSent [.sl] s t ∧
        (s.sl.replySlot ≠ none → t.sl = { s.sl with transmitter := .reply }) ∧
        (s.sl.replySlot = none → s.sl.inService = none →
          t.sl = (match s.sl.rts, s.sl.notices with
            | true, k :: rest => { s.sl with transmitter := .notice k, notices := rest }
            | _, _ => { s.sl with transmitter := .idle }))) ∧
    (∃ t, exec .sRtsAsserted s = .next t ∧ FrameOf .sRtsAsserted [.sl] s t ∧
      (s.sl.transmitter ≠ .idle → t.sl = { s.sl with rts := true }) ∧
      (s.sl.transmitter = .idle → s.sl.replySlot = none → s.sl.inService = none →
        t.sl = (match s.sl.notices with
          | k :: rest => { s.sl with rts := true, transmitter := .notice k, notices := rest }
          | [] => { s.sl with rts := true }))) ∧
    (∃ t, exec .sRtsDeasserted s = .next t ∧ FrameOf .sRtsDeasserted [.sl] s t ∧ t.sl = { s.sl with rts := false })) ∧
  (∀ (s : State) (b : NoticeBody),
    (32 ≤ s.sl.notices.length → s.raise b = s.withSl { s.sl with noticeLost := true }) ∧
    (s.sl.notices.length < 32 → ∀ q : List Notice, q = s.sl.notices ++ [⟨s.bk.seconds, b⟩] →
      (s.sl.transmitter ≠ .idle ∨ (s.sl.replySlot = none ∧ (s.sl.rts = false ∨ s.sl.inService ≠ none)) →
        s.raise b = s.withSl { s.sl with notices := q }) ∧
      (∀ k rest, q = k :: rest → s.sl.transmitter = .idle → s.sl.replySlot = none → s.sl.rts = true →
        s.sl.inService = none → s.raise b = s.withSl { s.sl with notices := rest, transmitter := .notice k })) ∧
    (∀ (n : Nat) (x : Side), s.pins.inReset = false → s.bk.mode = .run → 1 ≤ n → n ≤ s.ovenCount → n ≤ 96 →
      ((s.oven n).door x).doorOffTimer = some 0 → ((s.oven n).door x).state = .off →
      ∃ t, exec (.doorOffTimerExpiry n x) s = .next t ∧ t.sl = (s.raise (.doorOffLong n x)).sl) ∧
    (∀ tag : Byte, s.Free → tag ≠ 0 → ∃ t, exec (.status tag) s = .next t ∧ t.sl.noticeLost = false ∧
      ∃ r, t.sl.replySlot = some r ∧ (r.body.getD 1 0).getLsbD 5 = s.sl.noticeLost))

/-! ### Snapshots, battery time and set-up -/

/-- HOLD, COLLECT and RELEASE_HOLDS (R198 to R201). HOLD's checks in order; taken, an absent named item of each oven is
captured and a present one left. COLLECT takes the first six ovens, in ascending order, that hold an item: the reply carries
whether more remain, how many entries follow, and each oven's number, items byte and held values as captured, and both items
of those ovens become absent; all others are kept. RELEASE_HOLDS clears every item. No request changes any other field of a
record. -/
def Obligations.HoldSetKeepsThePicture : Prop :=
  ∀ (s : State) (tag f n mask : Byte), ShapeLaw s → s.Free → tag ≠ 0 →
    (∀ x : Status,
      x = (if ¬(1 ≤ f.toNat ∧ f.toNat ≤ s.ovenCount) then .badOven
        else if s.ovenCount < f.toNat + n.toNat then .badOven
        else if mask ≠ 1 ∧ mask ≠ 2 ∧ mask ≠ 3 then .badValue
        else .ok) →
      (x ≠ .ok → ∃ t, exec (.hold tag f n mask) s = .next t ∧ FrameOf (.hold tag f n mask) [.sl] s t ∧
        Answered s t ⟨0x04, tag, [f, n, mask]⟩ x []) ∧
      (x = .ok → ∃ t, exec (.hold tag f n mask) s = .next t ∧ FrameOf (.hold tag f n mask) [.ovens, .sl] s t ∧
        (∀ m < 97, 0 < m → (m < f.toNat ∨ f.toNat + n.toNat < m → t.oven m = s.oven m) ∧
          (f.toNat ≤ m → m ≤ f.toNat + n.toNat → t.oven m = { s.oven m with
            heldStatus := if mask = 2 then (s.oven m).heldStatus
              else some ((s.oven m).heldStatus.getD ⟨(s.oven m).phase, (s.oven m).late, (s.oven m).doorP.state,
                (s.oven m).doorC.state, (s.oven m).valve.mode, (s.oven m).valve.command, (s.oven m).valve.setpoint,
                (s.oven m).valve.lastPressure⟩)
            heldAge := if mask = 1 then (s.oven m).heldAge
              else some ((s.oven m).heldAge.getD ⟨(s.oven m).progress, s.bk.minutes - (s.oven m).chargedAt,
                (s.oven m).soakRemaining⟩) })) ∧
        ∀ captured : Nat, captured = ((List.range (n.toNat + 1)).map (fun i =>
            (if mask ≠ 2 ∧ (s.oven (f.toNat + i)).heldStatus = none then 1 else 0) +
              (if mask ≠ 1 ∧ (s.oven (f.toNat + i)).heldAge = none then 1 else 0))).sum →
          Answered s t ⟨0x04, tag, [f, n, mask]⟩ .ok
            (half captured ++ half ((n.toNat + 1) * (if mask = 3 then 2 else 1) - captured)))) ∧
    (∀ all : List Nat, all = ((List.range 96).map (· + 1)).filter (fun m =>
        (s.oven m).heldStatus.isSome || (s.oven m).heldAge.isSome) →
      ∃ t, exec (.collect tag) s = .next t ∧ FrameOf (.collect tag) [.ovens, .sl] s t ∧
        (∀ m < 97, 0 < m →
          t.oven m = if m ∈ all.take 6 then { s.oven m with heldStatus := none, heldAge := none } else s.oven m) ∧
        Answered s t ⟨0x05, tag, []⟩ .ok ([flag (decide (6 < all.length)), byteOf (min 6 all.length)] ++
          (all.take 6).flatMap (fun m =>
            [byteOf m, byteOf (boolCode (s.oven m).heldStatus.isSome + 2 * boolCode (s.oven m).heldAge.isSome)] ++
            (match (s.oven m).heldStatus with
              | some h => [byteOf h.phase.code, flag h.late, byteOf h.doorP.code, byteOf h.doorC.code, byteOf h.mode.code] ++
                  half h.command ++ signed h.setpoint ++ pressureField h.lastPressure
              | none => []) ++
            (match (s.oven m).heldAge with
              | some h => word h.progress ++ wordBytes h.minutes ++ half h.soakRemaining
              | none => [])))) ∧
    (∃ t, exec (.releaseHolds tag) s = .next t ∧ FrameOf (.releaseHolds tag) [.ovens, .sl] s t ∧
      (∀ m < 97, 0 < m → t.oven m = { s.oven m with heldStatus := none, heldAge := none }) ∧
      Answered s t ⟨0x06, tag, []⟩ .ok (half ((List.range 96).map (fun i =>
        boolCode (s.oven (i + 1)).heldStatus.isSome + boolCode (s.oven (i + 1)).heldAge.isSome)).sum))

/-- A battery second (R178, R205, R206): the count goes up by one, wrapping; a LIVE node in use counts a quiet second; in
CONFIG no other timer moves; in RUN the coke-minute timer, the timers of ovens 1..N, the pacer in AUTO, the stage timer, the
cars' timers (travel only without ESTOP#) and the bays' count. The sixtieth second returns the coke-minute timer to 0 and a
sum of 65,536 or more is stored less 65,536 (R16, R32). Every expiry that is due is brought about and no other event; no
phase, door state, valve, list or record is decided here. That a timer run out stands at 0 until its expiry is taken, and that
coke minutes and carries not yet taken are counted, is the model's (log 3). -/
def Obligations.BatterySecondTicksTheTimers : Prop :=
  ∀ s : State, ShapeLaw s → s.pins.inReset = false →
    ∃ t, exec .batterySecond s = .next t ∧ Keeps [.ovens, .cc, .su, .pu, .qu, .fl, .bk, .due] s t ∧
      t.bk = { s.bk with seconds := s.bk.seconds + 1 } ∧
      t.fl = { s.fl with nodes := t.fl.nodes } ∧
      (∀ x : Node, t.fl.entry x =
        if (s.fl.entry x).inUse = true ∧ (s.fl.entry x).liveness = .live
          then { s.fl.entry x with quiet := min x.window ((s.fl.entry x).quiet + 1) } else s.fl.entry x) ∧
      (s.bk.mode = .config → Keeps [.fl, .bk, .due] s t) ∧
      (s.bk.mode = .run →
        t.cc = (if s.cc.minuteTimer + 1 < 60 then { s.cc with minuteTimer := s.cc.minuteTimer + 1 }
          else { s.cc with minuteTimer := 0, minutesDue := s.cc.minutesDue + 1 }) ∧
        t.su = (if s.su.mode ≠ .auto then s.su
          else if s.su.accumulator + s.su.increment < 65536 then
            { s.su with accumulator := s.su.accumulator + s.su.increment }
          else { s.su with
            accumulator := s.su.accumulator + s.su.increment - 65536, carriesDue := s.su.carriesDue + 1 }) ∧
        t.pu = { s.pu with push := s.pu.push.map (fun r => { r with timer := r.timer - 1 }) } ∧
        (∀ n < 97, 0 < n → (s.ovenCount < n → t.oven n = s.oven n) ∧
          (n ≤ s.ovenCount → t.oven n = { s.oven n with
            chargeTimer := (s.oven n).chargeTimer.map (· - 1)
            doorP := { (s.oven n).doorP with
              doorOffTimer := (s.oven n).doorP.doorOffTimer.map (· - 1)
              settleTimer := (s.oven n).doorP.settleTimer.map (· - 1) }
            doorC := { (s.oven n).doorC with
              doorOffTimer := (s.oven n).doorC.doorOffTimer.map (· - 1)
              settleTimer := (s.oven n).doorC.settleTimer.map (· - 1) } })) ∧
        (∀ c : Car, t.car c = { s.car c with
          travelTimer := if s.pins.estop then (s.car c).travelTimer else (s.car c).travelTimer.map (· - 1)
          hotTimer := (s.car c).hotTimer.map (· - 1)
          quenchTimer := (s.car c).quenchTimer.map (· - 1)
          drainTimer := (s.car c).drainTimer.map (· - 1)
          dumpTimer := (s.car c).dumpTimer.map (· - 1) }) ∧
        (∀ b < 5, 0 < b → t.qu.bay b = { s.qu.bay b with holdTimer := (s.qu.bay b).holdTimer.map (· - 1) }) ∧
        t.qu = { s.qu with car1 := t.qu.car1, car2 := t.qu.car2, bays := t.qu.bays }) ∧
      s.due.erase .batterySecond <+: t.due ∧
      (∀ c : Instr, t.due.count c = max ((s.due.erase .batterySecond).count c) (t.owed c))

/-- SET_TIME and SET_BATTERY (R30, R181, R208, R211), taken in CONFIG only: the minute count alone is written; N is clamped to
8..96, the cursor stands on the start oven or, where that exceeds N, both go to their first values, and an oven node that
leaves or comes into use is NEVER_HEARD while one that stays keeps its entry. That the entry's last report second is kept when
its use changes is the model's choice (log 30). OVEN_LOAD (R27, R212): its checks in order; taken, P, the soak and the rest of
the record are as the loaded phase requires, the valve takes the mode its evaluation gives with that mode's entry commands
(R112, R113), and every other oven is kept. -/
def Obligations.ConfigurationIsWritten : Prop :=
  (∀ (s : State) (tag b : Byte) (w : Word), ShapeLaw s → s.Free → tag ≠ 0 →
    (s.bk.mode = .run →
      (∃ t, exec (.setTime tag w) s = .next t ∧ FrameOf (.setTime tag w) [.sl] s t ∧
        Answered s t ⟨0x02, tag, wordBytes w⟩ .wrongMode []) ∧
      (∃ t, exec (.setBattery tag b) s = .next t ∧ FrameOf (.setBattery tag b) [.sl] s t ∧
        Answered s t ⟨0x73, tag, [b]⟩ .wrongMode [])) ∧
    (s.bk.mode = .config →
      (∃ t, exec (.setTime tag w) s = .next t ∧ FrameOf (.setTime tag w) [.bk, .sl] s t ∧
        t.bk = { s.bk with minutes := w } ∧
        Answered s t ⟨0x02, tag, wordBytes w⟩ .ok (wordBytes w ++ wordBytes s.bk.seconds)) ∧
      (∃ t, exec (.setBattery tag b) s = .next t ∧ FrameOf (.setBattery tag b) [.ovenCount, .su, .fl, .sl] s t ∧
        t.ovenCount = max 8 (min 96 b.toNat) ∧
        t.su = { s.su with
          startOven := if t.ovenCount < s.su.startOven then 1 else s.su.startOven
          cursor := if t.ovenCount < s.su.startOven then 0
            else positionOf t.ovenCount s.su.step s.su.offset s.su.startOven
          exclusion := 0, granularity := 0, exclusionStart := 1 } ∧
        t.fl = { s.fl with nodes := t.fl.nodes } ∧
        (∀ x : Node, ∀ used : Bool, used = (match x with
            | .oven m => decide (m.val < (t.ovenCount + 7) / 8)
            | .pusher => true | .guide => true | .car _ => true | .tower => true | .main => true) →
          t.fl.entry x = if (s.fl.entry x).inUse = used then s.fl.entry x
            else { s.fl.entry x with inUse := used, liveness := .neverHeard, quiet := 0 }) ∧
        Answered s t ⟨0x73, tag, [b]⟩ .ok
          [byteOf t.ovenCount, byteOf t.su.startOven, byteOf t.su.cursor,
           if Nat.gcd s.su.offset s.su.step = 1 ∧ s.su.step ≤ t.ovenCount then 1 else 0]))) ∧
  (∀ (s : State) (tag n phase : Byte) (p m : Word) (soak : Half), ShapeLaw s → s.Free → tag ≠ 0 →
    ∀ c : Instr, c = .ovenLoad tag n phase p m soak →
    ∀ f : Frame, f = ⟨0x70, tag, [n, phase] ++ wordBytes p ++ wordBytes m ++ halfBytes soak⟩ →
    (∀ x : Status,
      x = (if s.bk.mode ≠ .config then .wrongMode
        else if ¬(1 ≤ n.toNat ∧ n.toNat ≤ s.ovenCount) then .badOven
        else if 4 < phase.toNat then .badValue
        else .ok) → x ≠ .ok →
      ∃ t, exec c s = .next t ∧ FrameOf c [.sl] s t ∧ Answered s t f x []) ∧
    (∀ y : Phase, s.bk.mode = .config → 1 ≤ n.toNat → n.toNat ≤ s.ovenCount → y.code = phase.toNat → phase.toNat ≤ 4 →
      ∃ t, exec c s = .next t ∧ FrameOf c [.ovens, .fl, .sl] s t ∧ OthersKept s t n.toNat ∧
        t.oven n.toNat = { s.oven n.toNat with
          phase := y
          progress := (if y = .empty ∨ y = .charging then 0 else if y = .coking then min 16777215 p.toNat else 16777216)
          chargedAt := s.bk.minutes - m, late := false, chargeLong := false
          chargeTimer := if y = .charging then some s.cc.limits.chargeLimit else none
          planPending := if y = .charging ∨ y = .coking then false else (s.oven n.toNat).planPending
          activeSoak := (if y = .charging ∨ y = .coking then (s.oven n.toNat).planSoak
            else if y = .soaking then max 1 (min 256 soak.toNat) else (s.oven n.toNat).activeSoak)
          soakRemaining := if y = .soaking then max 1 (min 256 soak.toNat) else 0
          valve := (turnTo n.toNat (t.valveMode n.toNat) (s.oven n.toNat).valve).1 } ∧
        (s.FieldRoom 2 → Issued s t (turnTo n.toNat (t.valveMode n.toNat) (s.oven n.toNat).valve).2) ∧
        ((s.oven n.toNat).valve.mode = .hold → (s.oven n.toNat).valve.manualFlag = false →
          (t.oven n.toNat).valve = (s.oven n.toNat).valve ∧ t.fl = s.fl) ∧
        Replied t f .ok ([n, phase] ++ word (t.oven n.toNat).progress ++ wordBytes (t.oven n.toNat).chargedAt ++
          half (t.oven n.toNat).soakRemaining ++ [byteOf ((t.oven n.toNat).activeSoak - 1)])))

/-- START (R37, R104, R119, R213, R214): its checks in order, with the id of the first node, of the pusher, the guide and the
oven nodes in use, that is not LIVE; taken, the part is in RUN with the schedule MANUAL and the pacer clear, every OFF door of
ovens 1..N has its timer loaded, those on ovens not EMPTY without a permit are unexpected with a notice each, and every valve
and the main take their evaluated modes with the commands of entry. The reply counts a door already unexpected too (log 11).
An untaken carry is dropped with the pacer, and an untaken coke minute, the timer keeping its count (log 3), and the order of
notices and of commands is the model's (log 5). STOP (R37, R119, R215): WRONG_MODE in CONFIG, BUSY with a push, a stall or a
load; taken, the part is in CONFIG with both lists empty, the pacer clear, an untaken carry with it, and an untaken coke
minute that does not occur (R23; log 3), and the schedule PAUSED, every valve and the main in HOLD, which keeps the command
and the aspiration and sends nothing, or in MANUAL, and the reply counts the list entries removed. -/
def Obligations.StartAndStopChangeTheMode : Prop :=
  (∀ (s : State) (tag : Byte), ShapeLaw s → s.Free → tag ≠ 0 →
    (∀ x : Status,
      x = (if s.bk.mode = .run then .wrongMode
        else if ¬(Nat.gcd s.su.offset s.su.step = 1 ∧ s.su.step ≤ s.ovenCount) then .badSeries
        else if ∃ y ∈ Node.all, (y.id = 1 ∨ y.id = 2 ∨ (16 ≤ y.id ∧ y.id ≤ 15 + (s.ovenCount + 7) / 8)) ∧
          s.live y = false then .nodeSilent
        else if (s.car .one).state = .outOfService ∧ (s.car .two).state = .outOfService then .noCar
        else .ok) →
      (x ≠ .ok → ∃ t, exec (.start tag) s = .next t ∧ FrameOf (.start tag) [.sl] s t ∧
        ∃ extra, Answered s t ⟨0x71, tag, []⟩ x extra ∧ (x ≠ .nodeSilent → extra = []) ∧
          (x = .nodeSilent → ∃ y : Node, extra = [byteOf y.id] ∧ s.live y = false ∧
            (y.id = 1 ∨ y.id = 2 ∨ (16 ≤ y.id ∧ y.id ≤ 15 + (s.ovenCount + 7) / 8)) ∧
            ∀ z : Node, z.id < y.id → z.id = 1 ∨ z.id = 2 ∨ 16 ≤ z.id → s.live z = true)) ∧
      (x = .ok → ∃ t, exec (.start tag) s = .next t ∧ FrameOf (.start tag) [.ovens, .cc, .su, .pr, .fl, .sl, .bk] s t ∧
        t.bk = { s.bk with mode := .run } ∧ t.cc = { s.cc with minutesDue := 0 } ∧
        t.su = { s.su with mode := .manual, accumulator := 0, carriesDue := 0, slotFlag := false } ∧
        t.pr = { s.pr with main := if t.mainMode = s.pr.main.mode then s.pr.main
          else if t.mainMode = .manual then { s.pr.main with mode := .manual, command := s.pr.main.manualPosition }
          else { s.pr.main with mode := t.mainMode } } ∧
        (∀ n < 97, 0 < n → (s.ovenCount < n → t.oven n = s.oven n) ∧
          (n ≤ s.ovenCount →
            t.oven n = { s.oven n with
              doorP := (t.oven n).doorP, doorC := (t.oven n).doorC
              valve := (turnTo n (t.valveMode n) (s.oven n).valve).1 } ∧
            (∀ d : Side, (t.oven n).door d =
              if ((s.oven n).door d).state = .off then { (s.oven n).door d with
                doorOffTimer := some s.du.doorOffLimit
                unexpected := ((s.oven n).door d).unexpected ||
                  ((s.oven n).phase != .empty && !((s.oven n).door d).permit) }
              else (s.oven n).door d) ∧
            (t.oven n).valve.mode = t.valveMode n)) ∧
        (∀ bs : List NoticeBody, bs = ((List.range s.ovenCount).map (· + 1)).flatMap (fun n =>
            ([Side.p, Side.c].filter (fun d => ((s.oven n).door d).state == .off && (s.oven n).phase != .empty &&
              !((s.oven n).door d).permit)).map (fun d => .doorUnexpected n d)) →
        ∀ cs : List Outgoing, cs = ((List.range s.ovenCount).map (· + 1)).flatMap (fun n =>
            (turnTo n (t.valveMode n) (s.oven n).valve).2) ++
            (if t.mainMode = .manual ∧ s.pr.main.mode ≠ .manual then
              [⟨.main, .mainValve s.pr.main.manualPosition⟩] else []) →
          s.NoticeRoom bs.length → s.FieldRoom cs.length → Noticed s t bs ∧ Issued s t cs) ∧
        Replied t ⟨0x71, tag, []⟩ .ok
          [byteOf s.ovenCount,
           byteOf ((List.range s.ovenCount).map (fun i => ([Side.p, Side.c].filter (fun d =>
             ((s.oven (i + 1)).door d).state == .off && (s.oven (i + 1)).phase != .empty &&
               !((s.oven (i + 1)).door d).permit)).length)).sum,
           byteOf ((List.range s.ovenCount).filter (fun i =>
             (s.oven (i + 1)).valve.mode != .auto && (t.oven (i + 1)).valve.mode == .auto)).length]))) ∧
  (∀ (s : State) (tag : Byte), ShapeLaw s → s.Free → tag ≠ 0 →
    (∀ x : Status,
      x = (if s.bk.mode = .config then .wrongMode
        else if s.pu.push ≠ none ∨ s.pu.stall ≠ none ∨ (s.car .one).load ≠ none ∨ (s.car .two).load ≠ none then .busy
        else .ok) →
      (x ≠ .ok → ∃ t, exec (.stop tag) s = .next t ∧ FrameOf (.stop tag) [.sl] s t ∧
        Answered s t ⟨0x72, tag, []⟩ x []) ∧
      (x = .ok → PushLaw s → ∃ t, exec (.stop tag) s = .next t ∧ FrameOf (.stop tag) [.ovens, .cc, .su, .pr, .fl, .sl, .bk] s t ∧
        t.bk = { s.bk with mode := .config } ∧ t.cc = { s.cc with minutesDue := 0 } ∧
        t.su = { s.su with
          mode := .paused, accumulator := 0, carriesDue := 0, slotFlag := false, outOfTurn := [], deferred := [] } ∧
        t.pr = { s.pr with main := if s.pr.main.manualFlag = false then { s.pr.main with mode := .hold }
          else if s.pr.main.mode = .manual then s.pr.main
          else { s.pr.main with mode := .manual, command := s.pr.main.manualPosition } } ∧
        (∀ n < 97, 0 < n → (s.ovenCount < n → t.oven n = s.oven n) ∧
          (n ≤ s.ovenCount → t.oven n = (s.oven n).setValve
            (turnTo n (if (s.oven n).valve.manualFlag then .manual else .hold) (s.oven n).valve).1)) ∧
        (∀ cs : List Outgoing, cs = ((List.range s.ovenCount).map (· + 1)).flatMap (fun n =>
            (turnTo n (if (s.oven n).valve.manualFlag then .manual else .hold) (s.oven n).valve).2) ++
            (if s.pr.main.manualFlag = true ∧ s.pr.main.mode ≠ .manual then
              [⟨.main, .mainValve s.pr.main.manualPosition⟩] else []) →
          s.FieldRoom cs.length → Noticed s t [] ∧ Issued s t cs) ∧
        Replied t ⟨0x72, tag, []⟩ .ok [byteOf (s.su.outOfTurn.length + s.su.deferred.length)])))

/-! ### The closed valve and the claimed car -/

/-- The law R114 owns is kept by every step: in RUN an oven that is STALLED, PUSHING at ISOLATE or later, or EMPTY without the
manual flag is in valve mode CLOSED, and a valve in CLOSED has command 0. The waiting lists of tower and wharf are kept in
their standing by every step: each car in them at most once and in the state it waits in, the holder of the grant in neither
(R148, R150, R152, R156, R159). The law R60 owns is kept by every step: the claimed car of a push at ISOLATE or later is
SPOTTED or LOADED at the pushed oven; a push up to RAM has a claimed car and one in DOORS_ON has none. The main node's entry
is in use (R177, R181), and the main floor stands only while FL's table shows the main node LIVE, or its silence is still to
be taken at PR (R125, R133, R135, R177, R180): every step keeps this, outside reset. -/
def Obligations.EveryStepKeepsTheClosedValveAndClaimLaws : Prop :=
  (∀ s t : State, ShapeLaw s → PushLaw s → ClosedLaw s → step s = .next t → ClosedLaw t) ∧
  (∀ s t : State, WaitLaw s → step s = .next t → WaitLaw t) ∧
  (∀ s t : State, PushLaw s → WaitLaw s → ClaimLaw s → step s = .next t → ClaimLaw t) ∧
  (∀ s t : State, FloorLaw s → step s = .next t → FloorLaw t)
end

