-- ==== Sys2Proof/Laws/State.lean ====
section
/-!
SUPPORT. What each update of the state leaves in each of its parts: one lemma per part per update, so that no proof unfolds a
record update.
-/

namespace Sys2Proof.Machine

/-! ### withOvens -/

section
variable (s : State) (x : List Oven)

@[simp] theorem State.withOvens_ovens : (s.withOvens x).ovens = x := rfl
@[simp] theorem State.withOvens_ovenCount : (s.withOvens x).ovenCount = s.ovenCount := rfl
@[simp] theorem State.withOvens_cc : (s.withOvens x).cc = s.cc := rfl
@[simp] theorem State.withOvens_su : (s.withOvens x).su = s.su := rfl
@[simp] theorem State.withOvens_pu : (s.withOvens x).pu = s.pu := rfl
@[simp] theorem State.withOvens_du : (s.withOvens x).du = s.du := rfl
@[simp] theorem State.withOvens_pr : (s.withOvens x).pr = s.pr := rfl
@[simp] theorem State.withOvens_qu : (s.withOvens x).qu = s.qu := rfl
@[simp] theorem State.withOvens_fl : (s.withOvens x).fl = s.fl := rfl
@[simp] theorem State.withOvens_sl : (s.withOvens x).sl = s.sl := rfl
@[simp] theorem State.withOvens_bk : (s.withOvens x).bk = s.bk := rfl
@[simp] theorem State.withOvens_pins : (s.withOvens x).pins = s.pins := rfl
@[simp] theorem State.withOvens_due : (s.withOvens x).due = s.due := rfl
@[simp] theorem State.withOvens_pending : (s.withOvens x).pending = s.pending := rfl

end

/-! ### withOvenCount -/

section
variable (s : State) (x : Nat)

@[simp] theorem State.withOvenCount_ovens : (s.withOvenCount x).ovens = s.ovens := rfl
@[simp] theorem State.withOvenCount_ovenCount : (s.withOvenCount x).ovenCount = x := rfl
@[simp] theorem State.withOvenCount_cc : (s.withOvenCount x).cc = s.cc := rfl
@[simp] theorem State.withOvenCount_su : (s.withOvenCount x).su = s.su := rfl
@[simp] theorem State.withOvenCount_pu : (s.withOvenCount x).pu = s.pu := rfl
@[simp] theorem State.withOvenCount_du : (s.withOvenCount x).du = s.du := rfl
@[simp] theorem State.withOvenCount_pr : (s.withOvenCount x).pr = s.pr := rfl
@[simp] theorem State.withOvenCount_qu : (s.withOvenCount x).qu = s.qu := rfl
@[simp] theorem State.withOvenCount_fl : (s.withOvenCount x).fl = s.fl := rfl
@[simp] theorem State.withOvenCount_sl : (s.withOvenCount x).sl = s.sl := rfl
@[simp] theorem State.withOvenCount_bk : (s.withOvenCount x).bk = s.bk := rfl
@[simp] theorem State.withOvenCount_pins : (s.withOvenCount x).pins = s.pins := rfl
@[simp] theorem State.withOvenCount_due : (s.withOvenCount x).due = s.due := rfl
@[simp] theorem State.withOvenCount_pending : (s.withOvenCount x).pending = s.pending := rfl

end

/-! ### withCc -/

section
variable (s : State) (x : CokingClock)

@[simp] theorem State.withCc_ovens : (s.withCc x).ovens = s.ovens := rfl
@[simp] theorem State.withCc_ovenCount : (s.withCc x).ovenCount = s.ovenCount := rfl
@[simp] theorem State.withCc_cc : (s.withCc x).cc = x := rfl
@[simp] theorem State.withCc_su : (s.withCc x).su = s.su := rfl
@[simp] theorem State.withCc_pu : (s.withCc x).pu = s.pu := rfl
@[simp] theorem State.withCc_du : (s.withCc x).du = s.du := rfl
@[simp] theorem State.withCc_pr : (s.withCc x).pr = s.pr := rfl
@[simp] theorem State.withCc_qu : (s.withCc x).qu = s.qu := rfl
@[simp] theorem State.withCc_fl : (s.withCc x).fl = s.fl := rfl
@[simp] theorem State.withCc_sl : (s.withCc x).sl = s.sl := rfl
@[simp] theorem State.withCc_bk : (s.withCc x).bk = s.bk := rfl
@[simp] theorem State.withCc_pins : (s.withCc x).pins = s.pins := rfl
@[simp] theorem State.withCc_due : (s.withCc x).due = s.due := rfl
@[simp] theorem State.withCc_pending : (s.withCc x).pending = s.pending := rfl

end

/-! ### withSu -/

section
variable (s : State) (x : ScheduleUnit)

@[simp] theorem State.withSu_ovens : (s.withSu x).ovens = s.ovens := rfl
@[simp] theorem State.withSu_ovenCount : (s.withSu x).ovenCount = s.ovenCount := rfl
@[simp] theorem State.withSu_cc : (s.withSu x).cc = s.cc := rfl
@[simp] theorem State.withSu_su : (s.withSu x).su = x := rfl
@[simp] theorem State.withSu_pu : (s.withSu x).pu = s.pu := rfl
@[simp] theorem State.withSu_du : (s.withSu x).du = s.du := rfl
@[simp] theorem State.withSu_pr : (s.withSu x).pr = s.pr := rfl
@[simp] theorem State.withSu_qu : (s.withSu x).qu = s.qu := rfl
@[simp] theorem State.withSu_fl : (s.withSu x).fl = s.fl := rfl
@[simp] theorem State.withSu_sl : (s.withSu x).sl = s.sl := rfl
@[simp] theorem State.withSu_bk : (s.withSu x).bk = s.bk := rfl
@[simp] theorem State.withSu_pins : (s.withSu x).pins = s.pins := rfl
@[simp] theorem State.withSu_due : (s.withSu x).due = s.due := rfl
@[simp] theorem State.withSu_pending : (s.withSu x).pending = s.pending := rfl

end

/-! ### withPu -/

section
variable (s : State) (x : PushUnit)

@[simp] theorem State.withPu_ovens : (s.withPu x).ovens = s.ovens := rfl
@[simp] theorem State.withPu_ovenCount : (s.withPu x).ovenCount = s.ovenCount := rfl
@[simp] theorem State.withPu_cc : (s.withPu x).cc = s.cc := rfl
@[simp] theorem State.withPu_su : (s.withPu x).su = s.su := rfl
@[simp] theorem State.withPu_pu : (s.withPu x).pu = x := rfl
@[simp] theorem State.withPu_du : (s.withPu x).du = s.du := rfl
@[simp] theorem State.withPu_pr : (s.withPu x).pr = s.pr := rfl
@[simp] theorem State.withPu_qu : (s.withPu x).qu = s.qu := rfl
@[simp] theorem State.withPu_fl : (s.withPu x).fl = s.fl := rfl
@[simp] theorem State.withPu_sl : (s.withPu x).sl = s.sl := rfl
@[simp] theorem State.withPu_bk : (s.withPu x).bk = s.bk := rfl
@[simp] theorem State.withPu_pins : (s.withPu x).pins = s.pins := rfl
@[simp] theorem State.withPu_due : (s.withPu x).due = s.due := rfl
@[simp] theorem State.withPu_pending : (s.withPu x).pending = s.pending := rfl

end

/-! ### withDu -/

section
variable (s : State) (x : DoorLimits)

@[simp] theorem State.withDu_ovens : (s.withDu x).ovens = s.ovens := rfl
@[simp] theorem State.withDu_ovenCount : (s.withDu x).ovenCount = s.ovenCount := rfl
@[simp] theorem State.withDu_cc : (s.withDu x).cc = s.cc := rfl
@[simp] theorem State.withDu_su : (s.withDu x).su = s.su := rfl
@[simp] theorem State.withDu_pu : (s.withDu x).pu = s.pu := rfl
@[simp] theorem State.withDu_du : (s.withDu x).du = x := rfl
@[simp] theorem State.withDu_pr : (s.withDu x).pr = s.pr := rfl
@[simp] theorem State.withDu_qu : (s.withDu x).qu = s.qu := rfl
@[simp] theorem State.withDu_fl : (s.withDu x).fl = s.fl := rfl
@[simp] theorem State.withDu_sl : (s.withDu x).sl = s.sl := rfl
@[simp] theorem State.withDu_bk : (s.withDu x).bk = s.bk := rfl
@[simp] theorem State.withDu_pins : (s.withDu x).pins = s.pins := rfl
@[simp] theorem State.withDu_due : (s.withDu x).due = s.due := rfl
@[simp] theorem State.withDu_pending : (s.withDu x).pending = s.pending := rfl

end

/-! ### withPr -/

section
variable (s : State) (x : PressureUnit)

@[simp] theorem State.withPr_ovens : (s.withPr x).ovens = s.ovens := rfl
@[simp] theorem State.withPr_ovenCount : (s.withPr x).ovenCount = s.ovenCount := rfl
@[simp] theorem State.withPr_cc : (s.withPr x).cc = s.cc := rfl
@[simp] theorem State.withPr_su : (s.withPr x).su = s.su := rfl
@[simp] theorem State.withPr_pu : (s.withPr x).pu = s.pu := rfl
@[simp] theorem State.withPr_du : (s.withPr x).du = s.du := rfl
@[simp] theorem State.withPr_pr : (s.withPr x).pr = x := rfl
@[simp] theorem State.withPr_qu : (s.withPr x).qu = s.qu := rfl
@[simp] theorem State.withPr_fl : (s.withPr x).fl = s.fl := rfl
@[simp] theorem State.withPr_sl : (s.withPr x).sl = s.sl := rfl
@[simp] theorem State.withPr_bk : (s.withPr x).bk = s.bk := rfl
@[simp] theorem State.withPr_pins : (s.withPr x).pins = s.pins := rfl
@[simp] theorem State.withPr_due : (s.withPr x).due = s.due := rfl
@[simp] theorem State.withPr_pending : (s.withPr x).pending = s.pending := rfl

end

/-! ### withQu -/

section
variable (s : State) (x : QuenchUnit)

@[simp] theorem State.withQu_ovens : (s.withQu x).ovens = s.ovens := rfl
@[simp] theorem State.withQu_ovenCount : (s.withQu x).ovenCount = s.ovenCount := rfl
@[simp] theorem State.withQu_cc : (s.withQu x).cc = s.cc := rfl
@[simp] theorem State.withQu_su : (s.withQu x).su = s.su := rfl
@[simp] theorem State.withQu_pu : (s.withQu x).pu = s.pu := rfl
@[simp] theorem State.withQu_du : (s.withQu x).du = s.du := rfl
@[simp] theorem State.withQu_pr : (s.withQu x).pr = s.pr := rfl
@[simp] theorem State.withQu_qu : (s.withQu x).qu = x := rfl
@[simp] theorem State.withQu_fl : (s.withQu x).fl = s.fl := rfl
@[simp] theorem State.withQu_sl : (s.withQu x).sl = s.sl := rfl
@[simp] theorem State.withQu_bk : (s.withQu x).bk = s.bk := rfl
@[simp] theorem State.withQu_pins : (s.withQu x).pins = s.pins := rfl
@[simp] theorem State.withQu_due : (s.withQu x).due = s.due := rfl
@[simp] theorem State.withQu_pending : (s.withQu x).pending = s.pending := rfl

end

/-! ### withFl -/

section
variable (s : State) (x : FieldLink)

@[simp] theorem State.withFl_ovens : (s.withFl x).ovens = s.ovens := rfl
@[simp] theorem State.withFl_ovenCount : (s.withFl x).ovenCount = s.ovenCount := rfl
@[simp] theorem State.withFl_cc : (s.withFl x).cc = s.cc := rfl
@[simp] theorem State.withFl_su : (s.withFl x).su = s.su := rfl
@[simp] theorem State.withFl_pu : (s.withFl x).pu = s.pu := rfl
@[simp] theorem State.withFl_du : (s.withFl x).du = s.du := rfl
@[simp] theorem State.withFl_pr : (s.withFl x).pr = s.pr := rfl
@[simp] theorem State.withFl_qu : (s.withFl x).qu = s.qu := rfl
@[simp] theorem State.withFl_fl : (s.withFl x).fl = x := rfl
@[simp] theorem State.withFl_sl : (s.withFl x).sl = s.sl := rfl
@[simp] theorem State.withFl_bk : (s.withFl x).bk = s.bk := rfl
@[simp] theorem State.withFl_pins : (s.withFl x).pins = s.pins := rfl
@[simp] theorem State.withFl_due : (s.withFl x).due = s.due := rfl
@[simp] theorem State.withFl_pending : (s.withFl x).pending = s.pending := rfl

end

/-! ### withSl -/

section
variable (s : State) (x : SupLink)

@[simp] theorem State.withSl_ovens : (s.withSl x).ovens = s.ovens := rfl
@[simp] theorem State.withSl_ovenCount : (s.withSl x).ovenCount = s.ovenCount := rfl
@[simp] theorem State.withSl_cc : (s.withSl x).cc = s.cc := rfl
@[simp] theorem State.withSl_su : (s.withSl x).su = s.su := rfl
@[simp] theorem State.withSl_pu : (s.withSl x).pu = s.pu := rfl
@[simp] theorem State.withSl_du : (s.withSl x).du = s.du := rfl
@[simp] theorem State.withSl_pr : (s.withSl x).pr = s.pr := rfl
@[simp] theorem State.withSl_qu : (s.withSl x).qu = s.qu := rfl
@[simp] theorem State.withSl_fl : (s.withSl x).fl = s.fl := rfl
@[simp] theorem State.withSl_sl : (s.withSl x).sl = x := rfl
@[simp] theorem State.withSl_bk : (s.withSl x).bk = s.bk := rfl
@[simp] theorem State.withSl_pins : (s.withSl x).pins = s.pins := rfl
@[simp] theorem State.withSl_due : (s.withSl x).due = s.due := rfl
@[simp] theorem State.withSl_pending : (s.withSl x).pending = s.pending := rfl

end

/-! ### withBk -/

section
variable (s : State) (x : BatteryClock)

@[simp] theorem State.withBk_ovens : (s.withBk x).ovens = s.ovens := rfl
@[simp] theorem State.withBk_ovenCount : (s.withBk x).ovenCount = s.ovenCount := rfl
@[simp] theorem State.withBk_cc : (s.withBk x).cc = s.cc := rfl
@[simp] theorem State.withBk_su : (s.withBk x).su = s.su := rfl
@[simp] theorem State.withBk_pu : (s.withBk x).pu = s.pu := rfl
@[simp] theorem State.withBk_du : (s.withBk x).du = s.du := rfl
@[simp] theorem State.withBk_pr : (s.withBk x).pr = s.pr := rfl
@[simp] theorem State.withBk_qu : (s.withBk x).qu = s.qu := rfl
@[simp] theorem State.withBk_fl : (s.withBk x).fl = s.fl := rfl
@[simp] theorem State.withBk_sl : (s.withBk x).sl = s.sl := rfl
@[simp] theorem State.withBk_bk : (s.withBk x).bk = x := rfl
@[simp] theorem State.withBk_pins : (s.withBk x).pins = s.pins := rfl
@[simp] theorem State.withBk_due : (s.withBk x).due = s.due := rfl
@[simp] theorem State.withBk_pending : (s.withBk x).pending = s.pending := rfl

end

/-! ### withPins -/

section
variable (s : State) (x : Pins)

@[simp] theorem State.withPins_ovens : (s.withPins x).ovens = s.ovens := rfl
@[simp] theorem State.withPins_ovenCount : (s.withPins x).ovenCount = s.ovenCount := rfl
@[simp] theorem State.withPins_cc : (s.withPins x).cc = s.cc := rfl
@[simp] theorem State.withPins_su : (s.withPins x).su = s.su := rfl
@[simp] theorem State.withPins_pu : (s.withPins x).pu = s.pu := rfl
@[simp] theorem State.withPins_du : (s.withPins x).du = s.du := rfl
@[simp] theorem State.withPins_pr : (s.withPins x).pr = s.pr := rfl
@[simp] theorem State.withPins_qu : (s.withPins x).qu = s.qu := rfl
@[simp] theorem State.withPins_fl : (s.withPins x).fl = s.fl := rfl
@[simp] theorem State.withPins_sl : (s.withPins x).sl = s.sl := rfl
@[simp] theorem State.withPins_bk : (s.withPins x).bk = s.bk := rfl
@[simp] theorem State.withPins_pins : (s.withPins x).pins = x := rfl
@[simp] theorem State.withPins_due : (s.withPins x).due = s.due := rfl
@[simp] theorem State.withPins_pending : (s.withPins x).pending = s.pending := rfl

end

/-! ### withDue -/

section
variable (s : State) (x : List Instr)

@[simp] theorem State.withDue_ovens : (s.withDue x).ovens = s.ovens := rfl
@[simp] theorem State.withDue_ovenCount : (s.withDue x).ovenCount = s.ovenCount := rfl
@[simp] theorem State.withDue_cc : (s.withDue x).cc = s.cc := rfl
@[simp] theorem State.withDue_su : (s.withDue x).su = s.su := rfl
@[simp] theorem State.withDue_pu : (s.withDue x).pu = s.pu := rfl
@[simp] theorem State.withDue_du : (s.withDue x).du = s.du := rfl
@[simp] theorem State.withDue_pr : (s.withDue x).pr = s.pr := rfl
@[simp] theorem State.withDue_qu : (s.withDue x).qu = s.qu := rfl
@[simp] theorem State.withDue_fl : (s.withDue x).fl = s.fl := rfl
@[simp] theorem State.withDue_sl : (s.withDue x).sl = s.sl := rfl
@[simp] theorem State.withDue_bk : (s.withDue x).bk = s.bk := rfl
@[simp] theorem State.withDue_pins : (s.withDue x).pins = s.pins := rfl
@[simp] theorem State.withDue_due : (s.withDue x).due = x := rfl
@[simp] theorem State.withDue_pending : (s.withDue x).pending = s.pending := rfl

end

/-! ### withPending -/

section
variable (s : State) (x : List Instr)

@[simp] theorem State.withPending_ovens : (s.withPending x).ovens = s.ovens := rfl
@[simp] theorem State.withPending_ovenCount : (s.withPending x).ovenCount = s.ovenCount := rfl
@[simp] theorem State.withPending_cc : (s.withPending x).cc = s.cc := rfl
@[simp] theorem State.withPending_su : (s.withPending x).su = s.su := rfl
@[simp] theorem State.withPending_pu : (s.withPending x).pu = s.pu := rfl
@[simp] theorem State.withPending_du : (s.withPending x).du = s.du := rfl
@[simp] theorem State.withPending_pr : (s.withPending x).pr = s.pr := rfl
@[simp] theorem State.withPending_qu : (s.withPending x).qu = s.qu := rfl
@[simp] theorem State.withPending_fl : (s.withPending x).fl = s.fl := rfl
@[simp] theorem State.withPending_sl : (s.withPending x).sl = s.sl := rfl
@[simp] theorem State.withPending_bk : (s.withPending x).bk = s.bk := rfl
@[simp] theorem State.withPending_pins : (s.withPending x).pins = s.pins := rfl
@[simp] theorem State.withPending_due : (s.withPending x).due = s.due := rfl
@[simp] theorem State.withPending_pending : (s.withPending x).pending = x := rfl

end

/-! ### setOven -/

section
variable (s : State) (n : Nat) (o : Oven)

@[simp] theorem State.setOven_ovenCount : (s.setOven n o).ovenCount = s.ovenCount := rfl
@[simp] theorem State.setOven_cc : (s.setOven n o).cc = s.cc := rfl
@[simp] theorem State.setOven_su : (s.setOven n o).su = s.su := rfl
@[simp] theorem State.setOven_pu : (s.setOven n o).pu = s.pu := rfl
@[simp] theorem State.setOven_du : (s.setOven n o).du = s.du := rfl
@[simp] theorem State.setOven_pr : (s.setOven n o).pr = s.pr := rfl
@[simp] theorem State.setOven_qu : (s.setOven n o).qu = s.qu := rfl
@[simp] theorem State.setOven_fl : (s.setOven n o).fl = s.fl := rfl
@[simp] theorem State.setOven_sl : (s.setOven n o).sl = s.sl := rfl
@[simp] theorem State.setOven_bk : (s.setOven n o).bk = s.bk := rfl
@[simp] theorem State.setOven_pins : (s.setOven n o).pins = s.pins := rfl
@[simp] theorem State.setOven_due : (s.setOven n o).due = s.due := rfl
@[simp] theorem State.setOven_pending : (s.setOven n o).pending = s.pending := rfl

end

/-! ### setPhase -/

section
variable (s : State) (n : Nat) (p : Phase)

@[simp] theorem State.setPhase_ovenCount : (s.setPhase n p).ovenCount = s.ovenCount := rfl
@[simp] theorem State.setPhase_cc : (s.setPhase n p).cc = s.cc := rfl
@[simp] theorem State.setPhase_su : (s.setPhase n p).su = s.su := rfl
@[simp] theorem State.setPhase_pu : (s.setPhase n p).pu = s.pu := rfl
@[simp] theorem State.setPhase_du : (s.setPhase n p).du = s.du := rfl
@[simp] theorem State.setPhase_pr : (s.setPhase n p).pr = s.pr := rfl
@[simp] theorem State.setPhase_qu : (s.setPhase n p).qu = s.qu := rfl
@[simp] theorem State.setPhase_fl : (s.setPhase n p).fl = s.fl := rfl
@[simp] theorem State.setPhase_sl : (s.setPhase n p).sl = s.sl := rfl
@[simp] theorem State.setPhase_bk : (s.setPhase n p).bk = s.bk := rfl
@[simp] theorem State.setPhase_pins : (s.setPhase n p).pins = s.pins := rfl
@[simp] theorem State.setPhase_due : (s.setPhase n p).due = s.due := rfl
@[simp] theorem State.setPhase_pending : (s.setPhase n p).pending = s.pending := rfl

end

/-! ### setCar -/

section
variable (s : State) (c : Car) (r : CarRecord)

@[simp] theorem State.setCar_ovens : (s.setCar c r).ovens = s.ovens := rfl
@[simp] theorem State.setCar_ovenCount : (s.setCar c r).ovenCount = s.ovenCount := rfl
@[simp] theorem State.setCar_cc : (s.setCar c r).cc = s.cc := rfl
@[simp] theorem State.setCar_su : (s.setCar c r).su = s.su := rfl
@[simp] theorem State.setCar_pu : (s.setCar c r).pu = s.pu := rfl
@[simp] theorem State.setCar_du : (s.setCar c r).du = s.du := rfl
@[simp] theorem State.setCar_pr : (s.setCar c r).pr = s.pr := rfl
@[simp] theorem State.setCar_fl : (s.setCar c r).fl = s.fl := rfl
@[simp] theorem State.setCar_sl : (s.setCar c r).sl = s.sl := rfl
@[simp] theorem State.setCar_bk : (s.setCar c r).bk = s.bk := rfl
@[simp] theorem State.setCar_pins : (s.setCar c r).pins = s.pins := rfl
@[simp] theorem State.setCar_due : (s.setCar c r).due = s.due := rfl
@[simp] theorem State.setCar_pending : (s.setCar c r).pending = s.pending := rfl

end

/-! ### setPush -/

section
variable (s : State) (r : Option PushRecord)

@[simp] theorem State.setPush_ovens : (s.setPush r).ovens = s.ovens := rfl
@[simp] theorem State.setPush_ovenCount : (s.setPush r).ovenCount = s.ovenCount := rfl
@[simp] theorem State.setPush_cc : (s.setPush r).cc = s.cc := rfl
@[simp] theorem State.setPush_su : (s.setPush r).su = s.su := rfl
@[simp] theorem State.setPush_du : (s.setPush r).du = s.du := rfl
@[simp] theorem State.setPush_pr : (s.setPush r).pr = s.pr := rfl
@[simp] theorem State.setPush_qu : (s.setPush r).qu = s.qu := rfl
@[simp] theorem State.setPush_fl : (s.setPush r).fl = s.fl := rfl
@[simp] theorem State.setPush_sl : (s.setPush r).sl = s.sl := rfl
@[simp] theorem State.setPush_bk : (s.setPush r).bk = s.bk := rfl
@[simp] theorem State.setPush_pins : (s.setPush r).pins = s.pins := rfl
@[simp] theorem State.setPush_due : (s.setPush r).due = s.due := rfl
@[simp] theorem State.setPush_pending : (s.setPush r).pending = s.pending := rfl

end

/-! ### withMain -/

section
variable (s : State) (m : MainRecord)

@[simp] theorem State.withMain_ovens : (s.withMain m).ovens = s.ovens := rfl
@[simp] theorem State.withMain_ovenCount : (s.withMain m).ovenCount = s.ovenCount := rfl
@[simp] theorem State.withMain_cc : (s.withMain m).cc = s.cc := rfl
@[simp] theorem State.withMain_su : (s.withMain m).su = s.su := rfl
@[simp] theorem State.withMain_pu : (s.withMain m).pu = s.pu := rfl
@[simp] theorem State.withMain_du : (s.withMain m).du = s.du := rfl
@[simp] theorem State.withMain_qu : (s.withMain m).qu = s.qu := rfl
@[simp] theorem State.withMain_fl : (s.withMain m).fl = s.fl := rfl
@[simp] theorem State.withMain_sl : (s.withMain m).sl = s.sl := rfl
@[simp] theorem State.withMain_bk : (s.withMain m).bk = s.bk := rfl
@[simp] theorem State.withMain_pins : (s.withMain m).pins = s.pins := rfl
@[simp] theorem State.withMain_due : (s.withMain m).due = s.due := rfl
@[simp] theorem State.withMain_pending : (s.withMain m).pending = s.pending := rfl

end

/-! ### raise -/

section
variable (s : State) (b : NoticeBody)

@[simp] theorem State.raise_ovens : (s.raise b).ovens = s.ovens := rfl
@[simp] theorem State.raise_ovenCount : (s.raise b).ovenCount = s.ovenCount := rfl
@[simp] theorem State.raise_cc : (s.raise b).cc = s.cc := rfl
@[simp] theorem State.raise_su : (s.raise b).su = s.su := rfl
@[simp] theorem State.raise_pu : (s.raise b).pu = s.pu := rfl
@[simp] theorem State.raise_du : (s.raise b).du = s.du := rfl
@[simp] theorem State.raise_pr : (s.raise b).pr = s.pr := rfl
@[simp] theorem State.raise_qu : (s.raise b).qu = s.qu := rfl
@[simp] theorem State.raise_fl : (s.raise b).fl = s.fl := rfl
@[simp] theorem State.raise_bk : (s.raise b).bk = s.bk := rfl
@[simp] theorem State.raise_pins : (s.raise b).pins = s.pins := rfl
@[simp] theorem State.raise_due : (s.raise b).due = s.due := rfl
@[simp] theorem State.raise_pending : (s.raise b).pending = s.pending := rfl

end

/-! ### raiseAll -/

section
variable (s : State) (bs : List NoticeBody)

@[simp] theorem State.raiseAll_ovens : (s.raiseAll bs).ovens = s.ovens := rfl
@[simp] theorem State.raiseAll_ovenCount : (s.raiseAll bs).ovenCount = s.ovenCount := rfl
@[simp] theorem State.raiseAll_cc : (s.raiseAll bs).cc = s.cc := rfl
@[simp] theorem State.raiseAll_su : (s.raiseAll bs).su = s.su := rfl
@[simp] theorem State.raiseAll_pu : (s.raiseAll bs).pu = s.pu := rfl
@[simp] theorem State.raiseAll_du : (s.raiseAll bs).du = s.du := rfl
@[simp] theorem State.raiseAll_pr : (s.raiseAll bs).pr = s.pr := rfl
@[simp] theorem State.raiseAll_qu : (s.raiseAll bs).qu = s.qu := rfl
@[simp] theorem State.raiseAll_fl : (s.raiseAll bs).fl = s.fl := rfl
@[simp] theorem State.raiseAll_bk : (s.raiseAll bs).bk = s.bk := rfl
@[simp] theorem State.raiseAll_pins : (s.raiseAll bs).pins = s.pins := rfl
@[simp] theorem State.raiseAll_due : (s.raiseAll bs).due = s.due := rfl
@[simp] theorem State.raiseAll_pending : (s.raiseAll bs).pending = s.pending := rfl

end

/-! ### bring -/

section
variable (s : State) (cs : List Instr)

@[simp] theorem State.bring_ovens : (s.bring cs).ovens = s.ovens := rfl
@[simp] theorem State.bring_ovenCount : (s.bring cs).ovenCount = s.ovenCount := rfl
@[simp] theorem State.bring_cc : (s.bring cs).cc = s.cc := rfl
@[simp] theorem State.bring_su : (s.bring cs).su = s.su := rfl
@[simp] theorem State.bring_pu : (s.bring cs).pu = s.pu := rfl
@[simp] theorem State.bring_du : (s.bring cs).du = s.du := rfl
@[simp] theorem State.bring_pr : (s.bring cs).pr = s.pr := rfl
@[simp] theorem State.bring_qu : (s.bring cs).qu = s.qu := rfl
@[simp] theorem State.bring_fl : (s.bring cs).fl = s.fl := rfl
@[simp] theorem State.bring_sl : (s.bring cs).sl = s.sl := rfl
@[simp] theorem State.bring_bk : (s.bring cs).bk = s.bk := rfl
@[simp] theorem State.bring_pins : (s.bring cs).pins = s.pins := rfl
@[simp] theorem State.bring_pending : (s.bring cs).pending = s.pending := rfl

end

/-! ### bringOwed -/

section
variable (s : State) (cs : List Instr)

@[simp] theorem State.bringOwed_ovens : (s.bringOwed cs).ovens = s.ovens := rfl
@[simp] theorem State.bringOwed_ovenCount : (s.bringOwed cs).ovenCount = s.ovenCount := rfl
@[simp] theorem State.bringOwed_cc : (s.bringOwed cs).cc = s.cc := rfl
@[simp] theorem State.bringOwed_su : (s.bringOwed cs).su = s.su := rfl
@[simp] theorem State.bringOwed_pu : (s.bringOwed cs).pu = s.pu := rfl
@[simp] theorem State.bringOwed_du : (s.bringOwed cs).du = s.du := rfl
@[simp] theorem State.bringOwed_pr : (s.bringOwed cs).pr = s.pr := rfl
@[simp] theorem State.bringOwed_qu : (s.bringOwed cs).qu = s.qu := rfl
@[simp] theorem State.bringOwed_fl : (s.bringOwed cs).fl = s.fl := rfl
@[simp] theorem State.bringOwed_sl : (s.bringOwed cs).sl = s.sl := rfl
@[simp] theorem State.bringOwed_bk : (s.bringOwed cs).bk = s.bk := rfl
@[simp] theorem State.bringOwed_pins : (s.bringOwed cs).pins = s.pins := rfl
@[simp] theorem State.bringOwed_pending : (s.bringOwed cs).pending = s.pending := rfl

end

/-! ### Issuing commands touches the two links only -/

section
variable (s : State) (cs : List Outgoing)

@[simp] theorem State.issueAll_ovens : (s.issueAll cs).ovens = s.ovens := rfl
@[simp] theorem State.issueAll_ovenCount : (s.issueAll cs).ovenCount = s.ovenCount := rfl
@[simp] theorem State.issueAll_cc : (s.issueAll cs).cc = s.cc := rfl
@[simp] theorem State.issueAll_su : (s.issueAll cs).su = s.su := rfl
@[simp] theorem State.issueAll_pu : (s.issueAll cs).pu = s.pu := rfl
@[simp] theorem State.issueAll_du : (s.issueAll cs).du = s.du := rfl
@[simp] theorem State.issueAll_pr : (s.issueAll cs).pr = s.pr := rfl
@[simp] theorem State.issueAll_qu : (s.issueAll cs).qu = s.qu := rfl
@[simp] theorem State.issueAll_bk : (s.issueAll cs).bk = s.bk := rfl
@[simp] theorem State.issueAll_pins : (s.issueAll cs).pins = s.pins := rfl
@[simp] theorem State.issueAll_due : (s.issueAll cs).due = s.due := rfl
@[simp] theorem State.issueAll_pending : (s.issueAll cs).pending = s.pending := rfl

end

/-! ### Oven records -/

@[simp] theorem Oven.setValve_valve (o : Oven) (v : Valve) : (o.setValve v).valve = v := rfl
@[simp] theorem Oven.setValve_phase (o : Oven) (v : Valve) : (o.setValve v).phase = o.phase := rfl
@[simp] theorem Oven.setValve_progress (o : Oven) (v : Valve) : (o.setValve v).progress = o.progress := rfl
@[simp] theorem Oven.setValve_doorP (o : Oven) (v : Valve) : (o.setValve v).doorP = o.doorP := rfl
@[simp] theorem Oven.setValve_doorC (o : Oven) (v : Valve) : (o.setValve v).doorC = o.doorC := rfl
@[simp] theorem Oven.setDoor_valve (o : Oven) (d : Side) (x : Door) : (o.setDoor d x).valve = o.valve := by cases d <;> rfl
@[simp] theorem Oven.setDoor_phase (o : Oven) (d : Side) (x : Door) : (o.setDoor d x).phase = o.phase := by cases d <;> rfl
@[simp] theorem Oven.setDoor_progress (o : Oven) (d : Side) (x : Door) : (o.setDoor d x).progress = o.progress := by
  cases d <;> rfl
@[simp] theorem Oven.setDoor_self (o : Oven) (d : Side) (x : Door) : (o.setDoor d x).door d = x := by cases d <;> rfl
theorem Oven.setDoor_other (o : Oven) (d e : Side) (x : Door) (h : e ≠ d) : (o.setDoor d x).door e = o.door e := by
  cases d <;> cases e <;> first | rfl | exact absurd rfl h

end Sys2Proof.Machine
end

