-- ==== Sys2Proof/Laws/Ops.lean ====
section
/-!
SUPPORT. What each shared operation can do, said once: the oven table, the node table, cars and bays, notices, field commands,
events, requests taken, valve evaluation and the moves of cars. Proofs cite these and unfold no operation.
-/

namespace Sys2Proof.Machine

/-! ### The oven table -/

@[simp] theorem State.setOven_length (s : State) (n : Nat) (o : Oven) : (s.setOven n o).ovens.length = s.ovens.length := by
  simp [State.setOven]

theorem State.oven_setOven_self (s : State) (n : Nat) (o : Oven) (h : n - 1 < s.ovens.length) : (s.setOven n o).oven n = o := by
  simp [State.oven, State.setOven, h]

theorem State.oven_setOven_ne (s : State) (n m : Nat) (o : Oven) (h : m - 1 ≠ n - 1) : (s.setOven n o).oven m = s.oven m := by
  simp [State.oven, State.setOven, List.getD_eq_getElem?_getD, List.getElem?_set_ne (Ne.symm h)]

/-- A write to record n leaves every other record of the table (R1). -/
theorem State.othersKept_setOven (s : State) (n : Nat) (o : Oven) (hn : 0 < n) : OthersKept s (s.setOven n o) n := by
  intro m _ hm hne
  exact s.oven_setOven_ne n m o (by omega)

/-! ### The node table -/

theorem FieldLink.entry_setEntry_self (f : FieldLink) (x : Node) (e : NodeEntry) (h : x.index < f.nodes.length) :
    (f.setEntry x e).entry x = e := by
  simp [FieldLink.entry, FieldLink.setEntry, h]

theorem FieldLink.entry_setEntry_ne (f : FieldLink) (x y : Node) (e : NodeEntry) (h : y.index ≠ x.index) :
    (f.setEntry x e).entry y = f.entry y := by
  simp [FieldLink.entry, FieldLink.setEntry, List.getD_eq_getElem?_getD, List.getElem?_set_ne (Ne.symm h)]

/-- Different nodes have different places in the table (R177). -/
theorem Node.index_injective (x y : Node) (h : x.index = y.index) : x = y := by
  have key : ∀ a ∈ Node.all, ∀ b ∈ Node.all, a.index = b.index → a = b := by decide
  have all : ∀ a : Node, a ∈ Node.all := by
    intro a
    cases a with
    | car c => cases c <;> decide
    | oven m => revert m; decide
    | pusher => decide
    | guide => decide
    | tower => decide
    | main => decide
  exact key x (all x) y (all y) h

theorem Node.index_lt (x : Node) : x.index < 18 := by
  cases x with
  | car c => cases c <;> decide
  | oven m => revert m; decide
  | pusher => decide
  | guide => decide
  | tower => decide
  | main => decide

/-! ### Cars and bays -/

@[simp] theorem QuenchUnit.car_setCar_self (q : QuenchUnit) (c : Car) (r : CarRecord) : (q.setCar c r).car c = r := by
  cases c <;> rfl

theorem QuenchUnit.car_setCar_ne (q : QuenchUnit) (c d : Car) (r : CarRecord) (h : d ≠ c) : (q.setCar c r).car d = q.car d := by
  cases c <;> cases d <;> first | rfl | exact absurd rfl h

@[simp] theorem QuenchUnit.setCar_holder (q : QuenchUnit) (c : Car) (r : CarRecord) : (q.setCar c r).holder = q.holder := by
  cases c <;> rfl
@[simp] theorem QuenchUnit.setCar_waiters (q : QuenchUnit) (c : Car) (r : CarRecord) : (q.setCar c r).waiters = q.waiters := by
  cases c <;> rfl
@[simp] theorem QuenchUnit.setCar_bayWaiters (q : QuenchUnit) (c : Car) (r : CarRecord) :
    (q.setCar c r).bayWaiters = q.bayWaiters := by
  cases c <;> rfl
@[simp] theorem QuenchUnit.setCar_bays (q : QuenchUnit) (c : Car) (r : CarRecord) : (q.setCar c r).bays = q.bays := by
  cases c <;> rfl
@[simp] theorem QuenchUnit.setCar_limits (q : QuenchUnit) (c : Car) (r : CarRecord) : (q.setCar c r).limits = q.limits := by
  cases c <;> rfl
@[simp] theorem QuenchUnit.setBay_car (q : QuenchUnit) (b : Nat) (x : Bay) (c : Car) : (q.setBay b x).car c = q.car c := by
  cases c <;> rfl
@[simp] theorem State.car_setCar_self (s : State) (c : Car) (r : CarRecord) : (s.setCar c r).car c = r := by
  simp [State.car, State.setCar]

theorem QuenchUnit.bay_setBay_self (q : QuenchUnit) (b : Nat) (x : Bay) (h : b - 1 < q.bays.length) : (q.setBay b x).bay b = x := by
  simp [QuenchUnit.bay, QuenchUnit.setBay, h]

theorem QuenchUnit.bay_setBay_ne (q : QuenchUnit) (a b : Nat) (x : Bay) (h : a - 1 ≠ b - 1) : (q.setBay b x).bay a = q.bay a := by
  simp [QuenchUnit.bay, QuenchUnit.setBay, List.getD_eq_getElem?_getD, List.getElem?_set_ne (Ne.symm h)]

/-! ### Notices (R191 to R193) -/

/-- A transmitter that is busy, or has no reply and no S_RTS, chooses nothing. -/
theorem SupLink.choose_of_wait (l : SupLink) (h : l.transmitter ≠ .idle ∨ (l.rts = false ∧ l.replySlot = none)) : l.choose = l := by
  unfold SupLink.choose
  split <;> simp_all

/-- A free transmitter with a reply in the slot begins it. -/
theorem SupLink.choose_reply (l : SupLink) (f : Frame) (h : l.replySlot = some f) :
    l.choose = { l with transmitter := if l.transmitter = .idle then .reply else l.transmitter } := by
  obtain ⟨receiver, spare, inService, replySlot, notices, noticeLost, discards, overruns, transmitter, rts, baud⟩ := l
  cases h
  cases transmitter <;> rfl

/-- A notice raised with room while none can be begun joins the tail of the queue (R191). -/
theorem State.raise_of_room (s : State) (b : NoticeBody) (h : s.NoticeRoom 1) (w : s.NoticesWait) :
    s.raise b = s.withSl { s.sl with notices := s.sl.notices ++ [⟨s.bk.seconds, b⟩] } := by
  have h' : s.sl.notices.length < Config.noticeRoom := h
  unfold State.raise SupLink.raise
  rw [if_pos h', SupLink.choose_of_wait _ (by exact w)]

theorem State.raise_noticesOnly (s : State) (b : NoticeBody) (h : s.NoticeRoom 1) (w : s.NoticesWait) :
    NoticesOnly s (s.raise b) [b] := by
  rw [s.raise_of_room b h w]; rfl

/-- A notice raised with the queue full sets notice-lost and nothing else (R192). -/
theorem State.raise_of_full (s : State) (b : NoticeBody) (h : Config.noticeRoom ≤ s.sl.notices.length) :
    s.raise b = s.withSl { s.sl with noticeLost := true } := by
  unfold State.raise SupLink.raise
  rw [if_neg (by omega)]

/-! ### Field commands (R175, R176) -/

@[simp] theorem FieldLink.begin_queue (f : FieldLink) : f.begin.queue = f.queue := by unfold FieldLink.begin; split <;> [split; skip] <;> rfl
@[simp] theorem FieldLink.begin_nodes (f : FieldLink) : f.begin.nodes = f.nodes := by unfold FieldLink.begin; split <;> [split; skip] <;> rfl
@[simp] theorem FieldLink.begin_fullRaised (f : FieldLink) : f.begin.fullRaised = f.fullRaised := by
  unfold FieldLink.begin; split <;> [split; skip] <;> rfl

/-- A command that finds room takes the tail of the queue (R175). -/
theorem FieldLink.enqueue_of_room (f : FieldLink) (o : Outgoing) (h : f.queue.length < Config.fieldRoom) :
    (f.enqueue o).queue = f.queue ++ [o] ∧ (f.enqueue o).nodes = f.nodes ∧ (f.enqueue o).fullRaised = f.fullRaised := by
  unfold FieldLink.enqueue
  rw [if_pos h]
  simp

@[simp] theorem FieldLink.enqueue_nodes (f : FieldLink) (o : Outgoing) : (f.enqueue o).nodes = f.nodes := by
  unfold FieldLink.enqueue
  split <;> simp

theorem issueFold_of_room (k : Word) (cs : List Outgoing) : ∀ p : FieldLink × SupLink,
    p.1.queue.length + cs.length ≤ Config.fieldRoom →
    (cs.foldl (issueStep k) p).1.queue = p.1.queue ++ cs ∧ (cs.foldl (issueStep k) p).1.nodes = p.1.nodes ∧
      (cs.foldl (issueStep k) p).1.fullRaised = p.1.fullRaised ∧ (cs.foldl (issueStep k) p).2 = p.2 := by
  induction cs with
  | nil => intro p _; simp
  | cons c cs ih =>
    intro p h
    have hl : p.1.queue.length < Config.fieldRoom := by simp only [List.length_cons] at h; omega
    obtain ⟨q, n, f⟩ := p.1.enqueue_of_room c hl
    have step : (issueStep k p c).2 = p.2 := by simp [issueStep, hl]
    have first : (issueStep k p c).1 = p.1.enqueue c := rfl
    have := ih (issueStep k p c) (by rw [first, q]; simp only [List.length_append, List.length_cons, List.length_nil] at h ⊢; omega)
    rw [first, q, n, f, step] at this
    simpa [List.foldl_cons, List.append_assoc] using this

/-- Commands issued with room join the queue in order; no notice is raised (R175). -/
theorem State.issueAll_of_room (s : State) (cs : List Outgoing) (h : s.FieldRoom cs.length) :
    Issued s (s.issueAll cs) cs ∧ (s.issueAll cs).sl = s.sl := by
  obtain ⟨a, b, c, d⟩ := issueFold_of_room s.bk.seconds cs (s.fl, s.sl) h
  exact ⟨⟨a, b, c⟩, d⟩

@[simp] theorem State.issueAll_nodes (s : State) (cs : List Outgoing) : (s.issueAll cs).fl.nodes = s.fl.nodes := by
  have key : ∀ (cs : List Outgoing) (p : FieldLink × SupLink), (cs.foldl (issueStep s.bk.seconds) p).1.nodes = p.1.nodes := by
    intro cs
    induction cs with
    | nil => intro p; rfl
    | cons c cs ih => intro p; rw [List.foldl_cons, ih]; exact p.1.enqueue_nodes c
  exact key cs (s.fl, s.sl)

@[simp] theorem State.issueAll_nil (s : State) : s.issueAll [] = s := rfl

/-! ### Events and requests -/

theorem State.event_of_run (s : State) (c : Instr) (f : State → State) (h : s.pins.inReset = false) :
    s.event c f = .next (f (s.withDue (s.due.erase c))) := by
  simp [State.event, h]

theorem State.event_of_reset (s : State) (c : Instr) (f : State → State) (h : s.pins.inReset = true) : s.event c f = .next s := by
  simp [State.event, h]

theorem State.checked_of_wf (s : State) (c : Instr) (f : State → State) (h : c.wf = true) : s.checked c f = s.event c f := by
  simp [State.checked, h]

theorem State.checked_of_illFormed (s : State) (c : Instr) (f : State → State) (h : c.wf = false) :
    s.checked c f = .fault .illFormed := by
  simp [State.checked, h]

/-- A request that finds SL free is served at once (R186, R187). -/
theorem hostRequest_of_free (c : Instr) (f : Frame) (owner : State → Answer) (s : State) (e : encodeRequest c = some f)
    (w : c.wf = true) (h : s.Free) (t : f.tag ≠ 0) :
    hostRequest c owner s = .next (serve f owner (s.withDue (s.due.erase c))) := by
  obtain ⟨r, i, p⟩ := h
  simp only [hostRequest, e, s.checked_of_wf c _ w, s.event_of_run c _ r, acceptFrame, State.withDue_sl, i, p, takeRequest,
    if_neg t]

/-- A request whose owner leaves SL alone is answered, and SL is as `Answered` says (R186 to R193). -/
theorem serve_answered (f : Frame) (owner : State → Answer) (s : State) (x : Status) (fields : List Byte)
    (hx : (owner (s.withSl { s.sl with inService := some f })).status = x)
    (hf : (owner (s.withSl { s.sl with inService := some f })).fields = fields)
    (hl : (owner (s.withSl { s.sl with inService := some f })).state.sl = { s.sl with inService := some f }) :
    (serve f owner s).sl = { s.sl with
      inService := some f
      replySlot := some ⟨replyKind f.kind, f.tag, x.code ::
        (owner (s.withSl { s.sl with inService := some f })).state.stateByte :: fields⟩
      noticeLost := false
      transmitter := if s.sl.transmitter = .idle then .reply else s.sl.transmitter } := by
  subst hx hf
  simp only [serve, State.withSl_sl, SupLink.answer, hl]
  rw [SupLink.choose_reply _ _ rfl]
  rfl

/-! ### Valve evaluation (R112, R113) -/

/-- The mode after an evaluation is the mode it gave. -/
@[simp] theorem turnTo_mode (n : Nat) (m : ValveMode) (v : Valve) : (turnTo n m v).1.mode = m := by
  unfold turnTo
  split
  · rename_i h; exact h.symm
  · cases m <;> rfl

/-- The mode in force changes nothing and sends nothing (R112). -/
theorem turnTo_same (n : Nat) (v : Valve) : turnTo n v.mode v = (v, []) := by simp [turnTo]

/-- An evaluation writes the valve of its oven alone. -/
theorem State.evalValve_oven_self (s : State) (n : Nat) (h : n - 1 < s.ovens.length) :
    (s.evalValve n).oven n = (s.oven n).setValve (turnTo n (s.valveMode n) (s.oven n).valve).1 := by
  simp only [State.evalValve, State.applyValve, State.oven, State.issueAll_ovens]
  exact s.oven_setOven_self n _ h

theorem State.evalValve_oven_ne (s : State) (n m : Nat) (h : m - 1 ≠ n - 1) : (s.evalValve n).oven m = s.oven m := by
  simp only [State.evalValve, State.applyValve, State.oven, State.issueAll_ovens]
  exact s.oven_setOven_ne n m _ h

/-- An evaluation that gives the mode in force issues nothing. -/
theorem State.evalValve_links_of_same (s : State) (n : Nat) (h : s.valveMode n = (s.oven n).valve.mode) :
    (s.evalValve n).fl = s.fl ∧ (s.evalValve n).sl = s.sl := by
  simp [State.evalValve, State.applyValve, h, turnTo_same]

/-! ### What evalValve leaves -/

section
variable (s : State) (n : Nat)

@[simp] theorem State.evalValve_ovenCount : (s.evalValve n).ovenCount = s.ovenCount := by
  simp [State.evalValve, State.applyValve]
@[simp] theorem State.evalValve_cc : (s.evalValve n).cc = s.cc := by
  simp [State.evalValve, State.applyValve]
@[simp] theorem State.evalValve_su : (s.evalValve n).su = s.su := by
  simp [State.evalValve, State.applyValve]
@[simp] theorem State.evalValve_pu : (s.evalValve n).pu = s.pu := by
  simp [State.evalValve, State.applyValve]
@[simp] theorem State.evalValve_du : (s.evalValve n).du = s.du := by
  simp [State.evalValve, State.applyValve]
@[simp] theorem State.evalValve_pr : (s.evalValve n).pr = s.pr := by
  simp [State.evalValve, State.applyValve]
@[simp] theorem State.evalValve_qu : (s.evalValve n).qu = s.qu := by
  simp [State.evalValve, State.applyValve]
@[simp] theorem State.evalValve_bk : (s.evalValve n).bk = s.bk := by
  simp [State.evalValve, State.applyValve]
@[simp] theorem State.evalValve_pins : (s.evalValve n).pins = s.pins := by
  simp [State.evalValve, State.applyValve]
@[simp] theorem State.evalValve_due : (s.evalValve n).due = s.due := by
  simp [State.evalValve, State.applyValve]
@[simp] theorem State.evalValve_pending : (s.evalValve n).pending = s.pending := by
  simp [State.evalValve, State.applyValve]

end

/-! ### The main floor -/

@[simp] theorem State.setFloor_floorOn (s : State) (on : Bool) : (s.setFloor on).pr.floorOn = on := rfl
@[simp] theorem State.setFloor_main (s : State) (on : Bool) : (s.setFloor on).pr.main = s.pr.main := rfl
@[simp] theorem State.setFloor_fl (s : State) (on : Bool) : (s.setFloor on).fl = s.fl := rfl
@[simp] theorem State.setFloor_bk (s : State) (on : Bool) : (s.setFloor on).bk = s.bk := rfl
@[simp] theorem State.setFloor_due (s : State) (on : Bool) : (s.setFloor on).due = s.due := rfl

/-- The floor is none once it is withdrawn, whatever m is (R125, R133). -/
theorem State.mainFloor_withdrawn (s : State) : (s.setFloor false).mainFloor = none := rfl

/-! ### What turnMain and evalMain leave -/

section
variable (s : State) (m : ValveMode)

@[simp] theorem State.turnMain_ovens : (s.turnMain m).ovens = s.ovens := by
  unfold State.turnMain State.sendMainManual State.issue; split <;> [rfl; (split <;> simp)]
@[simp] theorem State.turnMain_ovenCount : (s.turnMain m).ovenCount = s.ovenCount := by
  unfold State.turnMain State.sendMainManual State.issue; split <;> [rfl; (split <;> simp)]
@[simp] theorem State.turnMain_cc : (s.turnMain m).cc = s.cc := by
  unfold State.turnMain State.sendMainManual State.issue; split <;> [rfl; (split <;> simp)]
@[simp] theorem State.turnMain_su : (s.turnMain m).su = s.su := by
  unfold State.turnMain State.sendMainManual State.issue; split <;> [rfl; (split <;> simp)]
@[simp] theorem State.turnMain_pu : (s.turnMain m).pu = s.pu := by
  unfold State.turnMain State.sendMainManual State.issue; split <;> [rfl; (split <;> simp)]
@[simp] theorem State.turnMain_du : (s.turnMain m).du = s.du := by
  unfold State.turnMain State.sendMainManual State.issue; split <;> [rfl; (split <;> simp)]
@[simp] theorem State.turnMain_qu : (s.turnMain m).qu = s.qu := by
  unfold State.turnMain State.sendMainManual State.issue; split <;> [rfl; (split <;> simp)]
@[simp] theorem State.turnMain_bk : (s.turnMain m).bk = s.bk := by
  unfold State.turnMain State.sendMainManual State.issue; split <;> [rfl; (split <;> simp)]
@[simp] theorem State.turnMain_pins : (s.turnMain m).pins = s.pins := by
  unfold State.turnMain State.sendMainManual State.issue; split <;> [rfl; (split <;> simp)]
@[simp] theorem State.turnMain_due : (s.turnMain m).due = s.due := by
  unfold State.turnMain State.sendMainManual State.issue; split <;> [rfl; (split <;> simp)]
@[simp] theorem State.turnMain_pending : (s.turnMain m).pending = s.pending := by
  unfold State.turnMain State.sendMainManual State.issue; split <;> [rfl; (split <;> simp)]

/-- A turn of the main leaves the main floor as it stands (R180). -/
@[simp] theorem State.turnMain_floorOn : (s.turnMain m).pr.floorOn = s.pr.floorOn := by
  unfold State.turnMain State.sendMainManual State.issue State.withMain; split <;> [rfl; (split <;> simp)]
@[simp] theorem State.evalMain_floorOn : s.evalMain.pr.floorOn = s.pr.floorOn := s.turnMain_floorOn _

@[simp] theorem State.evalMain_ovens : s.evalMain.ovens = s.ovens := s.turnMain_ovens _
@[simp] theorem State.evalMain_ovenCount : s.evalMain.ovenCount = s.ovenCount := s.turnMain_ovenCount _
@[simp] theorem State.evalMain_cc : s.evalMain.cc = s.cc := s.turnMain_cc _
@[simp] theorem State.evalMain_su : s.evalMain.su = s.su := s.turnMain_su _
@[simp] theorem State.evalMain_pu : s.evalMain.pu = s.pu := s.turnMain_pu _
@[simp] theorem State.evalMain_du : s.evalMain.du = s.du := s.turnMain_du _
@[simp] theorem State.evalMain_qu : s.evalMain.qu = s.qu := s.turnMain_qu _
@[simp] theorem State.evalMain_bk : s.evalMain.bk = s.bk := s.turnMain_bk _
@[simp] theorem State.evalMain_pins : s.evalMain.pins = s.pins := s.turnMain_pins _
@[simp] theorem State.evalMain_due : s.evalMain.due = s.due := s.turnMain_due _
@[simp] theorem State.evalMain_pending : s.evalMain.pending = s.pending := s.turnMain_pending _

end

/-! ### What evalSample leaves -/

section
variable (s : State) (n : Nat)

@[simp] theorem State.evalSample_ovenCount : (s.evalSample n).ovenCount = s.ovenCount := by
  simp [State.evalSample, State.applyValve]
@[simp] theorem State.evalSample_cc : (s.evalSample n).cc = s.cc := by
  simp [State.evalSample, State.applyValve]
@[simp] theorem State.evalSample_su : (s.evalSample n).su = s.su := by
  simp [State.evalSample, State.applyValve]
@[simp] theorem State.evalSample_pu : (s.evalSample n).pu = s.pu := by
  simp [State.evalSample, State.applyValve]
@[simp] theorem State.evalSample_du : (s.evalSample n).du = s.du := by
  simp [State.evalSample, State.applyValve]
@[simp] theorem State.evalSample_pr : (s.evalSample n).pr = s.pr := by
  simp [State.evalSample, State.applyValve]
@[simp] theorem State.evalSample_qu : (s.evalSample n).qu = s.qu := by
  simp [State.evalSample, State.applyValve]
@[simp] theorem State.evalSample_bk : (s.evalSample n).bk = s.bk := by
  simp [State.evalSample, State.applyValve]
@[simp] theorem State.evalSample_pins : (s.evalSample n).pins = s.pins := by
  simp [State.evalSample, State.applyValve]
@[simp] theorem State.evalSample_due : (s.evalSample n).due = s.due := by
  simp [State.evalSample, State.applyValve]
@[simp] theorem State.evalSample_pending : (s.evalSample n).pending = s.pending := by
  simp [State.evalSample, State.applyValve]

/-- With the node's return taken at PR, a sample evaluates as every other event does (R118). -/
theorem State.evalSample_of_heard (h : s.hearsOven n = s.live (servingNode n)) : s.evalSample n = s.evalValve n := by
  simp [State.evalSample, State.evalValve, State.valveMode, h]

end

/-! ### What evalSilent leaves -/

section
variable (s : State) (n : Nat)

@[simp] theorem State.evalSilent_ovenCount : (s.evalSilent n).ovenCount = s.ovenCount := by
  simp [State.evalSilent, State.applyValve]
@[simp] theorem State.evalSilent_cc : (s.evalSilent n).cc = s.cc := by
  simp [State.evalSilent, State.applyValve]
@[simp] theorem State.evalSilent_su : (s.evalSilent n).su = s.su := by
  simp [State.evalSilent, State.applyValve]
@[simp] theorem State.evalSilent_pu : (s.evalSilent n).pu = s.pu := by
  simp [State.evalSilent, State.applyValve]
@[simp] theorem State.evalSilent_du : (s.evalSilent n).du = s.du := by
  simp [State.evalSilent, State.applyValve]
@[simp] theorem State.evalSilent_pr : (s.evalSilent n).pr = s.pr := by
  simp [State.evalSilent, State.applyValve]
@[simp] theorem State.evalSilent_qu : (s.evalSilent n).qu = s.qu := by
  simp [State.evalSilent, State.applyValve]
@[simp] theorem State.evalSilent_bk : (s.evalSilent n).bk = s.bk := by
  simp [State.evalSilent, State.applyValve]
@[simp] theorem State.evalSilent_pins : (s.evalSilent n).pins = s.pins := by
  simp [State.evalSilent, State.applyValve]
@[simp] theorem State.evalSilent_due : (s.evalSilent n).due = s.due := by
  simp [State.evalSilent, State.applyValve]
@[simp] theorem State.evalSilent_pending : (s.evalSilent n).pending = s.pending := by
  simp [State.evalSilent, State.applyValve]

/-- Of a node that is not LIVE, its silence evaluates as every other event does (R118). -/
theorem State.evalSilent_of_not_live (h : s.live (servingNode n) = false) : s.evalSilent n = s.evalValve n := by
  simp [State.evalSilent, State.evalValve, State.valveMode, h]

end

/-! ### What moveCar leaves -/

section
variable (s : State) (c : Car) (l : Location) (r : CarRecord)

/-- Under ESTOP# a move is held, and a move still running is ended by HALT (R161). -/
theorem State.moveCar_held (h : s.pins.estop = true) : s.moveCar c l r =
    (s.setCar c { r with target := some l, travelTimer := none }).issueAll
      (if r.travelTimer.isSome then [toCar c .halt] else []) := by simp [State.moveCar, h]

/-- With ESTOP# released a move is sent and its travel timer loaded (R157). -/
theorem State.moveCar_sent (h : s.pins.estop = false) : s.moveCar c l r =
    (s.setCar c { r with target := some l, travelTimer := some s.qu.limits.travel }).issue (.car c) (.move l) := by
  simp [State.moveCar, h]

@[simp] theorem State.moveCar_ovens : (s.moveCar c l r).ovens = s.ovens := by
  unfold State.moveCar State.issue; split <;> simp
@[simp] theorem State.moveCar_ovenCount : (s.moveCar c l r).ovenCount = s.ovenCount := by
  unfold State.moveCar State.issue; split <;> simp
@[simp] theorem State.moveCar_cc : (s.moveCar c l r).cc = s.cc := by
  unfold State.moveCar State.issue; split <;> simp
@[simp] theorem State.moveCar_su : (s.moveCar c l r).su = s.su := by
  unfold State.moveCar State.issue; split <;> simp
@[simp] theorem State.moveCar_pu : (s.moveCar c l r).pu = s.pu := by
  unfold State.moveCar State.issue; split <;> simp
@[simp] theorem State.moveCar_du : (s.moveCar c l r).du = s.du := by
  unfold State.moveCar State.issue; split <;> simp
@[simp] theorem State.moveCar_pr : (s.moveCar c l r).pr = s.pr := by
  unfold State.moveCar State.issue; split <;> simp
@[simp] theorem State.moveCar_bk : (s.moveCar c l r).bk = s.bk := by
  unfold State.moveCar State.issue; split <;> simp
@[simp] theorem State.moveCar_pins : (s.moveCar c l r).pins = s.pins := by
  unfold State.moveCar State.issue; split <;> simp
@[simp] theorem State.moveCar_due : (s.moveCar c l r).due = s.due := by
  unfold State.moveCar State.issue; split <;> simp
@[simp] theorem State.moveCar_pending : (s.moveCar c l r).pending = s.pending := by
  unfold State.moveCar State.issue; split <;> simp

end

/-! ### What claimCar leaves -/

section
variable (s : State) (c : Car) (n : Nat)

@[simp] theorem State.claimCar_ovens : (s.claimCar c n).ovens = s.ovens := by
  simp [State.claimCar]
@[simp] theorem State.claimCar_ovenCount : (s.claimCar c n).ovenCount = s.ovenCount := by
  simp [State.claimCar]
@[simp] theorem State.claimCar_cc : (s.claimCar c n).cc = s.cc := by
  simp [State.claimCar]
@[simp] theorem State.claimCar_su : (s.claimCar c n).su = s.su := by
  simp [State.claimCar]
@[simp] theorem State.claimCar_pu : (s.claimCar c n).pu = s.pu := by
  simp [State.claimCar]
@[simp] theorem State.claimCar_du : (s.claimCar c n).du = s.du := by
  simp [State.claimCar]
@[simp] theorem State.claimCar_pr : (s.claimCar c n).pr = s.pr := by
  simp [State.claimCar]
@[simp] theorem State.claimCar_bk : (s.claimCar c n).bk = s.bk := by
  simp [State.claimCar]
@[simp] theorem State.claimCar_pins : (s.claimCar c n).pins = s.pins := by
  simp [State.claimCar]
@[simp] theorem State.claimCar_due : (s.claimCar c n).due = s.due := by
  simp [State.claimCar]
@[simp] theorem State.claimCar_pending : (s.claimCar c n).pending = s.pending := by
  simp [State.claimCar]

end

/-! ### What releaseCar leaves -/

section
variable (s : State) (c : Car)

@[simp] theorem State.releaseCar_ovens : (s.releaseCar c).ovens = s.ovens := by
  simp [State.releaseCar]
@[simp] theorem State.releaseCar_ovenCount : (s.releaseCar c).ovenCount = s.ovenCount := by
  simp [State.releaseCar]
@[simp] theorem State.releaseCar_cc : (s.releaseCar c).cc = s.cc := by
  simp [State.releaseCar]
@[simp] theorem State.releaseCar_su : (s.releaseCar c).su = s.su := by
  simp [State.releaseCar]
@[simp] theorem State.releaseCar_pu : (s.releaseCar c).pu = s.pu := by
  simp [State.releaseCar]
@[simp] theorem State.releaseCar_du : (s.releaseCar c).du = s.du := by
  simp [State.releaseCar]
@[simp] theorem State.releaseCar_pr : (s.releaseCar c).pr = s.pr := by
  simp [State.releaseCar]
@[simp] theorem State.releaseCar_bk : (s.releaseCar c).bk = s.bk := by
  simp [State.releaseCar]
@[simp] theorem State.releaseCar_pins : (s.releaseCar c).pins = s.pins := by
  simp [State.releaseCar]
@[simp] theorem State.releaseCar_due : (s.releaseCar c).due = s.due := by
  simp [State.releaseCar]
@[simp] theorem State.releaseCar_pending : (s.releaseCar c).pending = s.pending := by
  simp [State.releaseCar]

end

/-! ### What grantTower leaves -/

section
variable (s : State) (c : Car)

@[simp] theorem State.grantTower_ovens : (s.grantTower c).ovens = s.ovens := by
  simp [State.grantTower]
@[simp] theorem State.grantTower_ovenCount : (s.grantTower c).ovenCount = s.ovenCount := by
  simp [State.grantTower]
@[simp] theorem State.grantTower_cc : (s.grantTower c).cc = s.cc := by
  simp [State.grantTower]
@[simp] theorem State.grantTower_su : (s.grantTower c).su = s.su := by
  simp [State.grantTower]
@[simp] theorem State.grantTower_pu : (s.grantTower c).pu = s.pu := by
  simp [State.grantTower]
@[simp] theorem State.grantTower_du : (s.grantTower c).du = s.du := by
  simp [State.grantTower]
@[simp] theorem State.grantTower_pr : (s.grantTower c).pr = s.pr := by
  simp [State.grantTower]
@[simp] theorem State.grantTower_bk : (s.grantTower c).bk = s.bk := by
  simp [State.grantTower]
@[simp] theorem State.grantTower_pins : (s.grantTower c).pins = s.pins := by
  simp [State.grantTower]
@[simp] theorem State.grantTower_due : (s.grantTower c).due = s.due := by
  simp [State.grantTower]
@[simp] theorem State.grantTower_pending : (s.grantTower c).pending = s.pending := by
  simp [State.grantTower]

end

/-! ### What dispatchCar leaves -/

section
variable (s : State) (c : Car)

@[simp] theorem State.dispatchCar_ovens : (s.dispatchCar c).ovens = s.ovens := by
  unfold State.dispatchCar; split <;> simp
@[simp] theorem State.dispatchCar_ovenCount : (s.dispatchCar c).ovenCount = s.ovenCount := by
  unfold State.dispatchCar; split <;> simp
@[simp] theorem State.dispatchCar_cc : (s.dispatchCar c).cc = s.cc := by
  unfold State.dispatchCar; split <;> simp
@[simp] theorem State.dispatchCar_su : (s.dispatchCar c).su = s.su := by
  unfold State.dispatchCar; split <;> simp
@[simp] theorem State.dispatchCar_pu : (s.dispatchCar c).pu = s.pu := by
  unfold State.dispatchCar; split <;> simp
@[simp] theorem State.dispatchCar_du : (s.dispatchCar c).du = s.du := by
  unfold State.dispatchCar; split <;> simp
@[simp] theorem State.dispatchCar_pr : (s.dispatchCar c).pr = s.pr := by
  unfold State.dispatchCar; split <;> simp
@[simp] theorem State.dispatchCar_bk : (s.dispatchCar c).bk = s.bk := by
  unfold State.dispatchCar; split <;> simp
@[simp] theorem State.dispatchCar_pins : (s.dispatchCar c).pins = s.pins := by
  unfold State.dispatchCar; split <;> simp
@[simp] theorem State.dispatchCar_due : (s.dispatchCar c).due = s.due := by
  unfold State.dispatchCar; split <;> simp
@[simp] theorem State.dispatchCar_pending : (s.dispatchCar c).pending = s.pending := by
  unfold State.dispatchCar; split <;> simp

end

/-! ### What releaseTower leaves -/

section
variable (s : State) 

@[simp] theorem State.releaseTower_ovens : (s.releaseTower).ovens = s.ovens := by
  unfold State.releaseTower; split <;> simp
@[simp] theorem State.releaseTower_ovenCount : (s.releaseTower).ovenCount = s.ovenCount := by
  unfold State.releaseTower; split <;> simp
@[simp] theorem State.releaseTower_cc : (s.releaseTower).cc = s.cc := by
  unfold State.releaseTower; split <;> simp
@[simp] theorem State.releaseTower_su : (s.releaseTower).su = s.su := by
  unfold State.releaseTower; split <;> simp
@[simp] theorem State.releaseTower_pu : (s.releaseTower).pu = s.pu := by
  unfold State.releaseTower; split <;> simp
@[simp] theorem State.releaseTower_du : (s.releaseTower).du = s.du := by
  unfold State.releaseTower; split <;> simp
@[simp] theorem State.releaseTower_pr : (s.releaseTower).pr = s.pr := by
  unfold State.releaseTower; split <;> simp
@[simp] theorem State.releaseTower_bk : (s.releaseTower).bk = s.bk := by
  unfold State.releaseTower; split <;> simp
@[simp] theorem State.releaseTower_pins : (s.releaseTower).pins = s.pins := by
  unfold State.releaseTower; split <;> simp
@[simp] theorem State.releaseTower_due : (s.releaseTower).due = s.due := by
  unfold State.releaseTower; split <;> simp
@[simp] theorem State.releaseTower_pending : (s.releaseTower).pending = s.pending := by
  unfold State.releaseTower; split <;> simp

end

/-! ### What reserveBay leaves -/

section
variable (s : State) (b : Nat) (c : Car)

@[simp] theorem State.reserveBay_ovens : (s.reserveBay b c).ovens = s.ovens := by
  simp [State.reserveBay]
@[simp] theorem State.reserveBay_ovenCount : (s.reserveBay b c).ovenCount = s.ovenCount := by
  simp [State.reserveBay]
@[simp] theorem State.reserveBay_cc : (s.reserveBay b c).cc = s.cc := by
  simp [State.reserveBay]
@[simp] theorem State.reserveBay_su : (s.reserveBay b c).su = s.su := by
  simp [State.reserveBay]
@[simp] theorem State.reserveBay_pu : (s.reserveBay b c).pu = s.pu := by
  simp [State.reserveBay]
@[simp] theorem State.reserveBay_du : (s.reserveBay b c).du = s.du := by
  simp [State.reserveBay]
@[simp] theorem State.reserveBay_pr : (s.reserveBay b c).pr = s.pr := by
  simp [State.reserveBay]
@[simp] theorem State.reserveBay_bk : (s.reserveBay b c).bk = s.bk := by
  simp [State.reserveBay]
@[simp] theorem State.reserveBay_pins : (s.reserveBay b c).pins = s.pins := by
  simp [State.reserveBay]
@[simp] theorem State.reserveBay_due : (s.reserveBay b c).due = s.due := by
  simp [State.reserveBay]
@[simp] theorem State.reserveBay_pending : (s.reserveBay b c).pending = s.pending := by
  simp [State.reserveBay]

end

/-! ### What freeBay leaves -/

section
variable (s : State) (b : Nat)

@[simp] theorem State.freeBay_ovens : (s.freeBay b).ovens = s.ovens := by
  unfold State.freeBay; split <;> simp
@[simp] theorem State.freeBay_ovenCount : (s.freeBay b).ovenCount = s.ovenCount := by
  unfold State.freeBay; split <;> simp
@[simp] theorem State.freeBay_cc : (s.freeBay b).cc = s.cc := by
  unfold State.freeBay; split <;> simp
@[simp] theorem State.freeBay_su : (s.freeBay b).su = s.su := by
  unfold State.freeBay; split <;> simp
@[simp] theorem State.freeBay_pu : (s.freeBay b).pu = s.pu := by
  unfold State.freeBay; split <;> simp
@[simp] theorem State.freeBay_du : (s.freeBay b).du = s.du := by
  unfold State.freeBay; split <;> simp
@[simp] theorem State.freeBay_pr : (s.freeBay b).pr = s.pr := by
  unfold State.freeBay; split <;> simp
@[simp] theorem State.freeBay_bk : (s.freeBay b).bk = s.bk := by
  unfold State.freeBay; split <;> simp
@[simp] theorem State.freeBay_pins : (s.freeBay b).pins = s.pins := by
  unfold State.freeBay; split <;> simp
@[simp] theorem State.freeBay_due : (s.freeBay b).due = s.due := by
  unfold State.freeBay; split <;> simp
@[simp] theorem State.freeBay_pending : (s.freeBay b).pending = s.pending := by
  unfold State.freeBay; split <;> simp

end

/-! ### What pauseSchedule leaves -/

section
variable (s : State) (a b : Nat)

@[simp] theorem State.pauseSchedule_ovens : (s.pauseSchedule a b).ovens = s.ovens := by
  unfold State.pauseSchedule; split <;> simp
@[simp] theorem State.pauseSchedule_ovenCount : (s.pauseSchedule a b).ovenCount = s.ovenCount := by
  unfold State.pauseSchedule; split <;> simp
@[simp] theorem State.pauseSchedule_cc : (s.pauseSchedule a b).cc = s.cc := by
  unfold State.pauseSchedule; split <;> simp
@[simp] theorem State.pauseSchedule_pu : (s.pauseSchedule a b).pu = s.pu := by
  unfold State.pauseSchedule; split <;> simp
@[simp] theorem State.pauseSchedule_du : (s.pauseSchedule a b).du = s.du := by
  unfold State.pauseSchedule; split <;> simp
@[simp] theorem State.pauseSchedule_pr : (s.pauseSchedule a b).pr = s.pr := by
  unfold State.pauseSchedule; split <;> simp
@[simp] theorem State.pauseSchedule_qu : (s.pauseSchedule a b).qu = s.qu := by
  unfold State.pauseSchedule; split <;> simp
@[simp] theorem State.pauseSchedule_fl : (s.pauseSchedule a b).fl = s.fl := by
  unfold State.pauseSchedule; split <;> simp
@[simp] theorem State.pauseSchedule_bk : (s.pauseSchedule a b).bk = s.bk := by
  unfold State.pauseSchedule; split <;> simp
@[simp] theorem State.pauseSchedule_pins : (s.pauseSchedule a b).pins = s.pins := by
  unfold State.pauseSchedule; split <;> simp
@[simp] theorem State.pauseSchedule_due : (s.pauseSchedule a b).due = s.due := by
  unfold State.pauseSchedule; split <;> simp
@[simp] theorem State.pauseSchedule_pending : (s.pauseSchedule a b).pending = s.pending := by
  unfold State.pauseSchedule; split <;> simp

end

/-! ### What dropExcluded leaves -/

section
variable (s : State) 

@[simp] theorem State.dropExcluded_ovens : (s.dropExcluded).ovens = s.ovens := by
  simp [State.dropExcluded]
@[simp] theorem State.dropExcluded_ovenCount : (s.dropExcluded).ovenCount = s.ovenCount := by
  simp [State.dropExcluded]
@[simp] theorem State.dropExcluded_cc : (s.dropExcluded).cc = s.cc := by
  simp [State.dropExcluded]
@[simp] theorem State.dropExcluded_pu : (s.dropExcluded).pu = s.pu := by
  simp [State.dropExcluded]
@[simp] theorem State.dropExcluded_du : (s.dropExcluded).du = s.du := by
  simp [State.dropExcluded]
@[simp] theorem State.dropExcluded_pr : (s.dropExcluded).pr = s.pr := by
  simp [State.dropExcluded]
@[simp] theorem State.dropExcluded_qu : (s.dropExcluded).qu = s.qu := by
  simp [State.dropExcluded]
@[simp] theorem State.dropExcluded_fl : (s.dropExcluded).fl = s.fl := by
  simp [State.dropExcluded]
@[simp] theorem State.dropExcluded_sl : (s.dropExcluded).sl = s.sl := by
  simp [State.dropExcluded]
@[simp] theorem State.dropExcluded_bk : (s.dropExcluded).bk = s.bk := by
  simp [State.dropExcluded]
@[simp] theorem State.dropExcluded_pins : (s.dropExcluded).pins = s.pins := by
  simp [State.dropExcluded]
@[simp] theorem State.dropExcluded_due : (s.dropExcluded).due = s.due := by
  simp [State.dropExcluded]
@[simp] theorem State.dropExcluded_pending : (s.dropExcluded).pending = s.pending := by
  simp [State.dropExcluded]

end

/-! ### A push's end and the untaken coke minutes -/

/-- The end that a machine's silence gives a push: the record is removed and its valve evaluated, and nothing else (R52; log 39). -/
@[simp] theorem State.endPush_silent (s : State) (n : Nat) : s.endPush n true = (s.setPush none).evalValve n := rfl

/-- Any other end runs one candidate evaluation on top of that (R48; log 13). -/
@[simp] theorem State.endPush_heard (s : State) (n : Nat) :
    s.endPush n false = ((s.setPush none).evalValve n).evaluate := rfl

/-- The abort causes that are a machine's silence (R81). -/
theorem AbortCause.bySilence_iff (x : AbortCause) : x.bySilence = true ↔ x = .pusherSilent ∨ x = .guideSilent := by
  cases x <;> decide

@[simp] theorem CokingClock.dropDue_minutesDue (c : CokingClock) : c.dropDue.minutesDue = 0 := rfl
@[simp] theorem CokingClock.dropDue_heatA (c : CokingClock) : c.dropDue.heatA = c.heatA := rfl
@[simp] theorem CokingClock.dropDue_heatB (c : CokingClock) : c.dropDue.heatB = c.heatB := rfl
@[simp] theorem CokingClock.dropDue_selectB (c : CokingClock) : c.dropDue.selectB = c.selectB := rfl
@[simp] theorem CokingClock.dropDue_minuteTimer (c : CokingClock) : c.dropDue.minuteTimer = c.minuteTimer := rfl
@[simp] theorem CokingClock.dropDue_limits (c : CokingClock) : c.dropDue.limits = c.limits := rfl

/-! ### Expiries brought about -/

/-- What `bringOwed` can do: the events that stood there stay in front, and every event then stands there as often as it stood or as
it is owed, whichever is more. -/
theorem State.bringOwed_spec (s : State) (cs : List Instr) :
    s.due <+: (s.bringOwed cs).due ∧ ∀ c, (s.bringOwed cs).due.count c = max (s.due.count c) (cs.count c) := by
  refine ⟨List.prefix_append _ _, fun c => ?_⟩
  have h : (s.bringOwed cs).due = s.due ++ cs.diff s.due := by rw [List.diff_eq_foldl]; rfl
  rw [h, List.count_append, List.count_diff]
  omega

end Sys2Proof.Machine
end

