-- ==== Sys2Proof/Laws/Checks.lean ====
section
/-!
SUPPORT. The laws of the device as checks that the kernel can evaluate on a concrete state, each with the lemma that the check
gives the law.
-/

namespace Sys2Proof.Machine

/-- The check of `ShapeLaw`. -/
def State.shapeCheck (s : State) : Bool :=
  decide (s.ovens.length = 96 ∧ 8 ≤ s.ovenCount ∧ s.ovenCount ≤ 96 ∧ s.fl.nodes.length = 18 ∧ s.qu.bays.length = 4 ∧
    s.qu.zones.length = 8 ∧ s.pr.active.length = 17 ∧ s.pr.shadow.length = 17)

theorem shapeLaw_of_check (s : State) (h : s.shapeCheck = true) : ShapeLaw s := by
  obtain ⟨a, b, c, d, e, f, g, k⟩ := of_decide_eq_true h
  exact ⟨a, b, c, d, e, f, g, k⟩

/-- The check of `DoorLaw`. -/
def State.doorCheck (s : State) : Bool :=
  decide (s.du.baseStep ≤ 15) && s.ovens.all (fun o => decide (o.doorP.Lawful ∧ o.doorC.Lawful))

theorem doorLaw_of_check (s : State) (h : s.doorCheck = true) : DoorLaw s := by
  simp only [State.doorCheck, Bool.and_eq_true, decide_eq_true_eq, List.all_eq_true] at h
  exact ⟨h.1, h.2⟩

/-- The check of `ValveLaw`. -/
def State.valveCheck (s : State) : Bool :=
  s.ovens.all (fun o => decide o.valve.Lawful) &&
    decide (s.pr.main.command ≤ 1023 ∧ s.pr.main.manualPosition ≤ 1023)

theorem valveLaw_of_check (s : State) (h : s.valveCheck = true) : ValveLaw s := by
  simp only [State.valveCheck, Bool.and_eq_true, decide_eq_true_eq, List.all_eq_true] at h
  exact ⟨h.1, h.2.1, h.2.2⟩

/-- The check of `QueueLaw`. -/
def State.queueCheck (s : State) : Bool :=
  decide (s.sl.notices.length ≤ 32 ∧ s.fl.queue.length ≤ 256 ∧ s.su.outOfTurn.length ≤ 4 ∧ s.su.deferred.length ≤ 8)

theorem queueLaw_of_check (s : State) (h : s.queueCheck = true) : QueueLaw s := by
  obtain ⟨a, b, c, d⟩ := of_decide_eq_true h
  exact ⟨a, b, c, d⟩

/-- The check of `TowerLaw`. -/
def State.towerCheck (s : State) : Bool :=
  allCars.all (fun c => decide ((s.car c).state = .quenching ∨ (s.car c).state = .draining → s.qu.holder = some c))

theorem towerLaw_of_check (s : State) (h : s.towerCheck = true) : TowerLaw s := by
  simp only [State.towerCheck, List.all_eq_true, decide_eq_true_eq] at h
  intro c
  exact h c (by cases c <;> decide)

/-- The check of `PushLaw`. -/
def State.pushCheck (s : State) : Bool :=
  (s.pu.push.isNone || s.pu.stall.isNone) &&
  (s.pu.push.isNone && s.pu.stall.isNone || s.bk.mode == .run) &&
  (s.pu.push.all fun r => s.inRange r.oven && (s.oven r.oven).phase == .pushing) &&
  (s.pu.stall.all fun r => s.inRange r.oven && (s.oven r.oven).phase == .stalled) &&
  (List.range 97).all (fun n => n == 0 ||
    (((s.oven n).phase != .pushing || s.pu.push.any (fun r => r.oven == n)) &&
      ((s.oven n).phase != .stalled || s.pu.stall.any (fun r => r.oven == n)))) &&
  s.ovens.all (fun o => decide o.ProgressLawful)

theorem pushLaw_of_check (s : State) (h : s.pushCheck = true) : PushLaw s := by
  simp only [State.pushCheck, Bool.and_eq_true] at h
  obtain ⟨⟨⟨⟨⟨one, run⟩, pushed⟩, stalled⟩, only⟩, prog⟩ := h
  rw [List.all_eq_true] at only prog
  have pick : ∀ n, n < 97 → 0 < n →
      (((s.oven n).phase != .pushing || s.pu.push.any (fun r => r.oven == n)) = true ∧
        ((s.oven n).phase != .stalled || s.pu.stall.any (fun r => r.oven == n)) = true) := by
    intro n hn h0
    have := only n (List.mem_range.mpr hn)
    rw [Bool.or_eq_true, Bool.and_eq_true] at this
    rcases this with h | h
    · simp at h; omega
    · exact h
  refine ⟨?_, ?_, ?_, ?_, ?_, ?_, fun o ho => of_decide_eq_true (prog o ho)⟩
  · rcases Bool.or_eq_true _ _ |>.mp one with h | h
    · exact .inl (Option.isNone_iff_eq_none.mp h)
    · exact .inr (Option.isNone_iff_eq_none.mp h)
  · intro h
    rcases Bool.or_eq_true _ _ |>.mp run with h' | h'
    · simp only [Bool.and_eq_true, Option.isNone_iff_eq_none] at h'
      exact absurd h' (by tauto)
    · simpa using h'
  · intro r hr
    simpa [hr] using pushed
  · intro r hr
    simpa [hr] using stalled
  · intro n hn h0 hp
    have := (pick n hn h0).1
    simp only [hp, bne_self_eq_false, Bool.false_or, Option.any_eq_true, beq_iff_eq] at this
    exact this
  · intro n hn h0 hp
    have := (pick n hn h0).2
    simp only [hp, bne_self_eq_false, Bool.false_or, Option.any_eq_true, beq_iff_eq] at this
    exact this

/-- The check of `ListLaw`. -/
def State.listCheck (s : State) : Bool :=
  decide ((s.su.outOfTurn ++ s.su.deferred).Nodup) &&
  (s.su.outOfTurn ++ s.su.deferred).all (fun n => s.inRange n && decide (s.oven n).Holds && !s.excluded n) &&
  (s.bk.mode != .config || (s.su.outOfTurn.isEmpty && s.su.deferred.isEmpty))

theorem listLaw_of_check (s : State) (h : s.listCheck = true) : ListLaw s := by
  simp only [State.listCheck, Bool.and_eq_true, decide_eq_true_eq, List.all_eq_true] at h
  obtain ⟨⟨a, b⟩, c⟩ := h
  refine ⟨a, ?_, ?_⟩
  · intro n hn
    have := b n hn
    simpa [and_assoc] using this
  · intro hm
    simpa [hm] using c

/-- The check of `NeighbourLaw`. -/
def State.neighbourCheck (s : State) : Bool :=
  s.pu.push.all fun r =>
    (List.range 98).all fun m =>
      !(m + 1 == r.oven || m == r.oven + 1) || !s.inRange m || decide (s.oven m).Holds || s.excluded m

theorem neighbourLaw_of_check (s : State) (n : s.ovenCount ≤ 96) (h : s.neighbourCheck = true) : NeighbourLaw s := by
  intro r hr m hm hin
  simp only [State.neighbourCheck, hr, Option.all_some, List.all_eq_true] at h
  have hlt : m < 98 := by
    simp only [State.inRange, decide_eq_true_eq] at hin
    omega
  have := h m (List.mem_range.mpr hlt)
  have hm' : (m + 1 == r.oven || m == r.oven + 1) = true := by simpa using hm
  simp only [hm', hin, Bool.not_true, Bool.false_or, Bool.or_eq_true, decide_eq_true_eq] at this
  exact this

/-- The check of `ClosedLaw`. -/
def State.closedCheck (s : State) : Bool :=
  s.ovens.all (fun o => o.valve.mode != .closed || o.valve.command == 0) &&
  (s.bk.mode != .run || (List.range 97).all (fun n =>
    let o := s.oven n
    n == 0 || decide (s.ovenCount < n) || o.valve.mode == .closed ||
      !(o.phase == .stalled || (o.phase == .pushing && s.pu.push.any (fun r => r.oven == n && r.stage != .spot)) ||
        (o.phase == .empty && !o.valve.manualFlag))))

theorem closedLaw_of_check (s : State) (h : s.closedCheck = true) : ClosedLaw s := by
  simp only [State.closedCheck, Bool.and_eq_true, List.all_eq_true] at h
  refine ⟨fun o ho hm => ?_, fun hr n hn h0 hN hs => ?_⟩
  · simpa [hm] using h.1 o ho
  · have := h.2
    simp only [hr, bne_self_eq_false, Bool.false_or, List.all_eq_true] at this
    have := this n (List.mem_range.mpr hn)
    simp only [Bool.or_eq_true, beq_iff_eq, decide_eq_true_eq, Bool.not_eq_true', Bool.or_eq_false_iff,
      Bool.and_eq_false_iff] at this
    rcases this with ((h | h) | h) | ⟨⟨a, b⟩, c⟩
    · omega
    · omega
    · exact h
    · rcases hs with hs | ⟨hs, r, hr, ho, hst⟩ | ⟨hs, hf⟩
      · simp [hs] at a
      · simp [hs, hr, ho, hst] at b
      · simp [hs, hf] at c

/-- The check of `WaitLaw`. -/
def State.waitCheck (s : State) : Bool :=
  decide (s.qu.waiters.Nodup ∧ s.qu.bayWaiters.Nodup ∧
    (∀ c ∈ s.qu.waiters, ((s.car c).state = .toTower ∨ (s.car c).state = .waitingTower) ∧ s.qu.holder ≠ some c) ∧
    (∀ c ∈ s.qu.bayWaiters, (s.car c).state = .waitingBay) ∧
    ∀ c ∈ allCars, s.qu.holder = some c →
      (s.car c).state = .toTower ∨ (s.car c).state = .quenching ∨ (s.car c).state = .draining ∨ (s.car c).state = .faulted)

theorem waitLaw_of_check (s : State) (h : s.waitCheck = true) : WaitLaw s := by
  obtain ⟨a, b, c, d, e⟩ := of_decide_eq_true h
  exact ⟨⟨a, b⟩, c, d, fun c => e c (by cases c <;> decide)⟩

/-- The check of `ClaimLaw`. -/
def State.claimCheck (s : State) : Bool :=
  s.pu.push.all fun r => decide (
    (r.stage ≠ .spot → r.claimed = true →
      ((s.car r.car).state = .spotted ∨ (s.car r.car).state = .loaded) ∧ (s.car r.car).position = .oven r.oven) ∧
    (r.stage = .spot ∨ r.stage = .isolate ∨ r.stage = .doorsOff ∨ r.stage = .ram → r.claimed = true) ∧
    (r.stage = .doorsOn → r.claimed = false))

theorem claimLaw_of_check (s : State) (h : s.claimCheck = true) : ClaimLaw s := by
  intro r hr
  simpa only [State.claimCheck, hr, Option.all_some, decide_eq_true_eq] using h

/-- The check of `FloorLaw`. -/
def State.floorCheck (s : State) : Bool :=
  decide ((s.fl.entry .main).inUse = true ∧
    (s.pins.inReset = true ∨ s.pr.floorOn = false ∨ (s.fl.entry .main).liveness = .live ∨ Instr.mainNodeSilence ∈ s.due))

theorem floorLaw_of_check (s : State) (h : s.floorCheck = true) : FloorLaw s :=
  ⟨(of_decide_eq_true h).1, (of_decide_eq_true h).2⟩

end Sys2Proof.Machine
end

