-- ==== Sys2Proof/Tests/Slice0.lean ====
section
/-!
SUPPORT. The author's own tests: each check of WellFormed refusing an ill-formed command, small cases worked from the spec, and
for every statement with hypotheses a state and operands that meet them.
-/

namespace Sys2Proof.Tests

open Sys2Proof Sys2Proof.Machine

set_option Elab.async false

/-! ### WellFormed refuses what the part does not have -/

/-- A valid entry of an oven report: 100 Pa, both doors present. -/
def entry : OvenEntry := ⟨100, 500, false, true, true, 0, 0⟩

/-- Eight such entries. -/
def entries : List OvenEntry := List.replicate 8 entry

theorem test_wf_oven : (Instr.chargeTimerExpiry 0).wf = false ∧ (Instr.chargeTimerExpiry 97).wf = false ∧
    (Instr.chargeTimerExpiry 1).wf = true ∧ (Instr.chargeTimerExpiry 96).wf = true ∧
    (Instr.settleTimerExpiry 97 .p).wf = false ∧ (Instr.doorOffTimerExpiry 0 .c).wf = false := by decide
theorem test_wf_bay : (Instr.bayHoldTimerExpiry 0).wf = false ∧ (Instr.bayHoldTimerExpiry 5).wf = false ∧
    (Instr.bayHoldTimerExpiry 4).wf = true := by decide
theorem test_wf_position : (Instr.pusherReport ⟨97, .home, 0, false, 0⟩).wf = false ∧
    (Instr.guideReport ⟨97, false, false, 0⟩).wf = false ∧ (Instr.guideReport ⟨0, false, false, 0⟩).wf = true := by decide
theorem test_wf_location : (Instr.carReport .one ⟨.oven 97, .empty, 0⟩).wf = false ∧
    (Instr.carReport .one ⟨.bay 5, .empty, 0⟩).wf = false ∧ (Instr.carReport .one ⟨.bay 4, .empty, 0⟩).wf = true := by decide
theorem test_wf_entries : (Instr.ovenReport 0 (entries.take 7)).wf = false ∧ (Instr.ovenSample 0 (entries.take 7)).wf = false ∧
    (Instr.stageConfirmation 0 (entry :: entries)).wf = false ∧ (Instr.ovenReport 11 entries).wf = true := by decide
theorem test_wf_zones : (Instr.setZones 1 4 [(1, 2)]).wf = false ∧
    (Instr.setZones 1 4 (List.replicate 8 (1, 2))).wf = true := by decide
theorem test_wf_body : (Instr.supFrameComplete 1 1 (List.replicate 241 0) 0).wf = false ∧
    (Instr.supFrameComplete 1 1 (List.replicate 240 0) 0).wf = true ∧
    (Instr.fieldFrameReceived 1 1 (List.replicate 121 0) 0).wf = false ∧
    (Instr.unknownKind 1 0x08 (List.replicate 241 0)).wf = false := by decide +kernel
theorem test_wf_kind : (Instr.unknownKind 1 0x10 []).wf = false ∧ (Instr.unknownKind 1 0x07 []).wf = true := by decide
theorem test_wf_silence : (Instr.silenceAtSu .tower).wf = false ∧ (Instr.silenceAtSu .main).wf = false ∧
    (Instr.silenceAtSu (.car .two)).wf = false ∧ (Instr.silenceAtSu .guide).wf = true := by decide

/-! ### Small states -/

/-- RUN, MANUAL, N = 96, every node LIVE, both cars PARKED, every oven EMPTY; the host holds notices back. -/
def up : State := { State.reset with
  bk := ⟨1000, 500, .run⟩
  su := { ScheduleUnit.reset with mode := .manual }
  fl := { FieldLink.reset with nodes := List.replicate 18 ⟨.live, true, 0, 990⟩ }
  pr := { PressureUnit.reset with floorOn := true }
  qu := { QuenchUnit.reset with
    car1 := { CarRecord.reset with state := .parked, position := .bay 1 }
    car2 := { CarRecord.reset with state := .parked, position := .oven 40 } } }

/-- The same in CONFIG. -/
def idle : State := { up with bk := ⟨1000, 500, .config⟩, su := .reset }

/-- An oven in a phase, with its progress as the phase requires (progress p in COKING). -/
def put (s : State) (n : Nat) (f : Phase) (p : Nat) : State :=
  s.setOven n { s.oven n with
    phase := f
    progress := if f = .empty ∨ f = .charging then 0 else if f = .coking then p else 16777216 }

/-- Ovens 4 to 6 READY. -/
def row : State := put (put (put up 4 .ready 0) 5 .ready 0) 6 .ready 0

/-- A push of oven 5 in a stage, car 1 claimed and SPOTTED beneath it. -/
def pushOf (x : Stage) : PushRecord :=
  { number := 7, oven := 5, origin := .manual, car := .one, claimed := true, stage := x, entered := 900, timer := 100,
    latchSent := false, forwardSeen := true, peakForce := 900, emptyCar := false, doorFault := false,
    abortCause := if x = .retreat then some .timeout else none }

/-- The part with that push. -/
def pushing (x : Stage) : State :=
  let s := put row 5 .pushing 0
  { s with
    pu := { PushUnit.reset with
      counter := 7, push := some (pushOf x), pusher := ⟨5, .forward, 900, true, 0⟩, guide := ⟨5, true, true, 0⟩ }
    qu := s.qu.setCar .one { s.qu.car1 with state := .spotted, position := .oven 5, status := .ready } }

/-- The part with oven 5 stalled at RAM, car 1 still claimed. -/
def stalled : State :=
  let s := put row 5 .stalled 0
  { s with
    pu := { PushUnit.reset with
      counter := 7
      stall := some {
        oven := 5, number := 7, origin := .manual, car := .one, claimed := true, stage := .ram, cause := .host,
        firstCause := none, peakForce := 900, second := 900 } }
    qu := s.qu.setCar .one { s.qu.car1 with state := .spotted, position := .oven 5 } }

/-- Car c in a state, with a change of the rest of its record. -/
def carIn (s : State) (c : Car) (x : CarState) (f : CarRecord → CarRecord) : State := s.setCar c { f (s.car c) with state := x }

/-- The state after a command that completes. -/
def after (c : Instr) (s : State) : State :=
  match exec c s with
  | .next t => t
  | .fault _ => s
  | .refused _ => s

/-- The outcome is a next state. -/
def answers (o : Host.Outcome State Fault Refusal) : Bool :=
  match o with
  | .next _ => true
  | .fault _ => false
  | .refused _ => false

theorem next_of_answers {o : Host.Outcome State Fault Refusal} (h : answers o = true) : ∃ t, o = .next t := by
  cases o with
  | next t => exact ⟨t, rfl⟩
  | fault _ => simp [answers] at h
  | refused _ => simp [answers] at h

/-- The reply in the slot. -/
def replyBody (s : State) : List Byte := (s.sl.replySlot.map Frame.body).getD []

/-! ### Cases worked in the spec -/

/-- The OvenEntry readings from one given entry at index k and a quiet entry elsewhere. -/
def reading (k : Nat) (e : OvenEntry) : List OvenEntry := (List.replicate 8 entry).set k e

/-- Oven n CHARGING/COKING and so on at progress p with trim t and inhibit i, the coke minute due. -/
def cooking (n p : Nat) (t : Int) (i : Bool) : State :=
  let s := put up n .coking p
  (s.setOven n { s.oven n with trim := t, trimInhibit := i }).withCc { s.cc with minutesDue := 1 }

/-- 1.6, cases 1 and 3: a step of 14,482, and step 1,159 reaching full progress with the soak loaded. -/
theorem test_coke_step_and_saturation :
    ((after .cokeMinuteExpiry (cooking 12 0 500 false)).oven 12).progress = 14482 ∧
    (let o := (after .cokeMinuteExpiry (cooking 12 16770156 500 false)).oven 12;
      o.phase = .soaking ∧ o.progress = 16777216 ∧ o.soakRemaining = 30) := by decide +kernel

/-- 1.6, case 2: the clamped step holds P; with inhibit on R = 3,000. -/
theorem test_coke_step_clamped :
    let s (i : Bool) : State := let c := cooking 12 777 (-4096) i; c.withCc { c.cc with heatA := 3000 }
    ((after .cokeMinuteExpiry (s false)).oven 12).progress = 777 ∧
    ((after .cokeMinuteExpiry (s true)).oven 12).progress = 3777 ∧
    ((after .cokeMinuteExpiry (s true)).oven 12).trim = -4096 := by decide +kernel

/-- 1.6, case 3: the 30th decrement makes the oven READY, and the oven late at 1,440 minutes and not at 1,439. -/
theorem test_ready_and_late :
    let s (m : Word) (soak : Nat) (f : Phase) : State :=
      let c := cooking 12 16777216 500 false
      (c.setOven 12 { c.oven 12 with phase := f, soakRemaining := soak, chargedAt := 5000 }).withBk { c.bk with minutes := m }
    ((after .cokeMinuteExpiry (s 6199 1 .soaking)).oven 12).phase = .ready ∧
    (after .cokeMinuteExpiry (s 6199 1 .soaking)).sl.notices = [⟨1000, .ovenReady 12 1200⟩] ∧
    ((after .cokeMinuteExpiry (s 6438 0 .ready)).oven 12).late = false ∧
    (after .cokeMinuteExpiry (s 6439 0 .ready)).sl.notices = [⟨1000, .ovenLate 12 1440⟩] := by decide +kernel

/-- 1.6, case 4: the sticker soak is added once, and the sum is limited to 256. -/
theorem test_sticker_soak :
    let s (soak : Nat) : State := up.setOven 40 { up.oven 40 with stickerPending := true, planSoak := soak }
    ((after (.chargeBegin 1 40) (s 30)).oven 40).activeSoak = 60 ∧
    ((after (.chargeBegin 1 40) (s 30)).oven 40).stickerPending = false ∧
    (replyBody (after (.chargeBegin 1 40) (s 30)))[3]? = some 59 ∧
    (replyBody (after (.chargeBegin 1 40) (s 240)))[3]? = some 255 := by decide +kernel

/-- 1.3: CHARGE_END replies the minutes since charge and clears charge-long. -/
theorem test_charge_end :
    let s := put up 12 .charging 0
    let s := s.setOven 12 { s.oven 12 with chargedAt := 489, chargeTimer := some 100, chargeLong := true }
    let t := after (.chargeEnd 1 12) s
    (t.oven 12).phase = .coking ∧ (t.oven 12).chargeTimer = none ∧ (t.oven 12).chargeLong = false ∧
    replyBody t = [0, 0x01, 12, 0, 0, 0, 11] := by decide +kernel

/-- The battery of 2.10: N = 40, deferred 14, 22, 7, out of turn 23. -/
def exclusionCase : State :=
  { up with ovenCount := 40, su := { up.su with outOfTurn := [23], deferred := [14, 22, 7] } }

/-- 2.10, the three requests in turn. -/
theorem test_exclusion_edit :
    let a := after (.setExclusionFrame 1 2 22) exclusionCase
    let b := after (.writeExclusionWord 2 0 1) { a with sl := up.sl }
    let c := after (.setExclusionFrame 3 1 21) { b with sl := up.sl }
    a.su.exclusionStart = 21 ∧ (replyBody a).drop 2 = [2, 21, 0] ∧
    b.su.deferred = [14, 7] ∧ b.su.outOfTurn = [] ∧ (replyBody b).drop 2 = [0, 0, 1, 2] ∧
    (replyBody c).drop 2 = [1, 21, 0] ∧ c.excluded 22 = true ∧ c.excluded 23 = false := by decide +kernel

/-- The battery of 2.9 with the slot due. -/
def slotCase : State :=
  let f : List (Nat × Phase) := [(1, .coking), (2, .coking), (3, .soaking), (4, .coking), (5, .ready), (6, .charging),
    (7, .coking), (8, .ready), (9, .coking), (10, .ready)]
  let s : State := f.foldl (fun s x => put s x.1 x.2 5000) { up with ovenCount := 10 }
  let s := s.setOven 3 { s.oven 3 with soakRemaining := 20 }
  let s := s.withSu { s.su with mode := .auto, cursor := 2, increment := 109, carriesDue := 1 }
  s.withCc { s.cc with minutesDue := 1 }

/-- 2.9, first three lines: oven 3 is deferred; the next coke minute starts the push of oven 8 by car 1, its zone's preferred car. -/
theorem test_slot_defers_then_pushes :
    let a := after .slotCarry slotCase
    let b := after .cokeMinuteExpiry a
    a.su.deferred = [3] ∧ a.su.slotFlag = true ∧ a.su.cursor = 3 ∧ a.pu.push = none ∧
    (b.pu.push.map fun p => (p.oven, p.origin, p.car, p.number)) = some (8, .series, .one, 1) ∧
    b.su.slotFlag = false ∧ b.su.cursor = 4 ∧ (b.oven 8).phase = .pushing := by decide +kernel

/-- R16: the sixtieth second returns the timer to 0, and a minute that no step has taken is not lost to the next. -/
theorem test_minutes_are_not_lost :
    let s := (up.withCc { up.cc with minuteTimer := 59, minutesDue := 1 }).withDue [.cokeMinuteExpiry]
    let t := after .batterySecond s
    (t.cc.minuteTimer, t.cc.minutesDue, t.due) = (0, 2, [.cokeMinuteExpiry, .cokeMinuteExpiry]) ∧
    (after .cokeMinuteExpiry t).cc.minutesDue = 1 ∧ (after .cokeMinuteExpiry t).bk.minutes = 501 := by decide +kernel

/-- R23 and R216: a STOP taken before a coke-minute expiry; after START it does not occur, then or at the next battery second. -/
theorem test_stop_meets_the_minute :
    let s := (cooking 5 1000 0 false).withSl SupLink.reset
    let t := after (.start 2) ((after (.stop 1) s).withSl SupLink.reset)
    s.cc.minutesDue = 1 ∧ t.bk.mode = .run ∧ (after .cokeMinuteExpiry t).oven 5 = t.oven 5 ∧
    (after .cokeMinuteExpiry t).bk.minutes = s.bk.minutes ∧ Instr.cokeMinuteExpiry ∉ (after .batterySecond t).due := by
  decide +kernel

/-- R32: the carry's sum is stored less 65,536. -/
theorem test_pacer_carries :
    let s := up.withSu { up.su with mode := .auto, increment := 109, accumulator := 65500 }
    let t := after .batterySecond s
    (t.su.accumulator, t.su.carriesDue, t.due) = (73, 1, [.slotCarry]) := by decide +kernel

/-- 2.9: QUEUE_OUT_OF_TURN moves oven 3 from the deferred list. -/
theorem test_queue_out_of_turn_moves :
    let t := after (.queueOutOfTurn 1 3) (slotCase.withSu { slotCase.su with deferred := [3] })
    t.su.outOfTurn = [3] ∧ t.su.deferred = [] := by decide +kernel

/-- The push of oven 8 of 3.7, car 1 LOADED. -/
def stroke : State :=
  let s := put (put (put up 7 .coking 5000) 9 .coking 5000) 8 .pushing 0
  { s with
    bk := ⟨10281, 500, .run⟩
    pu := { s.pu with
      counter := 418
      push := some { pushOf .ram with number := 418, oven := 8, origin := .series, peakForce := 2410, entered := 10192 }
      pusher := ⟨8, .forward, 2410, true, 0⟩, guide := ⟨8, true, true, 0⟩ }
    qu := s.qu.setCar .one { s.qu.car1 with
      state := .loaded, position := .oven 8, load := some ⟨418, 8, 10236⟩, hotTimer := some 195 } }

/-- 3.7 at 10,281: ram home at 2,750 kN is a hard push; the car is dispatched; DOORS_ON is entered with 90 seconds. -/
theorem test_hard_stroke :
    let t := after (.pusherReport ⟨8, .home, 2750, true, 0⟩) stroke
    (t.pu.push.map fun p => (p.stage, p.entered, p.timer, p.claimed, p.peakForce)) = some (.doorsOn, 10281, 90, false, 2750) ∧
    (t.oven 8).hardPushCount = 1 ∧ (t.oven 8).stickerPending = true ∧ t.sl.notices = [⟨10281, .hardPush 8 418 2750⟩] ∧
    t.qu.holder = some .one ∧
    t.fl.queue = [⟨.car .one, .move .tower⟩, ⟨.pusher, .replace⟩, ⟨.guide, .replace⟩] := by decide +kernel

/-- 3.7 at 10,340: both doors present end the push; the oven is EMPTY with last push number 418. -/
theorem test_doors_on_completes :
    let s := { stroke with pu := { stroke.pu with push := some { pushOf .doorsOn with
      number := 418, oven := 8, claimed := false, peakForce := 2750 } } }
    let t := after (.stageConfirmation 0 entries) s
    t.pu.push = none ∧ (t.oven 8).phase = .empty ∧ (t.oven 8).progress = 0 ∧ (t.oven 8).lastPushNumber = 418 ∧
    (⟨.oven 0, .cap 8 false⟩ : Outgoing) ∈ t.fl.queue ∧
    t.sl.notices = [⟨10281, .pushDone 418 8 .one 2750 false false⟩] := by decide +kernel

/-- 3.7 at 10,140: valve feedback 9 with the cap open completes ISOLATE. -/
theorem test_isolate_completes :
    let t := after (.stageConfirmation 0 (reading 4 ⟨100, 9, true, true, true, 0, 0⟩)) (pushing .isolate)
    (t.pu.push.map fun p => (p.stage, p.timer)) = some (.doorsOff, 90) ∧
    t.fl.queue = [⟨.pusher, .extract⟩, ⟨.guide, .extract⟩] := by decide +kernel

/-- 3.7 at 10,095: the guide at the oven and not latched is sent LATCH once. -/
theorem test_latch_once :
    let t := after (.guideReport ⟨5, false, false, 0⟩) (pushing .spot)
    t.fl.queue = [⟨.guide, .latch⟩] ∧ (after (.guideReport ⟨5, false, false, 0⟩) t).fl.queue = [⟨.guide, .latch⟩] := by
  decide +kernel

/-- Door 21C of 4.10 at a clamp step with a count. -/
def leakCase (step count : Nat) : State :=
  let s := put up 21 .coking 5000
  s.setOven 21 { s.oven 21 with doorC := { Door.reset with clampStep := step, learnedStep := step, persistence := count } }

/-- 4.10, report 3: the count reaches 3 below step 15. -/
theorem test_clamp_is_raised :
    let t := after (.ovenReport 2 (reading 4 { entry with leakC := 5 })) (leakCase 14 2)
    let d := (t.oven 21).doorC
    (d.state, d.persistence, d.clampStep, d.learnedStep) = (.sealed, 0, 15, 15) ∧
    t.fl.queue = [⟨.oven 2, .clamp 21 .c 15⟩] ∧ t.sl.notices = [] := by decide +kernel

/-- 4.10, report 7: the count reaches 3 at step 15. -/
theorem test_door_leaks :
    let t := after (.ovenReport 2 (reading 4 { entry with leakC := 6 })) (leakCase 15 2)
    (t.oven 21).doorC.state = .leaking ∧ (t.oven 21).doorC.persistence = 0 ∧ t.fl.queue = [] ∧
    t.sl.notices = [⟨1000, .doorLeaking 21 .c 6⟩] := by decide +kernel

/-- 4.11 at 5,000: an unexpected removal; 5.3: the oven aspirates. -/
theorem test_unexpected_removal :
    let s := put up 30 .coking 5000
    let s := s.setOven 30 { s.oven 30 with
      doorP := { Door.reset with clampStep := 9, learnedStep := 9 }
      valve := { Valve.reset with mode := .auto, lastPressure := some 100, command := 400 } }
    let t := after (.ovenReport 3 (reading 5 { entry with presentP := false })) s
    let d := (t.oven 30).doorP
    (d.state, d.unexpected, d.doorOffTimer) = (.off, true, some 420) ∧ (t.oven 30).valve.mode = .aspirate ∧
    t.sl.notices = [⟨1000, .doorUnexpected 30 .p⟩] := by decide +kernel

/-- 4.11 at 5,500: the door reseats at the larger of 4 and 9 - 1. -/
theorem test_reseat_step :
    let s := up.setOven 30 { up.oven 30 with
      doorP := { Door.reset with state := .off, clampStep := 9, learnedStep := 9, unexpected := true, offLong := true } }
    let t := after (.ovenReport 3 entries) s
    let d := (t.oven 30).doorP
    (d.state, d.clampStep, d.learnedStep, d.settleTimer) = (.seated, 8, 9, some 30) ∧ d.unexpected = false ∧
    d.offLong = false ∧ (⟨.oven 3, .clamp 30 .p 8⟩ : Outgoing) ∈ t.fl.queue := by decide +kernel

/-- An oven of 5.9 and 5.10: its phase, progress, offset, valve command, and the main's pressure. -/
def setpointCase (n : Nat) (f : Phase) (p off cmd : Nat) (m : Int) (leak : Bool) : State :=
  let s := put up n f p
  let s := s.setOven n { s.oven n with
    profileOffset := off
    doorP := { Door.reset with state := if leak then .leaking else .sealed, clampStep := 15 }
    valve := { Valve.reset with mode := .auto, command := cmd, lastPressure := some 0 } }
  s.withPr { s.pr with main := { s.pr.main with pressure := some m } }

/-- The oven after a sample of p. -/
def sampled (n : Nat) (p : Half) (s : State) : Valve :=
  ((after (.ovenSample ⟨(n - 1) / 8 % 12, Nat.mod_lt _ (by decide)⟩ (reading ((n - 1) % 8) { entry with pressure := p })) s).oven n).valve

/-- 5.9, cases 1 to 4, and case 5 of 5.10. -/
theorem test_setpoints_and_a_step :
    let v := sampled 44 95 (setpointCase 44 .coking 9000000 3 400 (-30) false)
    (v.setpoint, v.command, v.lastStep) = (74, 411, 11) ∧
    (sampled 9 100 (setpointCase 9 .coking 262144 0 400 110 true)).setpoint = 130 ∧
    (sampled 61 100 (setpointCase 61 .ready 0 200 400 (-30) false)).setpoint = 20 ∧
    (let w := sampled 61 100 (setpointCase 61 .ready 0 200 400 495 false);
      (w.setpoint, w.trace.floorRaised, w.trace.clampActed) = (500, true, true)) ∧
    (sampled 3 100 (setpointCase 3 .coking 16000000 255 400 (-30) false)).setpoint = 20 := by decide +kernel

/-- R135: a sample taken after the main node's entry is SILENT and before its silence is taken at PR has the floor with the last m, one
taken after it none; the return restores it. -/
theorem test_floor_until_the_silence_is_taken :
    let s := setpointCase 61 .ready 0 200 400 110 false
    let q := (s.withFl (s.fl.setEntry .main ⟨.silent, true, 0, 990⟩)).withDue [.mainNodeSilence]
    let t := after .mainNodeSilence q
    let u := after .mainNodeReturn (t.withFl (t.fl.setEntry .main ⟨.live, true, 0, 1000⟩))
    (sampled 61 100 q).setpoint = 130 ∧ (sampled 61 100 t).setpoint = 20 ∧ (sampled 61 100 u).setpoint = 130 := by decide +kernel

/-- 5.10, cases 6 and 8: the step limit from 1023, and a reading lost. -/
theorem test_step_limit_and_lost_reading :
    let v := sampled 12 (BitVec.ofInt 16 (-20)) (setpointCase 12 .coking 0 0 1023 (-30) false)
    (v.setpoint, v.command, v.lastStep, v.trace.stepLimited) = (160, 1007, -16, true) ∧
    (let w := sampled 50 0x8000 (setpointCase 50 .coking 5000 0 612 (-30) false);
      (w.mode, w.lastPressure, w.command, w.setpoint) = (.hold, none, 612, 0)) := by decide +kernel

/-- R116: a release with the flag clear changes nothing, with the node's silence still to be taken. -/
theorem test_release_with_flag_clear :
    let s := setpointCase 44 .coking 9000000 3 400 (-30) false
    let s := (s.withFl (s.fl.setEntry (.oven 5) ⟨.silent, true, 0, 990⟩)).withDue [.ovenNodeSilence 5]
    let t := after (.releaseValve 1 44) s
    (t.oven 44).valve = (s.oven 44).valve ∧ (replyBody t).drop 2 = [44, 0] := by decide +kernel

/-- R177, R214: START reads a node LIVE whose return is still to be taken. -/
theorem test_start_reads_the_table :
    let s := put idle 44 .coking 9000000
    let s := s.setOven 44 { s.oven 44 with valve := { Valve.reset with lastPressure := some 0 } }
    (after (.start 1) (s.withDue [.ovenNodeReturn 5])).oven 44 = { s.oven 44 with
      valve := { Valve.reset with mode := .auto, lastPressure := some 0 } } := by decide +kernel

/-- 5.10, case 7: the main's step. -/
theorem test_main_step :
    let s := up.withPr { up.pr with main := { up.pr.main with mode := .auto, command := 520 } }
    let t := after (.mainReport ⟨80, 500⟩) s
    t.pr.main.command = 523 ∧ t.pr.main.pressure = some 80 ∧ t.fl.queue = [⟨.main, .mainValve 523⟩] := by decide +kernel

/-- R118, R133: the silence taken after a report has made the node LIVE again still gives HOLD, a report before the return is recorded
in HOLD, and the return gives AUTO. -/
theorem test_silence_is_taken_late :
    let s := (setpointCase 96 .coking 5000 0 400 (-30) false).withDue [.ovenNodeReturn 11]
    let a := after (.ovenNodeSilence 11) s
    let b := after (.ovenSample 11 entries) a
    let m := (up.withPr { up.pr with main := { up.pr.main with mode := .auto, pressure := some 0 } }).withDue [.mainNodeReturn]
    let k := after .mainNodeSilence m
    let l := after (.mainReport ⟨80, 500⟩) k
    (a.oven 96).valve.mode = .hold ∧ ((b.oven 96).valve.mode, (b.oven 96).valve.lastPressure) = (.hold, some 100) ∧
    (b.oven 96).valve.command = 400 ∧ ((after (.ovenNodeReturn 11) b).oven 96).valve.mode = .auto ∧
    k.pr.main.mode = .hold ∧ (l.pr.main.mode, l.pr.main.pressure, l.fl.queue) = (.hold, some 80, []) ∧
    (after .mainNodeReturn l).pr.main.mode = .auto := by decide +kernel

/-- R161: a bay handed on under ESTOP# to a car still on its way ends that move with HALT, once, and holds the next. -/
theorem test_bay_under_estop :
    let s := (up.withQu { up.qu.setBay 4 ⟨.occupied, none, some 0⟩ with bayWaiters := [.two] }).withPins ⟨false, true⟩
    let s := carIn s .two .waitingBay fun r => { r with target := some .approachW, travelTimer := some 100 }
    let t := after (.bayHoldTimerExpiry 4) s
    (t.car .two).target = some (.bay 4) ∧ (t.car .two).travelTimer = none ∧ t.fl.queue = [⟨.car .two, .halt⟩] ∧
    (after .estopAtQu t).fl.queue = t.fl.queue := by decide +kernel

/-- The car of 6.10: DUMPING at BAY1. -/
def dumpCase : State :=
  let q := up.qu.setBay 1 ⟨.reserved, some .two, none⟩
  carIn { up with qu := q, bk := ⟨30805, 500, .run⟩ } .two .dumping fun r =>
    { r with position := .bay 1, reservedBay := some 1, load := some ⟨503, 9, 30340⟩, dumpTimer := some 0 }

/-- 6.10: the dump expiry, CAR_SERVICE OUT and CAR_SERVICE IN in turn. -/
theorem test_failed_dump_and_recovery :
    let a := after (.dumpTimerExpiry .two) dumpCase
    let b := after (.carServiceOut 1 2) a
    let c := after (.carServiceIn 2 2) { b with sl := up.sl }
    (a.car .two).state = .faulted ∧ (a.car .two).load = some ⟨503, 9, 30340⟩ ∧
    a.sl.notices = [⟨30805, .carFault .two .dump 0 .dumping⟩] ∧
    (b.car .two).state = .outOfService ∧ (b.car .two).load = none ∧ b.qu.bay 1 = ⟨.occupied, none, some 1200⟩ ∧
    (⟨.tower, .gate 1 false⟩ : Outgoing) ∈ b.fl.queue ∧ (replyBody b).getLast? = some 6 ∧
    (c.car .two).state = .parked ∧ (c.car .two).position = .bay 1 := by decide +kernel

/-- 6.9 at 30,431: the drain expiry hands the tower to car 2 and sends car 1 to bay 3. -/
theorem test_drain_expiry :
    let q := ((up.qu.setBay 1 ⟨.occupied, none, some 269⟩).setBay 2 ⟨.occupied, none, some 669⟩).setBay 4
      ⟨.occupied, none, some 469⟩
    let s : State := { up with qu := { q with holder := some .one, waiters := [.two] } }
    let s := carIn s .one .draining fun r => { r with load := some ⟨502, 5, 29980⟩, drainTimer := some 0, position := .tower }
    let s := carIn s .two .waitingTower fun r => { r with load := some ⟨503, 9, 30340⟩, position := .approachT }
    let t := after (.drainTimerExpiry .one) s
    t.qu.holder = some .two ∧ t.qu.waiters = [] ∧ (t.car .one).state = .toWharf ∧ (t.car .one).target = some (.bay 3) ∧
    (t.car .two).state = .toTower ∧ (t.car .two).target = some .tower ∧ t.qu.bay 3 = ⟨.reserved, some .one, none⟩ ∧
    t.fl.queue = [⟨.car .two, .move .tower⟩, ⟨.car .one, .move (.bay 3)⟩] := by decide +kernel

/-- The link of 8.10: oven 12 READY between COKING ovens, the OVEN_READY notice on its way, S_RTS asserted. -/
def linkCase : State :=
  let s := put (put (put up 11 .coking 5000) 12 .ready 0) 13 .coking 5000
  { s with sl := { s.sl with rts := true, transmitter := .notice ⟨1000, .ovenReady 12 1200⟩ } }

/-- 8.10: two requests back to back. -/
theorem test_two_requests :
    let a := after (.queryOven 0x21 12) linkCase
    let b := after (.pushNow 0x22 12) a
    let c := after .noticeSent b
    let d := after .replySent c
    let e := after .replySent d
    (a.sl.replySlot.map fun f => (f.kind, f.tag, f.body.length, f.body.take 2)) = some (0x96, 0x21, 27, [0, 0x01]) ∧
    b.sl.spare = some ⟨0x30, 0x22, [12]⟩ ∧ b.pu.push = none ∧ c.sl.transmitter = .reply ∧
    (d.sl.replySlot.map fun f => (f.kind, f.tag, f.body)) = some (0xB0, 0x22, [0, 0x41, 0, 1, 12, 1]) ∧
    d.sl.spare = none ∧ d.pu.push.isSome = true ∧ e.sl.replySlot = none ∧
    e.sl.transmitter = .notice ⟨1000, .pushStarted 1 12 .manual .one⟩ ∧ e.sl.notices = [] := by decide +kernel

/-- 8.11: a full queue loses the 33rd notice; one reply shows it. -/
theorem test_notices_lost :
    let s := up.withSl { up.sl with notices := List.replicate 32 ⟨1, .slotOverrun⟩ }
    let s := s.setOven 1 { s.oven 1 with phase := .charging, chargeTimer := some 0 }
    let t := after (.chargeTimerExpiry 1) s
    let u := after (.status 1) { t with ovens := up.ovens }
    t.sl.notices.length = 32 ∧ t.sl.noticeLost = true ∧ (replyBody u)[1]? = some 0x61 ∧ u.sl.noticeLost = false := by
  decide +kernel

/-- The requests of 9.2 on N = 24. -/
def picture : State :=
  let s : State := { up with ovenCount := 24 }
  let a := after (.hold 1 5 3 3) s
  let b := after (.hold 2 7 2 1) { a with sl := up.sl }
  after (.hold 3 20 3 2) { b with sl := up.sl }

/-- 9.2: what the HOLDs capture and ignore. -/
theorem test_holds :
    let s : State := { up with ovenCount := 24 }
    let a := after (.hold 1 5 3 3) s
    let b := after (.hold 2 7 2 1) { a with sl := up.sl }
    (replyBody a).drop 2 = [0, 8, 0, 0] ∧ (replyBody b).drop 2 = [0, 1, 0, 2] ∧
    (replyBody picture).drop 2 = [0, 4, 0, 0] := by decide +kernel

/-- 9.2: what the COLLECTs return. -/
theorem test_collects :
    let a := after (.collect 4) { picture with sl := up.sl }
    let b := after (.collect 5) { a with sl := up.sl }
    let c := after (.collect 6) { b with sl := up.sl }
    (replyBody a).length = 121 ∧ ((replyBody a).drop 2).take 3 = [1, 6, 5] ∧ (replyBody b).length = 40 ∧
    ((replyBody b).drop 2).take 3 = [0, 3, 21] ∧ (replyBody c).drop 2 = [0, 0] := by decide +kernel

/-- R189, 8.3: the state byte at reset shows CONFIG and schedule PAUSED. -/
theorem test_status_after_reset :
    (replyBody (after (.status 1) State.reset)).take 2 = [0, 0x04] := by decide +kernel

/-- The reply body lengths of R195 (129), R204 (60), R25 (27) and R83 (27 after the status and the state byte). -/
theorem test_reply_lengths :
    (replyBody (after (.status 1) up)).length = 129 ∧ (replyBody (after (.alarmSummary 1) up)).length = 60 ∧
    (replyBody (after (.queryOven 1 96) up)).length = 27 ∧ (replyBody (after (.queryPush 1) up)).length = 29 := by
  decide +kernel

/-- The CRC of both links over the nine digits is the generator's published check value 0x29B1. -/
theorem test_crc_check_value : crc [0x31, 0x32, 0x33, 0x34, 0x35, 0x36, 0x37, 0x38, 0x39] = 0x29B1 := by decide +kernel

/-- R214 and R218: START with every node LIVE gives RUN; the assertion is delivered to PU, SU and QU. -/
theorem test_start_and_estop :
    (after (.start 1) idle).bk.mode = .run ∧
    (after .estopAssertion row).pins.estop = true ∧
    (after .estopAssertion row).due = [.estopAtPu, .estopAtSu, .estopAtQu] := by decide +kernel

/-! ### Every statement with hypotheses has a state that meets them -/

/-- A push in RAM, every valve CLOSED, with a battery second to take. -/
def moving : State :=
  let s := pushing .ram
  (s.withOvens (s.ovens.map (fun o => o.setValve { Valve.reset with mode := .closed }))).withPending [.batterySecond]

/-- The laws together, as a statement about every step needs them. -/
theorem moving_lawful : ShapeLaw moving ∧ QueueLaw moving ∧ DoorLaw moving ∧ ValveLaw moving ∧
    TowerLaw moving ∧ PushLaw moving ∧ ListLaw moving ∧ NeighbourLaw moving ∧ ClosedLaw moving ∧ WaitLaw moving ∧
    ClaimLaw moving ∧ FloorLaw moving :=
  ⟨shapeLaw_of_check _ (by decide +kernel), queueLaw_of_check _ (by decide +kernel), doorLaw_of_check _ (by decide +kernel),
   valveLaw_of_check _ (by decide +kernel), towerLaw_of_check _ (by decide +kernel), pushLaw_of_check _ (by decide +kernel),
   listLaw_of_check _ (by decide +kernel), neighbourLaw_of_check _ (by decide +kernel) (by decide +kernel),
   closedLaw_of_check _ (by decide +kernel), waitLaw_of_check _ (by decide +kernel), claimLaw_of_check _ (by decide +kernel),
   floorLaw_of_check _ (by decide +kernel)⟩

theorem stalled_lawful : ShapeLaw stalled ∧ PushLaw stalled :=
  ⟨shapeLaw_of_check _ (by decide +kernel), pushLaw_of_check _ (by decide +kernel)⟩

theorem up_lawful : ShapeLaw up ∧ PushLaw up ∧ ValveLaw up :=
  ⟨shapeLaw_of_check _ (by decide +kernel), pushLaw_of_check _ (by decide +kernel), valveLaw_of_check _ (by decide +kernel)⟩

/-- Each invariant's statement: a state with a push under way from which a step answers. -/
theorem witness_invariants : ∃ t, step moving = .next t := next_of_answers (by decide +kernel)

theorem witness_StepTakesTheFrontCommand :
    (up.withPending [.status 1]).pending = .status 1 :: [] ∧
    (up.withDue [.slotCarry]).pending = [] ∧ (up.withDue [.slotCarry]).due = .slotCarry :: [] ∧
    up.pending = [] ∧ up.due = [] := by decide +kernel

theorem witness_EveryWellFormedCommandAnswers :
    (Instr.chargeTimerExpiry 96).wf = true ∧ (Instr.chargeTimerExpiry 97).wf = false := by decide

theorem witness_NothingActsWhileHeldInReset :
    (up.withPins ⟨true, false⟩).pins.inReset = true ∧ (Instr.status 1).wf = true ∧
    (∀ a b d, Instr.status 1 ≠ .resetReleased a b d) ∧ (∀ r a b d, Instr.status 1 ≠ .powerUp r a b d) ∧
    Instr.status 1 ≠ .resetAsserted ∧ Instr.status 1 ≠ .sRtsAsserted ∧ Instr.status 1 ≠ .sRtsDeasserted :=
  ⟨rfl, rfl, nofun, nofun, nofun, nofun, nofun⟩

theorem witness_ResetTakesUpResetValues :
    (up.withPins ⟨true, false⟩).pins.inReset = true ∧ up.pins.inReset = false := by decide +kernel

/-- SL with a request in service, and with the spare buffer full behind it. -/
def serving : State := up.withSl { up.sl with inService := some ⟨1, 1, []⟩, replySlot := some ⟨0x81, 1, []⟩, transmitter := .reply }
def spared : State := serving.withSl { serving.sl with spare := some ⟨1, 2, []⟩ }

theorem witness_RequestFramesAreBuffered :
    encodeRequest (.status 0) = some ⟨1, 0, []⟩ ∧ (Instr.status 0).wf = true ∧
    (up.pins.inReset = false ∧ up.sl.spare = none ∧ up.sl.inService = none) ∧
    (serving.pins.inReset = false ∧ serving.sl.inService = some ⟨1, 1, []⟩ ∧ serving.sl.spare = none) ∧
    (spared.pins.inReset = false ∧ spared.sl.spare = some ⟨1, 2, []⟩) := by decide +kernel

theorem witness_RefusedRequestsChangeNothing :
    encodeRequest (.setHeat 1 2 5) = some ⟨0x10, 1, [2, 0, 5]⟩ ∧ (Instr.setHeat 1 2 5).wf = true ∧ up.Free ∧ (1 : Byte) ≠ 0 ∧
    isRequestKind 0x07 = false ∧ (List.replicate 240 (0 : Byte)).length ≤ 240 := by decide +kernel

theorem witness_QueriesOnlyReply :
    ShapeLaw up ∧ up.Free ∧ (1 : Byte) ≠ 0 ∧ 1 ≤ (96 : Byte).toNat ∧ (96 : Byte).toNat ≤ up.ovenCount ∧
    (0 : Byte).toNat = 0 ∧ up.ovenCount < (97 : Byte).toNat :=
  ⟨up_lawful.1, by decide +kernel⟩

theorem witness_StateByteAndAlarmShowTheStanding :
    ShapeLaw up ∧ up.pins.inReset = false ∧ up.sl.spare = none := ⟨up_lawful.1, rfl, rfl⟩

theorem witness_RequestsSurviveTheWire :
    encodeRequest (.ovenLoad 1 96 2 16777215 0xFFFFFFFF 0xFFFF) =
      some ⟨0x70, 1, [96, 2, 0, 255, 255, 255, 255, 255, 255, 255, 255, 255]⟩ ∧
    (Instr.ovenLoad 1 96 2 16777215 0xFFFFFFFF 0xFFFF).wf = true ∧
    encodeRequest (.unknownKind 1 7 []) = some ⟨7, 1, []⟩ ∧ (Instr.unknownKind 1 7 []).wf = true := by decide

theorem witness_ReportsSurviveTheWire :
    (decide ((96 : Nat) ≤ 96) && (Location.bay 4).wf && decide (entries.length = 8)) = true := by decide

theorem witness_CompleteFramesActAsTheirRequests :
    (up.Free ∧ ⟨0x16, 1, []⟩ ≠ (⟨0x16, 1, [1]⟩ : Frame) ∧ (0x16 : Byte).toNat = 0x16 ∧ ([] : List Byte).length ≠ 1 ∧
      1 < (([1, 2] : List Byte).getD 1 0).toNat ∧ ([1, 2] : List Byte).length = 2) ∧
    up.pins.inReset = false ∧ up.due = [] ∧ (List.replicate 240 (0 : Byte)).length ≤ 240 ∧
    encodeRequest (.status 1) = some ⟨1, 1, []⟩ ∧ (Instr.status 1).wf = true ∧ supFrameCrc ⟨1, 1, []⟩ ≠ 0 := by decide +kernel

theorem witness_BytesMakeFrames :
    (up.pins.inReset = false ∧ up.due = [] ∧ up.sl.receiver = .hunt ∧ (List.replicate 240 (0 : Byte)).length ≤ 240) ∧
    ((up.withFl { up.fl with receiver := .idle }).fl.receiver = .idle ∧ up.fl.fDe = false ∧
      (List.replicate 120 (0 : Byte)).length ≤ 120) := by decide +kernel

theorem witness_HeatTrimAndPlanAreWritten :
    up.Free ∧ (1 : Byte) ≠ 0 ∧ (1 : Byte).toNat ≤ 1 ∧ 1 < (2 : Byte).toNat ∧
    (1 ≤ (96 : Byte).toNat ∧ (96 : Byte).toNat ≤ up.ovenCount) ∧
    ¬(1 ≤ (97 : Byte).toNat ∧ (97 : Byte).toNat ≤ up.ovenCount) := by decide +kernel

theorem witness_LimitsAndZonesAreTaken :
    up.Free ∧ (1 : Byte) ≠ 0 ∧ (List.replicate 8 ((1 : Byte), (2 : Byte))).length = 8 ∧ 4 < (5 : Byte).toNat ∧
    ((4 : Byte).toNat ≤ 4 ∧ ∀ e ∈ List.replicate 8 ((1 : Byte), (2 : Byte)), (e.1 = 1 ∨ e.1 = 2) ∧ e.2.toNat ≤ 2) ∧
    up.pu.push = none ∧ (pushing .spot).Free ∧ (pushing .spot).pu.push ≠ none := by
  refine ⟨by decide +kernel, by decide, by decide, by decide, ⟨by decide, ?_⟩, by decide +kernel⟩
  intro e he
  rw [List.eq_of_mem_replicate he]
  decide

theorem witness_ChargeBeginChecksAndFillsTheRecord :
    ShapeLaw up ∧ up.Free ∧ (1 : Byte) ≠ 0 ∧ up.bk.mode = .run ∧ 1 ≤ (96 : Byte).toNat ∧ (96 : Byte).toNat ≤ up.ovenCount ∧
    (up.oven 96).phase = .empty ∧ up.excluded 96 = false ∧ (up.oven 96).doorP.state = .sealed ∧
    (up.oven 96).doorC.state = .sealed ∧ up.live (servingNode 96) = true ∧ up.FieldRoom 2 ∧
    (up.oven 96).valve.manualFlag = false ∧ (up.oven 96).valve.mode ≠ .aspirate ∧
    (let s := up.setOven 96 (Oven.reset.setValve { Valve.reset with mode := .aspirate, manualFlag := true });
      (s.oven 96).phase = .empty ∧ (s.oven 96).valve.manualFlag = true ∧ (s.oven 96).valve.mode = .aspirate) :=
  ⟨up_lawful.1, by decide +kernel⟩

/-- Oven 96 CHARGING with its timer run out and a valid reading. -/
def charging : State :=
  let s := put up 96 .charging 0
  s.setOven 96 { s.oven 96 with
    chargeTimer := some 0, valve := { Valve.reset with mode := .aspirate, aspiration := true, lastPressure := some 100 } }

theorem witness_ChargeEndsAndChargeTimers :
    (ShapeLaw charging ∧ charging.Free ∧ (1 : Byte) ≠ 0 ∧ charging.bk.mode = .run ∧ 1 ≤ (96 : Byte).toNat ∧
      (96 : Byte).toNat ≤ charging.ovenCount ∧ (charging.oven 96).phase = .charging ∧ charging.live (servingNode 96) = true ∧
      (charging.oven 96).valve.lastPressure ≠ none ∧ (charging.oven 96).valve.manualFlag = false ∧
      (charging.oven 96).doorP.state ≠ .off ∧ (charging.oven 96).doorC.state ≠ .off ∧ charging.FieldRoom 2) ∧
    (charging.pins.inReset = false ∧ (charging.oven 96).chargeTimer = some 0 ∧ charging.NoticeRoom 1 ∧ charging.NoticesWait) ∧
    ((up.setOven 1 { Oven.reset with chargeTimer := some 0 }).oven 1).chargeTimer = some 0 ∧
    (up.oven 1).chargeTimer ≠ some 0 :=
  ⟨⟨shapeLaw_of_check _ (by decide +kernel), by decide +kernel⟩, by decide +kernel⟩

/-- A coke minute is due: oven 1 one step below full progress, oven 2 in its last minute of soak, oven 3 EMPTY. -/
def minute : State :=
  let s := put (put up 1 .coking 16777215) 2 .soaking 0
  (s.setOven 2 { s.oven 2 with soakRemaining := 1 }).withCc { s.cc with minutesDue := 1 }

theorem witness_CokeMinuteStepsEveryOven :
    ShapeLaw minute ∧ minute.pins.inReset = false ∧ minute.bk.mode = .run ∧ minute.cc.minutesDue = 1 ∧ minute.su.mode ≠ .auto ∧
    (minute.oven 1).phase = .coking ∧ (minute.oven 2).phase = .soaking ∧ (minute.oven 3).phase = .empty ∧
    minute.FieldRoom 256 ∧ minute.NoticeRoom 32 ∧ minute.NoticesWait ∧ up.cc.minutesDue = 0 :=
  ⟨shapeLaw_of_check _ (by decide +kernel), by decide +kernel⟩

theorem witness_SeriesPacerAndModeAreSet :
    ShapeLaw up ∧ up.Free ∧ (1 : Byte) ≠ 0 ∧
    (2 ≤ (10 : Byte).toNat ∧ (10 : Byte).toNat ≤ 10 ∧ 1 ≤ (9 : Byte).toNat ∧ (9 : Byte).toNat ≤ (10 : Byte).toNat - 1 ∧
      Nat.gcd 9 10 = 1 ∧ 10 ≤ up.ovenCount) ∧
    2 < (3 : Byte).toNat ∧ ScheduleMode.paused.code = (2 : Byte).toNat :=
  ⟨up_lawful.1, by decide +kernel⟩

theorem witness_ValidSeriesVisitsEveryOvenOnce : 2 ≤ 8 ∧ seriesValid 8 8 3 = true ∧ seriesValid 96 2 1 = true := by decide

theorem witness_QueueOutOfTurnAppends :
    row.Free ∧ (1 : Byte) ≠ 0 ∧ row.bk.mode = .run ∧ row.excluded 5 = false ∧ (row.oven 5).phase = .ready ∧ 5 ∉ row.su.outOfTurn ∧
    row.su.outOfTurn.length < 4 ∧ idle.Free ∧ idle.bk.mode ≠ .run := by decide +kernel

/-- Oven 4 in the out-of-turn queue, ovens 5 and 6 deferred. -/
def listed : State := row.withSu { row.su with outOfTurn := [4], deferred := [5, 6] }

theorem witness_WithdrawRemovesFromItsList :
    listed.Free ∧ (1 : Byte) ≠ 0 ∧ ¬(1 ≤ (0 : Byte).toNat ∧ (0 : Byte).toNat ≤ listed.ovenCount) ∧
    (1 ≤ (96 : Byte).toNat ∧ (96 : Byte).toNat ≤ listed.ovenCount) ∧ 4 ∈ listed.su.outOfTurn ∧
    (6 ∉ listed.su.outOfTurn ∧ 6 ∈ listed.su.deferred) ∧ (96 ∉ listed.su.outOfTurn ∧ 96 ∉ listed.su.deferred) ∧
    ListLaw idle ∧ idle.bk.mode = .config ∧ idle.Free := by
  refine ⟨by decide +kernel, by decide, by decide +kernel, by decide +kernel, by decide +kernel, by decide +kernel,
    by decide +kernel, listLaw_of_check _ (by decide +kernel), by decide +kernel, by decide +kernel⟩

theorem witness_ExclusionReadsTheVector : idle.Free ∧ (1 : Byte) ≠ 0 ∧ idle.bk.mode = .config := by decide +kernel

theorem witness_ExclusionEditsTrimTheLists :
    listed.Free ∧ (1 : Byte) ≠ 0 ∧ 3 < (4 : Byte).toNat ∧ ¬3 < (3 : Byte).toNat ∧
    (1 ≤ (96 : Byte).toNat ∧ (96 : Byte).toNat ≤ listed.ovenCount) ∧ listed.pu.push = none ∧ listed.pu.stall = none ∧
    (pushing .spot).Free ∧ (pushing .spot).pu.push ≠ none := by decide +kernel

/-- AUTO with a carry due, oven 5 at the head of the out-of-turn queue. -/
def carry : State :=
  row.withSu { row.su with mode := .auto, carriesDue := 1, outOfTurn := [5] }

/-- AUTO with the slot flag set, the lists and the cursor as given, and oven 1 excluded if x = 1. -/
def slot (out deferred : List Nat) (cursor : Nat) (x : BitVec 64) : State :=
  row.withSu { row.su with
    mode := .auto, slotFlag := true, outOfTurn := out, deferred := deferred, cursor := cursor, exclusion := x }

theorem slot_shape (out deferred : List Nat) (cursor : Nat) (x : BitVec 64) : ShapeLaw (slot out deferred cursor x) :=
  shapeLaw_of_check _ rfl

/-- Oven 5 READY between READY ovens, its valve in the mode the evaluation gives. -/
def ready5 : State :=
  row.setOven 5 { row.oven 5 with valve := { Valve.reset with mode := row.valveMode 5 } }

/-- A carry owed with the flag clear and set; the queue's head, a deferred entry, and of the series a candidate at its position, an
oven passed over, an EMPTY one, one listed, one to defer and one that a full list holds; and a push start. -/
theorem witness_SlotCarryTakesACandidate :
    (carry.pins.inReset = false ∧ carry.bk.mode = .run ∧ carry.su.mode = .auto ∧ 0 < carry.su.carriesDue ∧
      carry.su.slotFlag = false ∧ up.su.carriesDue = 0) ∧
    ((carry.withSu { carry.su with slotFlag := true }).su.slotFlag = true ∧ carry.NoticeRoom 1 ∧ carry.NoticesWait) ∧
    (let s := slot [5] [] 0 0; (s.bk.mode = .run ∧ s.su.mode = .auto ∧ s.su.slotFlag = true ∧ s.pu.push = none ∧
      s.pu.stall = none ∧ s.pins.estop = false) ∧ s.su.outOfTurn.head? = some 5 ∧ s.pushable 5 = true) ∧
    (let s := slot [] [1, 5] 0 0; s.su.deferred.find? s.pushable = some 5) ∧
    (let p := Sys2Proof.Machine.positionOf 96 5 2 5; let s := slot [] [] p 0; s.su.deferred.find? s.pushable = none ∧ p < s.ovenCount ∧
      s.ovenAt p = 5 ∧ s.inRange 5 = true ∧ s.excluded 5 = false ∧ s.pushable 5 = true) ∧
    (let s := slot [] [] 0 1; s.excluded (s.ovenAt 0) = true ∧ s.ovenAt (s.nextPosition 0) = 6 ∧ s.excluded 6 = false) ∧
    (let s := slot [] [] 0 0; s.ovenAt 0 = 1 ∧ s.inRange 1 = true ∧ (s.oven 1).phase = .empty) ∧
    (let s := slot [] [6] 1 0; s.ovenAt 1 = 6 ∧ (s.oven 6).Holds ∧ s.pushable 6 = false ∧ 6 ∈ s.su.deferred ∧
      s.su.deferred.find? s.pushable = none) ∧
    (let s := slot [] [] 1 0; 6 ∉ s.su.outOfTurn ∧ 6 ∉ s.su.deferred ∧ s.su.deferred.length < 8) ∧
    (let s := slot [] [1, 2, 3, 7, 8, 9, 10, 11] 1 0; 6 ∉ s.su.deferred ∧ 8 ≤ s.su.deferred.length ∧
      s.su.deferred.find? s.pushable = none) ∧
    ((1 ≤ 5 ∧ 5 ≤ ready5.ovenCount) ∧ (ready5.oven 5).phase = .ready ∧ ready5.pu.push = none ∧ ready5.pins.estop = false ∧
      (ready5.oven 5).valve.mode = ready5.valveMode 5 ∧ ready5.FieldRoom 3 ∧ ready5.NoticeRoom 1 ∧ ready5.NoticesWait) := by
  refine ⟨?_, ?_, ?_, ?_, ?_, ?_, ?_, ?_, ?_, ?_, ?_⟩ <;> decide +kernel

/-- Every oven excluded: the series has none. -/
theorem witness_evaluation_finds_none :
    let s := row.withSu { row.su with mode := .auto, slotFlag := true, exclusion := 0xFFFFFFFFFFFFFFFF, granularity := 1 }
    s.su.cursor < s.ovenCount ∧ ∀ i < s.ovenCount, s.excluded (s.ovenAt ((s.nextPosition)^[i] s.su.cursor)) = true := by
  decide +kernel

theorem witness_ScheduleIsPausedBySilenceAndEstop :
    (carry.pins.inReset = false ∧ carry.NoticeRoom 1 ∧ carry.NoticesWait ∧ carry.bk.mode = .run ∧ carry.su.mode = .auto ∧
      (carry.fl.entry (.oven 11)).inUse = true) ∧ up.su.mode ≠ .auto ∧ up.su.mode ≠ .paused ∧
    idle.bk.mode = .config := by decide +kernel

theorem witness_PushNowChecksAndStarts :
    ShapeLaw ready5 ∧ ready5.Free ∧ (1 : Byte) ≠ 0 ∧ ready5.bk.mode = .run ∧ ready5.su.mode = .manual ∧ 1 ≤ (5 : Byte).toNat ∧
    (5 : Byte).toNat ≤ ready5.ovenCount ∧ ready5.pu.push = none ∧ ready5.pu.stall = none ∧ ready5.pins.estop = false ∧
    (ready5.oven 5).phase = .ready ∧ ready5.braced 5 = true ∧ ready5.live .pusher = true ∧ ready5.live .guide = true ∧
    ready5.live (servingNode 5) = true ∧ ready5.offerCar 5 = some .one ∧ ready5.FieldRoom 3 ∧ ready5.NoticeRoom 1 ∧
    (ready5.oven 5).valve.mode = ready5.valveMode 5 ∧
    ready5.qu.zones[min 7 ((96 - 1) >>> ready5.qu.zoneShift)]? = some ⟨.one, some .two⟩ :=
  ⟨shapeLaw_of_check _ (by decide +kernel), by decide +kernel⟩

theorem pushing_shape (x : Stage) : ShapeLaw (pushing x) ∧ PushLaw (pushing x) := by
  constructor
  · apply shapeLaw_of_check; cases x <;> decide +kernel
  · apply pushLaw_of_check; cases x <;> decide +kernel

theorem witness_AbortPushActsByStage : ∀ x : Stage,
    ShapeLaw (pushing x) ∧ PushLaw (pushing x) ∧ (pushing x).Free ∧ (1 : Byte) ≠ 0 ∧
    (pushing x).pu.push = some (pushOf x) ∧ (pushing x).pu.stall = none ∧ (pushOf x).number = 7 ∧ (pushOf x).stage = x ∧
    (pushing x).su.slotFlag = false ∧ (pushing x).FieldRoom 6 ∧ (pushing x).NoticeRoom 2 ∧ (pushing x).NoticesWait ∧
    stalled.pu.stall ≠ none ∧ stalled.Free := by
  intro x
  refine ⟨(pushing_shape x).1, (pushing_shape x).2, ?_⟩
  cases x <;> decide +kernel

theorem witness_ClearStallRemovesTheRecord :
    ShapeLaw stalled ∧ PushLaw stalled ∧ stalled.Free ∧ (1 : Byte) ≠ 0 ∧ 1 < (2 : Byte).toNat ∧ (1 : Byte).toNat ≤ 1 ∧
    up.pu.stall = none ∧ stalled.pu.stall.isSome = true ∧ stalled.pins.estop = false ∧
    (stalled.withPins ⟨false, true⟩).pins.estop = true ∧ (stalled.oven 5).doorP.state ≠ .off ∧
    (stalled.oven 5).doorC.state ≠ .off ∧ stalled.FieldRoom 5 ∧ stalled.NoticeRoom 1 ∧ (stalled.car .one).state = .spotted :=
  ⟨stalled_lawful.1, stalled_lawful.2, by decide +kernel⟩

/-- The claimed car of the stall LOADED, the tower free and then held by car 2. -/
theorem witness_ClearStall_dispatches :
    let s := carIn stalled .one .loaded fun r => { r with load := some ⟨7, 5, 900⟩ }
    ShapeLaw s ∧ PushLaw s ∧ (s.Free ∧ (s.car .one).state = .loaded ∧ s.qu.holder = none ∧ s.qu.waiters = [] ∧
      (s.withQu { s.qu with holder := some .two }).qu.holder ≠ none) :=
  ⟨shapeLaw_of_check _ (by decide +kernel), pushLaw_of_check _ (by decide +kernel), by decide +kernel⟩

/-- AUTO with a slot pending, oven 5 at the cursor: at the end of its push, or at a dump's end or a car's return, it is tried. -/
def slotted (s : State) : State :=
  s.withSu { s.su with mode := .auto, slotFlag := true, cursor := Sys2Proof.Machine.positionOf 96 5 2 5 }

/-- The same part with no slot pending. -/
def unslotted (s : State) : State := (slotted s).withSu { (slotted s).su with slotFlag := false }

theorem witness_PendingSlotIsTried :
    (let c : Instr := .stageConfirmation 0 entries; let s := pushing .doorsOn;
      (slotted s).pins.inReset = false ∧ answers (exec c (unslotted s)) = true ∧ (slotted s).pu.push ≠ none ∧
      (after c (unslotted s)).pu.push = none ∧ (after c (unslotted s)).pu.stall = none) ∧
    (let c : Instr := .abortPush 1 7; let s := pushing .spot;
      (slotted s).Free ∧ (slotted s).NoticeRoom 4 ∧ answers (exec c (unslotted s)) = true ∧ (slotted s).pu.push ≠ none ∧
      (after c (unslotted s)).pu.push = none ∧ (after c (unslotted s)).pu.stall = none) ∧
    (let c : Instr := .carServiceIn 1 1; let s := carIn row .one .outOfService id;
      (slotted s).Free ∧ (slotted s).NoticeRoom 3 ∧ answers (exec c (unslotted s)) = true ∧
      ((slotted s).car .one).state = .outOfService ∧ ((after c (unslotted s)).car .one).state = .parked) := by
  refine ⟨?_, ?_, ?_⟩ <;> decide +kernel

/-- R52's last rows: the host's abort tries the slot and oven 5 is pushed again; the pusher's silence does not, in either order of its
two events, and leaves the schedule PAUSED. -/
theorem test_silence_tries_no_slot :
    (after (.abortPush 1 7) (slotted (pushing .spot))).pu.push.map (·.number) = some 8 ∧
    (let t := after (.machineSilenceAtPu .pusher) (after (.silenceAtSu .pusher) (slotted (pushing .spot)));
      (t.pu.push, t.su.mode, t.su.slotFlag) = (none, .paused, false)) ∧
    (let t := after (.silenceAtSu .pusher) (after (.machineSilenceAtPu .pusher) (slotted (pushing .spot)));
      (t.pu.push, t.su.mode, t.su.slotFlag) = (none, .paused, false)) := by
  refine ⟨?_, ?_, ?_⟩ <;> decide +kernel

theorem witness_PusherReportsDriveTheRam :
    (96 ≤ 96 ∧ up.pins.inReset = false ∧ up.pu.push = none) ∧
    ((pushing .isolate).pu.push = some (pushOf .isolate) ∧ (pushing .ram).pu.push = some (pushOf .ram) ∧
      (pushOf .ram).forwardSeen = true ∧ (pushing .ram).FieldRoom 3 ∧ (pushing .ram).NoticeRoom 1 ∧
      (pushing .ram).NoticesWait ∧ RamState.moving ≠ .home) ∧
    (pushing .ram).pu.limits.sticker < min 4000 (2601 : Half).toNat ∧
    min 4000 (2600 : Half).toNat ≤ (pushing .ram).pu.limits.sticker ∧
    ((pushing .spot).pu.push = some (pushOf .spot) ∧ (pushing .spot).pu.guide.position = 5 ∧
      (pushing .spot).pu.guide.latched = true ∧ (pushOf .spot).claimed = true ∧ ((pushing .spot).car .one).state = .spotted ∧
      ((pushing .spot).car .one).position = .oven 5 ∧ (pushing .spot).FieldRoom 3 ∧ (96 : Nat) ≠ 5) := by decide +kernel

/-- The laws the pusher's report needs in SPOT and in RAM. -/
theorem witness_PusherReports_laws : (ShapeLaw (pushing .spot) ∧ PushLaw (pushing .spot)) ∧
    ShapeLaw (pushing .ram) ∧ PushLaw (pushing .ram) := ⟨pushing_shape .spot, pushing_shape .ram⟩

/-- The claimed car LOADED at the end of RAM, the tower free, or with a car waiting. -/
theorem witness_PusherReports_dispatches :
    let s := carIn (pushing .ram) .one .loaded fun r => { r with load := some ⟨7, 5, 900⟩ }
    ShapeLaw s ∧ PushLaw s ∧ (s.pu.push = some (pushOf .ram) ∧ (s.car .one).state = .loaded ∧ s.qu.holder = none ∧
      s.qu.waiters = [] ∧ (s.withQu { s.qu with waiters := [.two] }).qu.waiters ≠ [] ∧ s.pins.estop = false ∧
      (s.withPins ⟨false, true⟩).pins.estop = true) :=
  ⟨shapeLaw_of_check _ (by decide +kernel), pushLaw_of_check _ (by decide +kernel), by decide +kernel⟩

theorem witness_GuideReportsLatchAndCompleteSpot :
    (pushing .spot).pins.inReset = false ∧ (pushing .spot).pu.push = some (pushOf .spot) ∧ (pushOf .spot).latchSent = false ∧
    (pushing .spot).FieldRoom 3 ∧ (pushing .spot).pu.pusher.position = 5 ∧ (pushOf .spot).claimed = true ∧
    ((pushing .spot).car .one).state = .spotted ∧ ((pushing .spot).car .one).position = .oven 5 ∧
    (pushing .ram).pu.push = some (pushOf .ram) ∧ (pushOf .ram).stage ≠ .spot ∧ (96 : Nat) ≠ (pushOf .spot).oven ∧
    (let s := carIn (pushing .spot) .one .spotted fun r => { r with position := .unknown };
      s.pu.push = some (pushOf .spot) ∧ (s.car .one).state = .spotted ∧ (s.car .one).position ≠ .oven 5) := by decide +kernel

theorem witness_StageConfirmationsAreJudgedByStage : ∀ x : Stage,
    ShapeLaw (pushing x) ∧ PushLaw (pushing x) ∧ (pushing x).pins.inReset = false ∧ entries.length = 8 ∧
    (pushing x).pu.push = some (pushOf x) ∧ entries[((pushOf x).oven - 1) % 8]? = some entry ∧
    ((pushOf x).oven - 1) / 8 = (0 : Fin 12).val ∧ ((pushOf x).oven - 1) / 8 % 12 ≠ (1 : Fin 12).val ∧
    (⟨100, 16, true, false, false, 0, 0⟩ : OvenEntry).feedback.toNat ≤ 16 ∧ 16 < (17 : Half).toNat ∧
    (pushing x).su.slotFlag = false ∧ (pushing x).FieldRoom 4 ∧ (pushing x).NoticeRoom 1 ∧ (pushing x).NoticesWait := by
  intro x
  refine ⟨(pushing_shape x).1, (pushing_shape x).2, ?_⟩
  cases x <;> decide +kernel

theorem witness_AbortEventsActByStage : ∀ x : Stage,
    ShapeLaw (pushing x) ∧ PushLaw (pushing x) ∧ (pushing x).pins.inReset = false ∧ up.pu.push = none ∧
    (pushing x).pu.push = some (pushOf x) ∧ (pushOf x).timer ≠ 0 ∧ ({ pushOf x with timer := 0 } : PushRecord).timer = 0 ∧
    (pushing x).su.slotFlag = false ∧ (pushing x).FieldRoom 6 ∧ (pushing x).NoticeRoom 2 ∧ (pushing x).NoticesWait := by
  intro x
  refine ⟨(pushing_shape x).1, (pushing_shape x).2, ?_⟩
  cases x <;> decide +kernel

theorem witness_DoorServiceSetsThePermit :
    ShapeLaw row ∧ row.Free ∧ (1 : Byte) ≠ 0 ∧ (1 ≤ (96 : Byte).toNat ∧ (96 : Byte).toNat ≤ row.ovenCount) ∧
    (row.oven 96).phase = .empty ∧ Side.c.code = (1 : Byte).toNat ∧ (row.oven 5).phase ≠ .empty ∧ row.excluded 5 = false :=
  ⟨shapeLaw_of_check _ (by decide +kernel), by decide +kernel⟩

theorem witness_OvenReportsDriveTheDoors :
    ShapeLaw up ∧ up.pins.inReset = false ∧ entries.length = 8 ∧ up.bk.mode = .run ∧ idle.bk.mode = .config ∧
    (Door.reset.state = .sealed ∧ ({ Door.reset with leakLevel := 2 } : Door).leakLevel < up.du.leakThreshold ∧
      up.du.leakThreshold ≤ ({ Door.reset with leakLevel := 3 } : Door).leakLevel ∧ 0 < up.du.leakPersistence) ∧
    (({ Door.reset with persistence := 1 } : Door).persistence + 1 < up.du.leakPersistence ∧
      up.du.leakPersistence ≤ ({ Door.reset with persistence := 2 } : Door).persistence + 1) ∧
    (({ Door.reset with clampStep := 14 } : Door).clampStep < 15 ∧ 15 ≤ ({ Door.reset with clampStep := 15 } : Door).clampStep) ∧
    (up.pu.taken = none ∧ up.FieldRoom 48 ∧ up.NoticeRoom 16 ∧ up.NoticesWait ∧ entries[(96 - 1) % 8]? = some entry ∧
      (up.withPu { up.pu with taken := some ⟨96, entries, .retreat⟩ }).pu.taken = some ⟨96, entries, .retreat⟩ ∧
      entries ≠ reading 7 { entry with presentP := false }) :=
  ⟨up_lawful.1, by decide +kernel⟩

/-- Oven 96: P side SEATED with its settle timer run out, C side OFF with its door-off timer run out. -/
def timed : State :=
  up.setOven 96 { Oven.reset with
    doorP := { Door.reset with state := .seated, settleTimer := some 0 }
    doorC := { Door.reset with state := .off, doorOffTimer := some 0 } }

theorem witness_DoorTimersSealAndMark :
    ShapeLaw timed ∧ timed.pins.inReset = false ∧ 1 ≤ 96 ∧ 96 ≤ timed.ovenCount ∧ timed.bk.mode = .run ∧
    ((timed.oven 96).door .p).settleTimer = some 0 ∧ ((timed.oven 96).door .p).state = .seated ∧
    ((timed.oven 96).door .c).doorOffTimer = some 0 ∧ ((timed.oven 96).door .c).state = .off ∧ timed.NoticeRoom 1 ∧
    timed.NoticesWait ∧ timed.FieldRoom 2 ∧ ((up.oven 1).door .p).settleTimer ≠ some 0 ∧
    (let s := timed.setOven 96 ((timed.oven 96).setValve { Valve.reset with mode := .closed });
      (s.oven 96).valve.mode = s.valveMode 96) ∧
    (let s := up.setOven 96 { Oven.reset with doorC := { Door.reset with settleTimer := some 0, doorOffTimer := some 0 } };
      ((s.oven 96).door .c).settleTimer = some 0 ∧ ((s.oven 96).door .c).state ≠ .seated ∧ ((s.oven 96).door .c).state ≠ .off) :=
  ⟨shapeLaw_of_check _ (by decide +kernel), by decide +kernel⟩

theorem witness_ProfileRequestsAndSetpoints :
    up.Free ∧ (1 : Byte) ≠ 0 ∧ (16 : Byte).toNat ≤ 16 ∧ 16 < (17 : Byte).toNat ∧
    (∃ t, exec (.stop 1) up = .next t) :=
  ⟨by decide +kernel, by decide, by decide, by decide, next_of_answers (by decide +kernel)⟩

theorem witness_ManualValvesAndMainAreSet :
    ShapeLaw up ∧ up.Free ∧ (1 : Byte) ≠ 0 ∧ (1 ≤ (96 : Byte).toNat ∧ (96 : Byte).toNat ≤ up.ovenCount) ∧
    ¬(1 ≤ (97 : Byte).toNat ∧ (97 : Byte).toNat ≤ up.ovenCount) ∧ (up.oven 96).phase ≠ .stalled ∧ (up.oven 96).phase ≠ .pushing ∧
    up.FieldRoom 2 ∧
    ((stalled.setOven 5 { stalled.oven 5 with valve := { Valve.reset with mode := .closed } }).oven 5).phase = .stalled ∧
    ((stalled.setOven 5 { stalled.oven 5 with valve := { Valve.reset with mode := .closed } }).oven 5).valve.mode = .closed ∧
    1 < (2 : Byte).toNat ∧ (1 : Byte).toNat ≤ 1 ∧ (up.oven 96).valve.manualFlag = false ∧
    ((up.setOven 96 (Oven.reset.setValve { Valve.reset with manualFlag := true })).oven 96).valve.manualFlag = true :=
  ⟨up_lawful.1, by decide +kernel⟩

/-- Oven 96 COKING, its valve in AUTO with a valid reading. -/
def inAuto : State := setpointCase 96 .coking 5000 0 400 (-30) false

theorem witness_SamplesRunTheLoops :
    ShapeLaw inAuto ∧ ValveLaw inAuto ∧ inAuto.pins.inReset = false ∧ entries.length = 8 ∧
    entries[(96 - 1) % 8]? = some entry ∧ inAuto.FieldRoom 16 ∧ (inAuto.oven 96).valve.mode = .auto ∧
    (inAuto.oven 96).valve.lastPressure.isSome = true ∧ entry.pressure ≠ 0x8000 ∧
    (up.FieldRoom 1 ∧ up.pr.main.mode = up.mainModeBy up.hearsMain ∧ up.bk.mode = .run ∧ up.hearsMain = true ∧
      up.pr.main.manualFlag = false ∧ (0x7FFF : Half) ≠ 0x8000 ∧ Instr.ovenNodeReturn 11 ∉ inAuto.due ∧
      Instr.mainNodeReturn ∈ (up.withDue [.mainNodeReturn]).due) :=
  ⟨shapeLaw_of_check _ (by decide +kernel), valveLaw_of_check _ (by decide +kernel), by decide +kernel⟩

theorem witness_SilenceAndReturnAtTheOwners :
    ShapeLaw up ∧ up.pins.inReset = false ∧ up.pr.main.manualFlag = false ∧ up.FieldRoom 16 ∧ 1 ≤ 96 ∧ 96 ≤ 96 ∧
    (Node.oven 11).id = 16 + (96 - 1) / 8 ∧ (11 : Fin 12).val = (96 - 1) / 8 ∧ Valve.reset.mode = .hold ∧
    ∀ m ∈ [ValveMode.closed, .aspirate, .manual, .auto], m ≠ Valve.reset.mode :=
  ⟨up_lawful.1, by decide +kernel⟩

/-- Car 1 FAULTED at BAY2, which it had reserved, with the grant and a load. -/
def faulted : State :=
  let q := (up.qu.setBay 2 ⟨.reserved, some .one, none⟩)
  carIn (up.withQu q) .one .faulted fun r =>
    { r with position := .bay 2, reservedBay := some 2, load := some ⟨7, 5, 900⟩ }

theorem witness_CarServiceTakesCarsInAndOut :
    ((1 : Byte) ≠ 0 ∧ (3 : Byte) ≠ 1 ∧ (3 : Byte) ≠ 2 ∧ Car.one.code = (1 : Byte).toNat ∧ Car.two.code = (2 : Byte).toNat) ∧
    (up.Free ∧ (up.car .one).state = .parked) ∧
    (let s := carIn up .one .outOfService id; s.Free ∧ (s.car .one).state = .outOfService ∧ s.live (.car .one) = true ∧ s.su.slotFlag = false) ∧
    (let s := carIn idle .two .outOfService id; (s.withFl FieldLink.reset).Free ∧ (s.withFl FieldLink.reset).live (.car .two) = false) ∧
    (pushing .spot).Free ∧ ((pushing .spot).car .one).state = .spotted ∧
    ShapeLaw faulted ∧ faulted.Free ∧ (faulted.car .one).state = .faulted ∧ Car.one ∉ faulted.qu.waiters ∧
    Car.one ∉ faulted.qu.bayWaiters ∧ faulted.NoticeRoom 1 ∧ faulted.FieldRoom 2 ∧ faulted.qu.holder ≠ some .one ∧
    (faulted.car .one).reservedBay = some 2 ∧ (faulted.car .one).position = .bay 2 := by
  refine ⟨by decide, by decide +kernel, by decide +kernel, by decide +kernel, by decide +kernel, by decide +kernel,
    shapeLaw_of_check _ (by decide +kernel), by decide +kernel⟩

/-- Car 1 FAULTED with the grant and a bay reserved where it does not stand, car 2 waiting for the tower and then for a bay. -/
theorem witness_CarService_hands_on :
    let s := carIn up .one .faulted fun r => { r with reservedBay := some 2 }
    let a := s.withQu { s.qu with holder := some .one, waiters := [.two] }
    let b := s.withQu { s.qu with bayWaiters := [.two] }
    ShapeLaw s ∧ (a.Free ∧ (a.car .one).state = .faulted ∧ Car.one ∉ a.qu.waiters ∧ Car.one ∉ a.qu.bayWaiters ∧
      a.NoticeRoom 1 ∧ a.FieldRoom 2 ∧ a.qu.holder = some .one) ∧
    (b.Free ∧ Car.one ∉ b.qu.bayWaiters ∧ (b.car .one).reservedBay = some 2 ∧ (b.car .one).position ≠ .bay 2) :=
  ⟨shapeLaw_of_check _ (by decide +kernel), by decide +kernel, by decide +kernel⟩

/-- Car 1 under way or at work in each state whose rule a report moves. -/
def spotting : State := carIn (pushing .spot) .one .toSpot fun r => { r with target := some (.oven 5) }
def early : State := spotting.withPu { spotting.pu with pusher := ⟨96, .home, 0, false, 0⟩ }
def toApproach : State :=
  let s := up.withQu { up.qu with waiters := [.one] }
  carIn s .one .toTower fun r => { r with target := some .approachT }
def toTower : State :=
  let s := up.withQu { up.qu with holder := some .one }
  carIn s .one .toTower fun r => { r with target := some .tower }
def toBay : State := carIn up .one .toWharf fun r => { r with target := some (.bay 4), reservedBay := some 4 }
def toWharf : State := carIn up .one .waitingBay fun r => { r with target := some .approachW }
def dumping : State := carIn up .one .dumping fun r =>
  { r with reservedBay := some 4, load := some ⟨7, 5, 900⟩, dumpTimer := some 0 }

theorem witness_CarReportsMoveTheCycle :
    ShapeLaw up ∧ up.pins.inReset = false ∧ (Location.oven 96).wf = true ∧ up.FieldRoom 1 ∧ up.NoticeRoom 1 ∧ up.NoticesWait ∧
    up.su.slotFlag = false ∧ (faulted.car .one).state = .faulted ∧
    ((toApproach.car .one).state = .toTower ∧ Car.one ∈ toApproach.qu.waiters ∧
      (toApproach.car .one).target = some .approachT) ∧
    ((toTower.car .one).state = .toTower ∧ toTower.qu.holder = some .one ∧ (toTower.car .one).target = some .tower) ∧
    ((toBay.car .one).state = .toWharf ∧ (toBay.car .one).reservedBay = some 4 ∧ (toBay.car .one).target = some (.bay 4)) ∧
    ((toWharf.car .one).state = .waitingBay ∧ (toWharf.car .one).target = some .approachW) ∧
    (((pushing .ram).car .one).state = .spotted ∧ ((pushing .ram).car .one).target = none ∧
      (pushing .ram).pu.push = some (pushOf .ram)) ∧
    ((dumping.car .one).state = .dumping ∧ (dumping.car .one).target = none ∧ (dumping.car .one).reservedBay = some 4 ∧
      (dumping.car .one).load = some ⟨7, 5, 900⟩) :=
  ⟨up_lawful.1, by decide +kernel⟩

/-- An arrival before and with the other conditions of SPOT, and a car beneath a stalled oven. -/
theorem witness_CarReports_at_the_oven :
    ((early.car .one).state = .toSpot ∧ (early.car .one).target = some (.oven 5) ∧ early.pu.push = some (pushOf .spot) ∧
      early.pu.pusher.position ≠ (pushOf .spot).oven) ∧
    (spotting.pu.push = some (pushOf .spot) ∧ spotting.pu.pusher.position = 5 ∧ spotting.pu.guide.position = 5 ∧
      spotting.pu.guide.latched = true ∧ (spotting.car .one).state = .toSpot ∧
      (spotting.car .one).target = some (.oven 5) ∧ spotting.FieldRoom 3 ∧ spotting.su.slotFlag = false) ∧
    (stalled.pu.push = none ∧ (stalled.pu.stall.map fun r => (r.car, r.claimed, r.stage, r.oven)) = some (.one, true, .ram, 5) ∧
      (stalled.car .one).state = .spotted ∧ (stalled.car .one).target = none) :=
  by decide +kernel

/-- Reports that are recorded and nothing else: at the target of a move to the spot and not ready, loaded outside RAM, and of a car
that neither moves nor stands at a spot. Car timers that have run out and end nothing. -/
theorem witness_CarReports_recorded_only :
    ((spotting.car .one).state = .toSpot ∧ (spotting.car .one).target = some (.oven 5) ∧ CarStatus.empty ≠ .ready) ∧
    (((pushing .doorsOff).car .one).state = .spotted ∧ ((pushing .doorsOff).car .one).target = none ∧
      (pushing .doorsOff).pu.push = some (pushOf .doorsOff) ∧ (pushOf .doorsOff).stage ≠ .ram) ∧
    ((up.car .one).state = .parked ∧ (up.car .one).target = none) ∧
    (let s := carIn up .one .parked fun r => {
        r with travelTimer := some 0, quenchTimer := some 0, drainTimer := some 0, dumpTimer := some 0 };
      s.bk.mode = .run ∧ (s.car .one).travelTimer = some 0 ∧ (s.car .one).target = none ∧
      (s.car .one).quenchTimer = some 0 ∧ (s.car .one).drainTimer = some 0 ∧ (s.car .one).dumpTimer = some 0 ∧
      (s.car .one).state = .parked) := by decide +kernel

theorem witness_spotting_lawful : ShapeLaw spotting ∧ PushLaw spotting :=
  ⟨shapeLaw_of_check _ (by decide +kernel), pushLaw_of_check _ (by decide +kernel)⟩

theorem witness_CarFaultsHaltTheCar :
    ShapeLaw dumping ∧ PushLaw dumping ∧ dumping.pins.inReset = false ∧ (dumping.car .one).state ≠ .outOfService ∧
    (dumping.car .one).state ≠ .faulted ∧ dumping.bk.mode = .run ∧ (dumping.car .one).dumpTimer = some 0 ∧
    (dumping.car .one).state = .dumping ∧ dumping.pu.push = none ∧ dumping.FieldRoom 2 ∧ dumping.NoticeRoom 1 ∧
    dumping.NoticesWait ∧ (up.car .one).quenchTimer ≠ some 0 ∧
    (let s := carIn toBay .one .toWharf fun r => { r with travelTimer := some 0 };
      (s.car .one).travelTimer = some 0 ∧ (s.car .one).target ≠ none ∧ s.pu.push = none) :=
  ⟨shapeLaw_of_check _ (by decide +kernel), pushLaw_of_check _ (by decide +kernel), by decide +kernel⟩

/-- The claimed car's fault in each stage: its node falls silent, or it reports another place than its spot. -/
theorem witness_CarFaults_claimed : ∀ x : Stage,
    ShapeLaw (pushing x) ∧ PushLaw (pushing x) ∧ (pushing x).pins.inReset = false ∧
    ((pushing x).car .one).state = .spotted ∧ (pushing x).pu.push = some (pushOf x) ∧ (pushOf x).claimed = true ∧
    (pushOf x).car = .one ∧ (pushing x).su.slotFlag = false ∧ (pushing x).FieldRoom 7 ∧ (pushing x).NoticeRoom 3 ∧
    (pushing x).NoticesWait ∧ (Location.bay 1).wf = true ∧ Location.bay 1 ≠ .oven (pushOf x).oven := by
  intro x
  refine ⟨(pushing_shape x).1, (pushing_shape x).2, ?_⟩
  cases x <;> decide +kernel

/-- Car 1 awaiting spray, quenching and draining, each with its timer run out. -/
def awaiting : State :=
  let s := up.withQu { up.qu with holder := some .one }
  carIn s .one .toTower id
def quenching : State :=
  carIn awaiting .one .quenching fun r => { r with quenchTimer := some 0 }
def draining : State := carIn awaiting .one .draining fun r => { r with drainTimer := some 0, hotTimer := some 0 }
def held : State := up.withQu (up.qu.setBay 4 ⟨.occupied, none, some 0⟩)

theorem witness_TowerQuenchesAndBaysAreHandedOn :
    ShapeLaw awaiting ∧ awaiting.pins.inReset = false ∧ awaiting.FieldRoom 2 ∧
    (awaiting.qu.holder = some .one ∧ (awaiting.car .one).state = .toTower ∧ (awaiting.car .one).target = none) ∧
    (quenching.bk.mode = .run ∧ (quenching.car .one).quenchTimer = some 0 ∧ (quenching.car .one).state = .quenching) ∧
    ((draining.car .one).drainTimer = some 0 ∧ (draining.car .one).state = .draining ∧ draining.qu.holder = some .one ∧
      Car.one ∉ draining.qu.waiters ∧ draining.qu.waiters.head? = none ∧ (draining.qu.bay 1).state = .free ∧
      (let q := { draining.qu with waiters := [.two], bays := List.replicate 4 ⟨.occupied, none, some 9⟩ };
        q.waiters.head? = some .two ∧ Car.one ∉ q.waiters ∧ ∀ b < 5, 0 < b → (q.bay b).state ≠ .free)) ∧
    ((draining.car .one).hotTimer = some 0 ∧ draining.NoticeRoom 1 ∧ draining.NoticesWait) ∧
    (held.bk.mode = .run ∧ (held.qu.bay 4).holdTimer = some 0 ∧ held.qu.bayWaiters = [] ∧ (up.qu.bay 1).holdTimer ≠ some 0) ∧
    (held.withQu { held.qu with bayWaiters := [.two] }).qu.bayWaiters.head? = some .two :=
  ⟨shapeLaw_of_check _ (by decide +kernel), by decide +kernel⟩

theorem witness_EstopIsDeliveredAndActsOnCars :
    up.pins.inReset = false ∧ up.pins.estop = false ∧ (up.withPins ⟨false, true⟩).pins.estop = true ∧ up.FieldRoom 2 := by
  decide +kernel

/-- A guide report's frame: id 2, kind, body and CRC. -/
def guideBody : List Byte := (encodeReport (.guide ⟨96, true, false, 0⟩)).2.2
def guideKind : Byte := (encodeReport (.guide ⟨96, true, false, 0⟩)).2.1

theorem witness_ReportsReachTheirOwnersAndSilenceIsSeen :
    ShapeLaw up ∧ up.pins.inReset = false ∧ guideBody.length ≤ 120 ∧ up.fl.fDe = false ∧
    (decodeReport .guide guideKind guideBody = some (.guide ⟨96, true, false, 0⟩) ∧ Node.guide.id = (2 : Byte).toNat ∧
      (up.fl.entry .guide).inUse = true ∧ (up.fl.entry .guide).quiet < Node.guide.window ∧ up.NoticeRoom 1 ∧ up.NoticesWait) ∧
    (let s := up.withFl (up.fl.setEntry (.oven 11) ⟨.live, true, (Node.oven 11).window, 990⟩); (s.fl.entry (.oven 11)).inUse = true ∧ (s.fl.entry (.oven 11)).liveness = .live ∧
        (Node.oven 11).window ≤ (s.fl.entry (.oven 11)).quiet) ∧
    (let s := up.withFl (up.fl.setEntry .guide ⟨.silent, true, Node.guide.window, 990⟩); (s.fl.entry .guide).inUse = true ∧
      (s.fl.entry .guide).liveness = .silent ∧ s.fl.fDe = false ∧ s.NoticeRoom 1 ∧ s.NoticesWait) ∧
    (let s := up.withFl (up.fl.setEntry .guide ⟨.live, true, Node.guide.window, 990⟩); (s.fl.entry .guide).inUse = true ∧
      (s.fl.entry .guide).liveness = .live ∧ Node.guide.window ≤ (s.fl.entry .guide).quiet ∧ s.NoticeRoom 2 ∧ s.NoticesWait) ∧
    (State.reset.fl.entry .guide).liveness = .neverHeard ∧ (State.reset.fl.entry .guide).inUse = true :=
  ⟨up_lawful.1, by decide +kernel⟩

theorem witness_FieldLineSendsTheQueueInOrder :
    up.pins.inReset = false ∧ up.fl.fDe = false ∧ (up.withFl { up.fl with fDe := true }).fl.fDe = true ∧
    up.fl.receiver = .skip ∧ (up.withFl { up.fl with receiver := .idle }).fl.receiver = .idle ∧
    (up.withFl { up.fl with receiver := .collect [2] }).fl.receiver = .collect [2] ∧ 120 < (121 : Byte).toNat := by decide +kernel

/-- Commands on an idle line, and with 256 frames waiting. -/
theorem witness_CommandsJoinOrAreDiscarded :
    let full := up.withFl { up.fl with queue := List.replicate 256 ⟨.tower, .halt⟩ }
    up.fl.queue.length ≤ 256 ∧ full.fl.queue.length ≤ 256 ∧ full.fl.fullRaised = false ∧ full.pins.inReset = false ∧
    (full.fl.queue ++ [⟨.tower, .spray true⟩])[256]? = some ⟨.tower, .spray true⟩ ∧
    (up.withFl { up.fl with receiver := .idle }).fl.receiver = .idle := by decide +kernel

/-- Notices with 32 waiting, with the transmitter idle and S_RTS asserted, and with S_RTS deasserted. -/
theorem witness_NoticesJoinOrAreLost :
    let full := timed.withSl { timed.sl with notices := List.replicate 32 ⟨1, .slotOverrun⟩ }
    let on := timed.withSl { timed.sl with rts := true }
    32 ≤ full.sl.notices.length ∧ timed.sl.notices.length < 32 ∧
    (on.sl.transmitter = .idle ∧ on.sl.replySlot = none ∧ on.sl.rts = true ∧ on.sl.inService = none) ∧
    (timed.withSl { timed.sl with rts := false }).sl.replySlot = none ∧ full.pins.inReset = false ∧ full.bk.mode = .run ∧
    ((full.oven 96).door .c).doorOffTimer = some 0 ∧ ((full.oven 96).door .c).state = .off ∧ full.Free := by decide +kernel

theorem witness_SupervisoryReceiverAndTransmitter :
    up.pins.inReset = false ∧ up.sl.receiver = .hunt ∧ (up.withSl { up.sl with receiver := .skip }).sl.receiver = .skip ∧
    (up.withSl { up.sl with receiver := .collect [] }).sl.receiver = .collect [] ∧ 240 < (241 : Byte).toNat ∧
    (240 : Byte).toNat ≤ 240 ∧ up.sl.transmitter = .idle ∧ serving.sl.transmitter = .reply ∧ serving.sl.spare = none ∧
    spared.sl.spare = some ⟨1, 2, []⟩ ∧ encodeRequest (.status 2) = some ⟨1, 2, []⟩ ∧ spared.due = [] ∧
    (up.withSl { up.sl with transmitter := .notice ⟨1, .slotOverrun⟩ }).sl.transmitter = .notice ⟨1, .slotOverrun⟩ := by
  decide +kernel

theorem witness_HoldSetKeepsThePicture :
    ShapeLaw up ∧ up.Free ∧ (1 : Byte) ≠ 0 ∧ (1 ≤ (96 : Byte).toNat ∧ (96 : Byte).toNat ≤ up.ovenCount) ∧
    ¬up.ovenCount < (96 : Byte).toNat + (0 : Byte).toNat ∧ up.ovenCount < (96 : Byte).toNat + (1 : Byte).toNat ∧
    (3 : Byte) ≠ 4 :=
  ⟨up_lawful.1, by decide +kernel⟩

theorem witness_BatterySecondTicksTheTimers :
    ShapeLaw up ∧ up.pins.inReset = false ∧ up.bk.mode = .run ∧ idle.bk.mode = .config ∧ ShapeLaw idle :=
  ⟨up_lawful.1, rfl, rfl, rfl, shapeLaw_of_check _ (by decide +kernel)⟩

theorem witness_ConfigurationIsWritten :
    ShapeLaw idle ∧ idle.Free ∧ (1 : Byte) ≠ 0 ∧ idle.bk.mode = .config ∧ up.Free ∧ up.bk.mode = .run ∧
    (1 ≤ (96 : Byte).toNat ∧ (96 : Byte).toNat ≤ idle.ovenCount ∧ Phase.ready.code = (4 : Byte).toNat ∧ (4 : Byte).toNat ≤ 4) ∧
    4 < (5 : Byte).toNat ∧ idle.FieldRoom 2 :=
  ⟨shapeLaw_of_check _ (by decide +kernel), by decide +kernel⟩

theorem witness_StartAndStopChangeTheMode :
    ShapeLaw idle ∧ idle.Free ∧ (1 : Byte) ≠ 0 ∧ idle.bk.mode = .config ∧ (idle.car .one).state ≠ .outOfService ∧
    (Nat.gcd idle.su.offset idle.su.step = 1 ∧ idle.su.step ≤ idle.ovenCount) ∧ (∀ x ∈ Node.all, idle.live x = true) ∧
    idle.FieldRoom 256 ∧ idle.NoticeRoom 32 ∧ (idle.withFl FieldLink.reset).live .pusher = false ∧
    up.Free ∧ PushLaw up ∧ up.bk.mode = .run ∧ up.pu.push = none ∧ up.pu.stall = none ∧ (up.car .one).load = none ∧
    (up.car .two).load = none ∧ up.FieldRoom 256 := by
  refine ⟨shapeLaw_of_check _ (by decide +kernel), by decide +kernel, by decide, rfl, by decide +kernel, by decide +kernel,
    by decide +kernel, by decide +kernel, by decide +kernel, by decide +kernel, by decide +kernel, up_lawful.2.1,
    rfl, rfl, rfl, by decide +kernel, by decide +kernel, by decide +kernel⟩

end Sys2Proof.Tests
end

/-!
SUPPORT. How a host request taken at once leaves the part: the state its owner acts on, the reply that stands, and the frame.
-/

namespace Sys2Proof.Machine

/-! ### Frames, one update after another -/

theorem Block.Same.trans {s t u : State} {b : Block} (h : b.Same s t) (k : b.Same t u) : b.Same s u := by
  cases b <;> exact Eq.trans k h

theorem Keeps.trans {l : List Block} {s t u : State} (h : Keeps l s t) (k : Keeps l t u) : Keeps l s u :=
  fun b hb => (h b hb).trans (k b hb)

theorem Keeps.mono {l l' : List Block} {s t : State} (h : Keeps l s t) (sub : l ⊆ l') : Keeps l' s t :=
  fun b hb => h b fun hl => hb (sub hl)

theorem Keeps.refl (l : List Block) (s : State) : Keeps l s s := fun b _ => by cases b <;> rfl

theorem State.keeps_withSl (s : State) (x : SupLink) : Keeps [.sl] s (s.withSl x) := by
  intro b hb
  cases b with
  | sl => simp at hb
  | _ => rfl

theorem State.keeps_withDue (s : State) (x : List Instr) : Keeps [.due] s (s.withDue x) := by
  intro b hb
  cases b with
  | due => simp at hb
  | _ => rfl

theorem State.keeps_setOven (s : State) (n : Nat) (o : Oven) : Keeps [.ovens] s (s.setOven n o) := by
  intro b hb
  cases b with
  | ovens => simp at hb
  | _ => rfl

/-- An evaluation writes an oven record and issues commands, nothing else (R112, R113). -/
theorem State.keeps_evalValve (s : State) (n : Nat) : Keeps [.ovens, .fl, .sl] s (s.evalValve n) := by
  intro b hb
  cases b with
  | ovens | fl | sl => simp at hb
  | _ => simp [Block.Same]

/-! ### A request in service -/

/-- The state the owner of a request acts on: its event has left `due` and its frame is in service (R186). -/
def State.taking (s : State) (c : Instr) (f : Frame) : State :=
  (s.withDue (s.due.erase c)).withSl { s.sl with inService := some f }

@[simp] theorem State.taking_sl (s : State) (c : Instr) (f : Frame) : (s.taking c f).sl = { s.sl with inService := some f } := rfl

theorem State.keeps_taking (s : State) (c : Instr) (f : Frame) : Keeps [.due, .sl] s (s.taking c f) :=
  ((s.keeps_withDue _).mono (by simp)).trans ((State.keeps_withSl _ _).mono (by simp))

/-- The state after a request is what its owner left, with the reply in SL. -/
theorem serve_eq (c : Instr) (f : Frame) (owner : State → Answer) (s : State) :
    serve f owner (s.withDue (s.due.erase c)) = (owner (s.taking c f)).state.withSl
      ((owner (s.taking c f)).state.sl.answer (replyFrame f (owner (s.taking c f)))) := rfl

theorem SupLink.answer_eq (l : SupLink) (r : Frame) : l.answer r = { l with
    replySlot := some r, noticeLost := false, transmitter := if l.transmitter = .idle then .reply else l.transmitter } :=
  SupLink.choose_reply { l with replySlot := some r, noticeLost := false } r rfl

/-- The reply formed shows the state byte as the owner left it, notice-lost included (R189, R192). -/
theorem State.replyTo_answer (u : State) (f r : Frame) (x : Status) (fields : List Byte) :
    (u.withSl (u.sl.answer r)).replyTo f x fields u.sl.noticeLost = replyFrame f ⟨u, x, fields⟩ := by
  rw [SupLink.answer_eq]; rfl

/-- A request whose owner keeps it in service is replied with its owner's status and fields (R188). -/
theorem replied_serve (c : Instr) (f : Frame) (owner : State → Answer) (s : State)
    (h : (owner (s.taking c f)).state.sl.inService = some f) :
    Replied (serve f owner (s.withDue (s.due.erase c))) f (owner (s.taking c f)).status (owner (s.taking c f)).fields := by
  rw [serve_eq]
  refine ⟨?_, ?_, (owner (s.taking c f)).state.sl.noticeLost, ?_⟩
  · rw [State.withSl_sl, SupLink.answer_eq]; exact h
  · rw [State.withSl_sl, SupLink.answer_eq]
  · rw [State.replyTo_answer, State.withSl_sl, SupLink.answer_eq]

/-- A request changes what its owner changes, and the reply changes SL alone. -/
theorem frameOf_serve (c : Instr) (f : Frame) (owner : State → Answer) (s : State) {changed : List Block}
    (h : Keeps changed (s.taking c f) (owner (s.taking c f)).state) (hsl : .sl ∈ changed) (hdue : .due ∉ changed) :
    FrameOf c changed s (serve f owner (s.withDue (s.due.erase c))) := by
  rw [serve_eq]
  refine ⟨Keeps.trans (Keeps.trans ?_ (h.mono (by simp))) ((State.keeps_withSl _ _).mono (by simpa using hsl)), ?_⟩
  · exact (s.keeps_taking c f).mono (by simpa using hsl)
  · exact h .due hdue

/-- A refusal is answered and changes nothing but SL (R188). -/
theorem serve_of_refuse (c : Instr) (f : Frame) (owner : State → Answer) (s : State) (x : Status)
    (h : owner (s.taking c f) = (s.taking c f).refuse x) :
    FrameOf c [.sl] s (serve f owner (s.withDue (s.due.erase c))) ∧
      Answered s (serve f owner (s.withDue (s.due.erase c))) f x [] := by
  refine ⟨frameOf_serve c f owner s (by rw [h]; exact Keeps.refl _ _) (by simp) (by simp), ?_⟩
  have lost : s.sl.noticeLost = (s.taking c f).sl.noticeLost := rfl
  rw [Answered, serve_eq, h, lost]
  simp only [State.refuse, State.replyTo_answer]
  rw [State.withSl_sl, SupLink.answer_eq, State.taking_sl]

/-! ### Notices and commands leave the request in service -/

theorem SupLink.choose_inService (l : SupLink) : l.choose.inService = l.inService := by
  unfold SupLink.choose
  split
  · rfl
  · split <;> rfl
  · rfl

theorem SupLink.raise_inService (l : SupLink) (k : Word) (b : NoticeBody) : (l.raise k b).inService = l.inService := by
  unfold SupLink.raise
  split
  · exact SupLink.choose_inService _
  · rfl

theorem issueStep_inService (k : Word) (p : FieldLink × SupLink) (o : Outgoing) :
    (issueStep k p o).2.inService = p.2.inService := by
  unfold issueStep
  split
  · rfl
  · exact p.2.raise_inService k _

@[simp] theorem State.issueAll_inService (s : State) (cs : List Outgoing) : (s.issueAll cs).sl.inService = s.sl.inService := by
  have fold : ∀ (cs : List Outgoing) (p : FieldLink × SupLink),
      (cs.foldl (issueStep s.bk.seconds) p).2.inService = p.2.inService := by
    intro cs
    induction cs with
    | nil => intro p; rfl
    | cons c cs ih => intro p; rw [List.foldl_cons, ih, issueStep_inService]
  exact fold cs (s.fl, s.sl)

@[simp] theorem State.evalValve_inService (s : State) (n : Nat) : (s.evalValve n).sl.inService = s.sl.inService := by
  simp [State.evalValve, State.applyValve]

/-! ### The commands of a valve evaluation -/

@[simp] theorem State.evalValve_nodes (s : State) (n : Nat) : (s.evalValve n).fl.nodes = s.fl.nodes := by
  simp [State.evalValve, State.applyValve]

theorem endAspiration_length (n : Nat) (v : Valve) : (endAspiration n v).length ≤ 1 := by
  unfold endAspiration
  split <;> simp

/-- An evaluation sends at most two commands (R113). -/
theorem turnTo_length (n : Nat) (m : ValveMode) (v : Valve) : (turnTo n m v).2.length ≤ 2 := by
  have ends := endAspiration_length n v
  unfold turnTo
  split
  · simp
  · cases m <;> simp only [enterMode, List.length_cons, List.length_nil] <;> omega

theorem turnTo_of_ne (n : Nat) {m : ValveMode} {v : Valve} (h : v.mode ≠ m) : turnTo n m v = enterMode n m v :=
  if_neg (Ne.symm h)

/-- With room for two commands, the evaluation's commands join the transmit queue (R113, R175). -/
theorem State.evalValve_issued (s : State) (n : Nat) (h : s.FieldRoom 2) :
    Issued s (s.evalValve n) (turnTo n (s.valveMode n) (s.oven n).valve).2 := by
  have short := turnTo_length n (s.valveMode n) (s.oven n).valve
  exact (State.issueAll_of_room (s.setOven n _) _ (Nat.le_trans (Nat.add_le_add_left short _) h)).1

/-- In RUN a CHARGING oven's valve is in MANUAL under its flag, else in ASPIRATE (R111). -/
theorem State.valveMode_of_charging (s : State) (n : Nat) (hp : (s.oven n).phase = .charging) (hr : s.bk.mode = .run) :
    s.valveMode n = if (s.oven n).valve.manualFlag then .manual else .aspirate := by
  simp [State.valveMode, State.valveModeBy, hp, hr]

end Sys2Proof.Machine

/-!
SUPPORT. CHARGE_BEGIN: its checks, the record it fills, and the statement about it.
-/

namespace Sys2Proof.Machine

/-! ### The checks (R5) -/

/-- A node of the table with the id that serves oven n is the oven's serving node (R5, R171). -/
theorem eq_servingNode_of_id {n : Nat} {y : Node} (h : y.id = 16 + (n - 1) / 8) : y = servingNode n := by
  cases y with
  | oven m =>
    simp only [Node.id] at h
    have place : m.val = (n - 1) / 8 % 12 := by omega
    exact congrArg Node.oven (Fin.ext place)
  | car c => cases c <;> simp only [Node.id, Car.code] at h <;> omega
  | pusher | guide | tower | main => simp only [Node.id] at h; omega

theorem servingNode_id {n : Nat} (high : n ≤ 96) : (servingNode n).id = 16 + (n - 1) / 8 := by
  have small : (n - 1) / 8 % 12 = (n - 1) / 8 := by omega
  exact congrArg (16 + ·) small

theorem Node.oven_mem_all (m : Fin 12) : Node.oven m ∈ Node.all := by
  revert m; decide

/-- The sixth check of R5, by the node's id. -/
theorem State.exists_silent_iff (s : State) {n : Nat} (high : n ≤ 96) :
    (∃ y ∈ Node.all, y.id = 16 + (n - 1) / 8 ∧ (s.fl.entry y).liveness ≠ .live) ↔ s.live (servingNode n) = false := by
  simp only [State.live, beq_eq_false_iff_ne]
  constructor
  · rintro ⟨y, _, hid, hl⟩
    exact eq_servingNode_of_id hid ▸ hl
  · intro hl
    exact ⟨servingNode n, Node.oven_mem_all _, servingNode_id high, hl⟩

/-- The status CHARGE_BEGIN is answered with: R5's six checks in order. -/
theorem State.chargeRefusal_getD (s : State) (n : Nat) (hN : s.ovenCount ≤ 96) :
    (s.chargeRefusal n).getD .ok =
      if s.bk.mode ≠ .run then .wrongMode
      else if ¬(1 ≤ n ∧ n ≤ s.ovenCount) then .badOven
      else if (s.oven n).phase ≠ .empty then .wrongPhase
      else if s.excluded n = true then .excluded
      else if (s.oven n).doorP.state ≠ .sealed ∨ (s.oven n).doorC.state ≠ .sealed then .doorsNotSealed
      else if ∃ y ∈ Node.all, y.id = 16 + (n - 1) / 8 ∧ (s.fl.entry y).liveness ≠ .live then .nodeSilent
      else .ok := by
  by_cases range : 1 ≤ n ∧ n ≤ s.ovenCount
  · simp only [s.exists_silent_iff (Nat.le_trans range.2 hN)]
    simp [State.chargeRefusal, State.running, State.inRange, range, apply_ite (Option.getD · Status.ok)]
  · simp [State.chargeRefusal, State.running, State.inRange, range, apply_ite (Option.getD · Status.ok)]

theorem State.chargeRefusal_eq_none {s : State} {n : Nat} (run : s.bk.mode = .run) (low : 1 ≤ n) (high : n ≤ s.ovenCount)
    (phase : (s.oven n).phase = .empty) (free : s.excluded n = false) (sealedP : (s.oven n).doorP.state = .sealed)
    (sealedC : (s.oven n).doorC.state = .sealed) (live : s.live (servingNode n) = true) : s.chargeRefusal n = none := by
  simp [State.chargeRefusal, State.running, State.inRange, run, low, high, phase, free, sealedP, sealedC, live]

@[simp] theorem State.taking_chargeRefusal (s : State) (c : Instr) (f : Frame) (n : Nat) :
    (s.taking c f).chargeRefusal n = s.chargeRefusal n := rfl

/-! ### The owner (R5 to R8) -/

theorem chargeBegin_of_some {s : State} {n : Byte} {x : Status} (h : s.chargeRefusal n.toNat = some x) :
    chargeBegin n s = s.refuse x := by
  simp only [chargeBegin, h]

/-- The state CHARGE_BEGIN taken leaves: the record filled, then the valve evaluated (R6, R112). -/
def State.charged (s : State) (n : Nat) : State :=
  (s.setOven n ((s.oven n).beginCharge s.cc.limits s.bk.minutes)).evalValve n

theorem chargeBegin_of_none {s : State} {n : Byte} (h : s.chargeRefusal n.toNat = none) :
    chargeBegin n s = (s.charged n.toNat).reply
      (n :: byteOf ((s.oven n.toNat).nextSoak s.cc.limits.stickerSoak - 1) :: wordBytes s.bk.minutes) := by
  simp only [chargeBegin, h]; rfl

theorem State.keeps_charged (s : State) (n : Nat) : Keeps [.ovens, .fl, .sl] s (s.charged n) :=
  ((s.keeps_setOven n _).mono (by simp)).trans (State.keeps_evalValve _ n)

@[simp] theorem State.charged_inService (s : State) (n : Nat) : (s.charged n).sl.inService = s.sl.inService := by
  simp [State.charged]

@[simp] theorem State.charged_nodes (s : State) (n : Nat) : (s.charged n).fl.nodes = s.fl.nodes := by
  simp [State.charged]

theorem chargeBegin_status (n : Byte) (s : State) : (chargeBegin n s).status = (s.chargeRefusal n.toNat).getD .ok := by
  cases h : s.chargeRefusal n.toNat with
  | none => rw [chargeBegin_of_none h]; rfl
  | some x => rw [chargeBegin_of_some h]; rfl

theorem chargeBegin_inService (n : Byte) (s : State) : (chargeBegin n s).state.sl.inService = s.sl.inService := by
  cases h : s.chargeRefusal n.toNat with
  | none => rw [chargeBegin_of_none h]; exact s.charged_inService n.toNat
  | some x => rw [chargeBegin_of_some h]; rfl

/-- The valve mode CHARGE_BEGIN's evaluation gives (R111). -/
def Oven.chargeMode (o : Oven) : ValveMode := if o.valve.manualFlag then .manual else .aspirate

/-- Without the manual flag, and not in ASPIRATE already, the valve enters ASPIRATE (R113). -/
theorem Oven.turnTo_chargeMode (o : Oven) (n : Nat) (flag : o.valve.manualFlag = false) (mode : o.valve.mode ≠ .aspirate) :
    turnTo n o.chargeMode o.valve = enterMode n .aspirate o.valve := by
  have given : o.chargeMode = .aspirate := by simp [Oven.chargeMode, flag]
  rw [given, turnTo_of_ne n mode]

theorem State.valveMode_beginCharge (s : State) {n : Nat} (hn : n - 1 < s.ovens.length) (run : s.bk.mode = .run) :
    (s.setOven n ((s.oven n).beginCharge s.cc.limits s.bk.minutes)).valveMode n = (s.oven n).chargeMode := by
  have record := s.oven_setOven_self n ((s.oven n).beginCharge s.cc.limits s.bk.minutes) hn
  rw [State.valveMode_of_charging (s.setOven n _) n (by rw [record]; rfl) run, record]
  rfl

theorem State.charged_oven (s : State) {n : Nat} (hn : n - 1 < s.ovens.length) (run : s.bk.mode = .run) :
    (s.charged n).oven n = ((s.oven n).beginCharge s.cc.limits s.bk.minutes).setValve
      (turnTo n (s.oven n).chargeMode (s.oven n).valve).1 := by
  rw [State.charged, State.evalValve_oven_self _ _ (by simpa using hn), s.valveMode_beginCharge hn run,
    s.oven_setOven_self n _ hn]
  rfl

theorem State.charged_others (s : State) {n : Nat} (hn : 0 < n) : OthersKept s (s.charged n) n := by
  intro m hm h0 hne
  rw [State.charged, State.evalValve_oven_ne _ _ _ (by omega)]
  exact s.othersKept_setOven n _ hn m hm h0 hne

theorem State.charged_issued (s : State) {n : Nat} (hn : n - 1 < s.ovens.length) (run : s.bk.mode = .run)
    (room : s.FieldRoom 2) : Issued s (s.charged n) (turnTo n (s.oven n).chargeMode (s.oven n).valve).2 := by
  have issued := State.evalValve_issued (s.setOven n ((s.oven n).beginCharge s.cc.limits s.bk.minutes)) n room
  rw [s.valveMode_beginCharge hn run, s.oven_setOven_self n _ hn] at issued
  exact issued

/-! ### The command -/

theorem exec_chargeBegin (tag n : Byte) (s : State) :
    exec (.chargeBegin tag n) s = hostRequest (.chargeBegin tag n) (chargeBegin n) s := rfl

/-- The state after CHARGE_BEGIN taken at once. -/
def State.afterChargeBegin (s : State) (tag n : Byte) : State :=
  serve ⟨0x14, tag, [n]⟩ (chargeBegin n) (s.withDue (s.due.erase (.chargeBegin tag n)))

theorem exec_chargeBegin_of_free {s : State} {tag n : Byte} (free : s.Free) (ht : tag ≠ 0) :
    exec (.chargeBegin tag n) s = .next (s.afterChargeBegin tag n) := by
  rw [exec_chargeBegin]
  exact hostRequest_of_free _ ⟨0x14, tag, [n]⟩ _ s rfl rfl free ht

theorem State.afterChargeBegin_replied (s : State) (tag n : Byte) :
    Replied (s.afterChargeBegin tag n) ⟨0x14, tag, [n]⟩ ((s.chargeRefusal n.toNat).getD .ok)
      (chargeBegin n (s.taking (.chargeBegin tag n) ⟨0x14, tag, [n]⟩)).fields := by
  have replied := replied_serve (.chargeBegin tag n) ⟨0x14, tag, [n]⟩ (chargeBegin n) s (chargeBegin_inService n _)
  rwa [chargeBegin_status, State.taking_chargeRefusal] at replied

/-- Taken, CHARGE_BEGIN leaves every block but SL as `charged` leaves it. -/
theorem State.keeps_afterChargeBegin (s : State) (tag n : Byte) (h : s.chargeRefusal n.toNat = none) :
    Keeps [.sl] ((s.taking (.chargeBegin tag n) ⟨0x14, tag, [n]⟩).charged n.toNat) (s.afterChargeBegin tag n) := by
  rw [State.afterChargeBegin, serve_eq, chargeBegin_of_none (s := s.taking _ _) h]
  exact State.keeps_withSl _ _

/-- What the reply leaves of the ovens and the commands is as `charged` leaves it. -/
theorem State.afterChargeBegin_oven (s : State) (tag n : Byte) (h : s.chargeRefusal n.toNat = none) (m : Nat) :
    (s.afterChargeBegin tag n).oven m = ((s.taking (.chargeBegin tag n) ⟨0x14, tag, [n]⟩).charged n.toNat).oven m :=
  congrArg (fun l : List Oven => l.getD (m - 1) Oven.reset) (s.keeps_afterChargeBegin tag n h .ovens (by simp))

theorem State.afterChargeBegin_fl (s : State) (tag n : Byte) (h : s.chargeRefusal n.toNat = none) :
    (s.afterChargeBegin tag n).fl = ((s.taking (.chargeBegin tag n) ⟨0x14, tag, [n]⟩).charged n.toNat).fl :=
  s.keeps_afterChargeBegin tag n h .fl (by simp)

/-- Refused, CHARGE_BEGIN changes nothing but SL (R5, R188). -/
theorem State.afterChargeBegin_of_some {s : State} {tag n : Byte} {x : Status} (h : s.chargeRefusal n.toNat = some x) :
    FrameOf (.chargeBegin tag n) [.sl] s (s.afterChargeBegin tag n) ∧
      Answered s (s.afterChargeBegin tag n) ⟨0x14, tag, [n]⟩ x [] :=
  serve_of_refuse (.chargeBegin tag n) ⟨0x14, tag, [n]⟩ (chargeBegin n) s x
    (chargeBegin_of_some (s := s.taking (.chargeBegin tag n) ⟨0x14, tag, [n]⟩) h)

/-- Taken, CHARGE_BEGIN changes the oven table and the two links. -/
theorem State.afterChargeBegin_frame (s : State) (tag n : Byte) (h : s.chargeRefusal n.toNat = none) :
    FrameOf (.chargeBegin tag n) [.ovens, .fl, .sl] s (s.afterChargeBegin tag n) := by
  refine frameOf_serve _ _ _ s ?_ (by simp) (by simp)
  rw [chargeBegin_of_none (s := s.taking _ _) h]
  exact State.keeps_charged _ _

theorem State.afterChargeBegin_others {s : State} {tag n : Byte} (h : s.chargeRefusal n.toNat = none) (low : 0 < n.toNat) :
    OthersKept s (s.afterChargeBegin tag n) n.toNat := by
  intro m hm h0 hne
  rw [s.afterChargeBegin_oven tag n h]
  exact State.charged_others (s.taking _ _) low m hm h0 hne

theorem State.afterChargeBegin_record {s : State} {tag n : Byte} (h : s.chargeRefusal n.toNat = none)
    (hn : n.toNat - 1 < s.ovens.length) (run : s.bk.mode = .run) :
    (s.afterChargeBegin tag n).oven n.toNat = ((s.oven n.toNat).beginCharge s.cc.limits s.bk.minutes).setValve
      (turnTo n.toNat (s.oven n.toNat).chargeMode (s.oven n.toNat).valve).1 := by
  rw [s.afterChargeBegin_oven tag n h]
  exact State.charged_oven (s.taking _ _) hn run

theorem State.afterChargeBegin_issued {s : State} {tag n : Byte} (h : s.chargeRefusal n.toNat = none)
    (hn : n.toNat - 1 < s.ovens.length) (run : s.bk.mode = .run) (room : s.FieldRoom 2) :
    Issued s (s.afterChargeBegin tag n) (turnTo n.toNat (s.oven n.toNat).chargeMode (s.oven n.toNat).valve).2 := by
  rw [Issued, s.afterChargeBegin_fl tag n h]
  exact State.charged_issued (s.taking _ _) hn run room

/-- Taken, CHARGE_BEGIN answers the oven, the soak the record holds and the minute (R6). -/
theorem State.afterChargeBegin_reply {s : State} {tag n : Byte} (h : s.chargeRefusal n.toNat = none) :
    Replied (s.afterChargeBegin tag n) ⟨0x14, tag, [n]⟩ .ok
      (n :: byteOf ((s.oven n.toNat).nextSoak s.cc.limits.stickerSoak - 1) :: wordBytes s.bk.minutes) := by
  have replied := s.afterChargeBegin_replied tag n
  rw [h, chargeBegin_of_none (s := s.taking _ _) h] at replied
  exact replied

/-! ### The statement -/

/-- Settles O23: the checks by `chargeRefusal`, the record by `charged`. -/
theorem chargeBeginChecksAndFillsTheRecord : Obligations.ChargeBeginChecksAndFillsTheRecord := by
  unfold Obligations.ChargeBeginChecksAndFillsTheRecord
  constructor
  · intro s tag n shape free ht x hx
    rw [← s.chargeRefusal_getD n.toNat shape.countHigh] at hx
    refine ⟨_, exec_chargeBegin_of_free free ht, fun ok => ?_, fun refused => ?_⟩
    · have replied := s.afterChargeBegin_replied tag n
      rw [← hx, ok] at replied
      exact ⟨_, replied⟩
    · cases check : s.chargeRefusal n.toNat with
      | none => exact absurd (by rw [hx, check]; rfl) refused
      | some y =>
        have same : x = y := by rw [hx, check]; rfl
        exact same ▸ State.afterChargeBegin_of_some check
  · intro s tag n shape free ht run low high phase excluded sealedP sealedC live
    have passes := State.chargeRefusal_eq_none run low high phase excluded sealedP sealedC live
    have place : n.toNat - 1 < s.ovens.length := by
      have count := shape.countHigh
      rw [shape.ovens]
      omega
    have record := State.afterChargeBegin_record (tag := tag) passes place run
    have issued := State.afterChargeBegin_issued (tag := tag) passes place run
    refine ⟨_, exec_chargeBegin_of_free free ht, s.afterChargeBegin_frame tag n passes,
      State.afterChargeBegin_others passes low, ?nodes, record, ?mode, issued, ?aspirate, ?reply⟩
    case nodes =>
      rw [s.afterChargeBegin_fl tag n passes]
      exact State.charged_nodes _ _
    case mode =>
      rw [record]
      exact turnTo_mode _ _ _
    case aspirate =>
      intro room flag mode
      rw [Oven.turnTo_chargeMode _ _ flag mode] at issued record
      rw [record]
      exact ⟨issued room, rfl, rfl⟩
    case reply =>
      rw [record]
      exact State.afterChargeBegin_reply passes

end Sys2Proof.Machine

/-!
SUPPORT. The roster: the part of the state that the laws of R44 and R47 read, and what a step can do to it. Every law of the
roster is then a matter of its moves.
-/

namespace Sys2Proof.Machine

/-! ### The roster -/

/-- What the laws of R44 and R47 read: the phases, N, the part mode, the ovens of the push and stall records, both lists, and the
exclusion vector with its frame. -/
structure Roster where
  phases : List Phase
  count : Nat
  mode : PartMode
  push : Option Nat
  stall : Option Nat
  outOfTurn : List Nat
  deferred : List Nat
  granularity : Nat
  start : Nat
  vector : BitVec 64

def State.roster (s : State) : Roster where
  phases := s.ovens.map Oven.phase
  count := s.ovenCount
  mode := s.bk.mode
  push := s.pu.push.map PushRecord.oven
  stall := s.pu.stall.map StallRecord.oven
  outOfTurn := s.su.outOfTurn
  deferred := s.su.deferred
  granularity := s.su.granularity
  start := s.su.exclusionStart
  vector := s.su.exclusion

/-- COKING, SOAKING or READY (R44, R47). -/
def Phase.Holds (p : Phase) : Prop := p = .coking ∨ p = .soaking ∨ p = .ready

namespace Roster

def phase (r : Roster) (n : Nat) : Phase := r.phases.getD (n - 1) .empty

def setPhase (r : Roster) (n : Nat) (p : Phase) : Roster := { r with phases := r.phases.set (n - 1) p }

def InRange (r : Roster) (n : Nat) : Prop := 1 ≤ n ∧ n ≤ r.count

/-- The excluded state of oven n (R38). -/
def excluded (r : Roster) (n : Nat) : Bool :=
  decide (1 ≤ n ∧ n ≤ r.count) && decide (r.start ≤ n) && decide (n < r.start + 64 * 2 ^ r.granularity) &&
    r.vector.getLsbD ((n - r.start) / 2 ^ r.granularity)

/-- Each existing neighbour of oven n is COKING, SOAKING or READY, or excluded (R47). -/
def Braced (r : Roster) (n : Nat) : Prop :=
  ∀ m, (m + 1 = n ∨ m = n + 1) → r.InRange m → (r.phase m).Holds ∨ r.excluded m = true

/-- The roster under another exclusion vector or frame, the excluded ovens gone from both lists (R41). -/
def reframe (r : Roster) (g k : Nat) (v : BitVec 64) : Roster :=
  let r1 := { r with granularity := g, start := k, vector := v }
  { r1 with outOfTurn := r.outOfTurn.filter (fun n => !r1.excluded n)
            deferred := r.deferred.filter (fun n => !r1.excluded n) }

/-- What one rule does to the roster. -/
inductive Step : Roster → Roster → Prop
  /-- CHARGE_BEGIN (R6). -/
  | charge {r : Roster} {n : Nat} (range : r.InRange n) (before : r.phase n = .empty) : Step r (r.setPhase n .charging)
  /-- CHARGE_END (R10) and the coke-minute expiry (R19, R20). -/
  | age {r : Roster} {n : Nat} {p : Phase} (range : r.InRange n) (before : r.phase n = .charging ∨ (r.phase n).Holds)
      (after : p.Holds) : Step r (r.setPhase n p)
  /-- OVEN_LOAD (R212). -/
  | load {r : Roster} {n : Nat} {p : Phase} (config : r.mode = .config) (range : r.InRange n)
      (after : p ≠ .pushing ∧ p ≠ .stalled) : Step r (r.setPhase n p)
  /-- A push start (R59). -/
  | pushStart {r : Roster} {n : Nat} (run : r.mode = .run) (noPush : r.push = none) (noStall : r.stall = none)
      (range : r.InRange n) (ready : r.phase n = .ready) (braced : r.Braced n) :
      Step r (setPhase { r with
        push := some n, outOfTurn := r.outOfTurn.erase n, deferred := r.deferred.erase n } n .pushing)
  /-- A push's end in EMPTY (R69) or READY (R71, R73). -/
  | pushEnd {r : Roster} {n : Nat} {p : Phase} (named : r.push = some n) (after : p = .empty ∨ p = .ready) :
      Step r (setPhase { r with push := none } n p)
  /-- The push record becomes the stall record (R76). -/
  | pushStall {r : Roster} {n : Nat} (named : r.push = some n) :
      Step r (setPhase { r with push := none, stall := some n } n .stalled)
  /-- CLEAR_STALL (R78). -/
  | stallEnd {r : Roster} {n : Nat} {p : Phase} (named : r.stall = some n) (after : p = .empty ∨ p = .ready) :
      Step r (setPhase { r with stall := none } n p)
  /-- QUEUE_OUT_OF_TURN (R43). -/
  | queue {r : Roster} {n : Nat} (run : r.mode = .run) (range : r.InRange n) (holds : (r.phase n).Holds)
      (included : r.excluded n = false) (new : n ∉ r.outOfTurn) :
      Step r { r with outOfTurn := r.outOfTurn ++ [n], deferred := r.deferred.erase n }
  /-- The cursor passes over an oven (R50). -/
  | deferOven {r : Roster} {n : Nat} (run : r.mode = .run) (range : r.InRange n) (holds : (r.phase n).Holds)
      (included : r.excluded n = false) (new : n ∉ r.outOfTurn) (newDeferred : n ∉ r.deferred) :
      Step r { r with deferred := r.deferred ++ [n] }
  /-- WITHDRAW (R45). -/
  | withdraw {r : Roster} {a b : List Nat} (first : a.Sublist r.outOfTurn) (second : b.Sublist r.deferred) :
      Step r { r with outOfTurn := a, deferred := b }
  /-- The exclusion edits (R39 to R41). -/
  | exclude {r : Roster} {g k : Nat} {v : BitVec 64} (noPush : r.push = none) (noStall : r.stall = none) :
      Step r (r.reframe g k v)
  /-- SET_BATTERY (R211). -/
  | resize {r : Roster} {n : Nat} (config : r.mode = .config) (low : 8 ≤ n) (high : n ≤ 96) :
      Step r { r with count := n, granularity := 0, start := 1, vector := 0 }
  /-- START (R214). -/
  | enterRun {r : Roster} : Step r { r with mode := .run }
  /-- STOP (R215). -/
  | enterConfig {r : Roster} (noPush : r.push = none) (noStall : r.stall = none) :
      Step r { r with mode := .config, outOfTurn := [], deferred := [] }
  /-- The release of RESET#, and power-up (R210). -/
  | reset {r : Roster} : Step r State.reset.roster

/-! ### Phases, one write after another -/

variable {r r' : Roster} {n m : Nat} {p : Phase}

theorem phase_setPhase_self (h : n - 1 < r.phases.length) : (r.setPhase n p).phase n = p := by
  simp [phase, setPhase, h]

theorem phase_setPhase_ne (h : m - 1 ≠ n - 1) : (r.setPhase n p).phase m = r.phase m := by
  simp [phase, setPhase, List.getD_eq_getElem?_getD, List.getElem?_set_ne (Ne.symm h)]

/-- A write of the phase that stands there changes nothing. -/
@[simp] theorem setPhase_self (r : Roster) (n : Nat) : r.setPhase n (r.phase n) = r := by
  have same : r.phases.set (n - 1) (r.phase n) = r.phases := by
    refine List.ext_getElem? fun i => ?_
    by_cases h : n - 1 = i
    · subst h
      by_cases hl : n - 1 < r.phases.length
      · simp [phase, hl]
      · simp [hl]
    · rw [List.getElem?_set_ne h]
  simp only [setPhase, same]

@[simp] theorem setPhase_setPhase (r : Roster) (n : Nat) (p q : Phase) : (r.setPhase n p).setPhase n q = r.setPhase n q := by
  simp [setPhase]

/-! ### The law of R56 on the roster -/

/-- The sizes, and what the law of R56 says of the records and the phases of their ovens. -/
structure Sound (r : Roster) : Prop where
  size : r.phases.length = 96
  low : 8 ≤ r.count
  high : r.count ≤ 96
  one : r.push = none ∨ r.stall = none
  running : r.mode = .config → r.push = none ∧ r.stall = none
  pushed : ∀ n, r.push = some n → r.InRange n ∧ r.phase n = .pushing
  stalled : ∀ n, r.stall = some n → r.InRange n ∧ r.phase n = .stalled

/-- The law of R44 on the roster. -/
structure Listed (r : Roster) : Prop where
  once : (r.outOfTurn ++ r.deferred).Nodup
  listed : ∀ n ∈ r.outOfTurn ++ r.deferred, r.InRange n ∧ (r.phase n).Holds ∧ r.excluded n = false
  config : r.mode = .config → r.outOfTurn = [] ∧ r.deferred = []

/-- The law of R47 on the roster. -/
def Neighbourly (r : Roster) : Prop := ∀ n, r.push = some n → r.Braced n

theorem Holds.ne_of {p q : Phase} (h : p.Holds) (hq : q = .empty ∨ q = .charging ∨ q = .pushing ∨ q = .stalled) : p ≠ q := by
  rcases h with rfl | rfl | rfl <;> rcases hq with rfl | rfl | rfl | rfl <;> decide

theorem Sound.place (h : r.Sound) (range : r.InRange n) : n - 1 < r.phases.length := by
  have := h.size
  have := h.high
  have := range.2
  omega

/-- A write to an oven the records do not name leaves them with their ovens. -/
theorem Sound.setPhase (h : r.Sound) (range : r.InRange n) (free : r.push ≠ some n ∧ r.stall ≠ some n) :
    (r.setPhase n p).Sound where
  size := by simpa [Roster.setPhase] using h.size
  low := h.low
  high := h.high
  one := h.one
  running := h.running
  pushed m hm := by
    obtain ⟨hr, hp⟩ := h.pushed m hm
    have ne : m ≠ n := fun e => free.1 (e ▸ hm)
    exact ⟨hr, by rw [phase_setPhase_ne (by have := hr.1; have := range.1; omega)]; exact hp⟩
  stalled m hm := by
    obtain ⟨hr, hp⟩ := h.stalled m hm
    have ne : m ≠ n := fun e => free.2 (e ▸ hm)
    exact ⟨hr, by rw [phase_setPhase_ne (by have := hr.1; have := range.1; omega)]; exact hp⟩

/-- An oven that is neither PUSHING nor STALLED is named by no record. -/
theorem Sound.unnamed (h : r.Sound) (hp : r.phase n ≠ .pushing) (hs : r.phase n ≠ .stalled) :
    r.push ≠ some n ∧ r.stall ≠ some n :=
  ⟨fun e => hp (h.pushed n e).2, fun e => hs (h.stalled n e).2⟩

theorem Sound.run_of_push (h : r.Sound) (named : r.push = some n) : r.mode = .run := by
  cases mode : r.mode with
  | run => rfl
  | config => simp [(h.running mode).1] at named

/-- The records and sizes are all that `Sound` reads besides the phases. -/
theorem Sound.of_lists (h : r.Sound) (phases : r'.phases = r.phases) (count : r'.count = r.count) (mode : r'.mode = r.mode)
    (push : r'.push = r.push) (stall : r'.stall = r.stall) : r'.Sound := by
  obtain ⟨size, low, high, one, running, pushed, stalled⟩ := h
  refine ⟨by rw [phases, size], by rw [count]; exact low, by rw [count]; exact high, by rw [push, stall]; exact one, ?_, ?_, ?_⟩
  · rw [mode, push, stall]; exact running
  · intro n; simpa only [push, InRange, count, phase, phases] using pushed n
  · intro n; simpa only [stall, InRange, count, phase, phases] using stalled n

theorem Sound.of_no_record (size : r.phases.length = 96) (low : 8 ≤ r.count) (high : r.count ≤ 96)
    (noPush : r.push = none) (noStall : r.stall = none) : r.Sound :=
  ⟨size, low, high, .inl noPush, fun _ => ⟨noPush, noStall⟩, by simp [noPush], by simp [noStall]⟩

/-- A push record or a stall record of an oven 1 to N whose phase becomes the record's. -/
theorem Sound.of_record {push stall : Option Nat} (h : r.Sound) (range : r.InRange n) (run : r.mode = .run)
    (record : (push = some n ∧ stall = none ∧ p = .pushing) ∨ (push = none ∧ stall = some n ∧ p = .stalled))
    (same : r'.phases = r.phases ∧ r'.count = r.count ∧ r'.mode = r.mode ∧ r'.push = push ∧ r'.stall = stall) :
    (r'.setPhase n p).Sound := by
  obtain ⟨phases, count, mode, rfl, rfl⟩ := same
  have place : n - 1 < r'.phases.length := phases ▸ h.place range
  have range' : r'.InRange n := ⟨range.1, count ▸ range.2⟩
  refine ⟨by simpa [Roster.setPhase, phases] using h.size, count ▸ h.low, count ▸ h.high, ?_, ?_, ?_, ?_⟩
  · rcases record with ⟨_, hs, _⟩ | ⟨hp, _, _⟩
    · exact .inr hs
    · exact .inl hp
  · intro config
    cases (mode.trans run).symm.trans config
  · intro m hm
    rcases record with ⟨hp, _, rfl⟩ | ⟨hp, _, _⟩
    · cases hp.symm.trans hm
      exact ⟨range', phase_setPhase_self place⟩
    · cases hp.symm.trans hm
  · intro m hm
    rcases record with ⟨_, hs, _⟩ | ⟨_, hs, rfl⟩
    · cases hs.symm.trans hm
    · cases hs.symm.trans hm
      exact ⟨range', phase_setPhase_self place⟩

/-- Every move keeps the sizes and the law of R56. -/
theorem Step.keeps_sound (step : Step r r') (h : r.Sound) : r'.Sound := by
  cases step with
  | charge range before => exact h.setPhase range (h.unnamed (by simp [before]) (by simp [before]))
  | age range before after =>
    refine h.setPhase range (h.unnamed ?_ ?_) <;> rcases before with before | before | before | before <;> simp [before]
  | load config range after => exact h.setPhase range (by simp [h.running config])
  | pushStart run noPush noStall range ready braced =>
    exact h.of_record range run (.inl ⟨rfl, noStall, rfl⟩) ⟨rfl, rfl, rfl, rfl, rfl⟩
  | pushEnd named after =>
    have noStall : r.stall = none := h.one.resolve_left (by simp [named])
    exact .of_no_record (by simpa [Roster.setPhase] using h.size) h.low h.high rfl noStall
  | pushStall named =>
    have run : r.mode = .run := h.run_of_push named
    exact h.of_record (h.pushed _ named).1 run (.inr ⟨rfl, rfl, rfl⟩) ⟨rfl, rfl, rfl, rfl, rfl⟩
  | stallEnd named after =>
    have noPush : r.push = none := h.one.resolve_right (by simp [named])
    exact .of_no_record (by simpa [Roster.setPhase] using h.size) h.low h.high noPush rfl
  | queue | deferOven | withdraw | exclude => exact h.of_lists rfl rfl rfl rfl rfl
  | resize config low high => exact .of_no_record h.size low high (h.running config).1 (h.running config).2
  | enterRun => exact ⟨h.size, h.low, h.high, h.one, nofun, h.pushed, h.stalled⟩
  | enterConfig noPush noStall => exact .of_no_record h.size h.low h.high noPush noStall
  | reset => exact .of_no_record (by simp [State.roster, State.reset, Config.maxOvens]) (by decide) (by decide) rfl rfl

/-! ### The law of R44 -/

/-- A write to an oven that no list holds, or that leaves it held, keeps the law of R44. -/
theorem Listed.setPhase (l : r.Listed) (place : n - 1 < r.phases.length) (low : 1 ≤ n)
    (ok : p.Holds ∨ n ∉ r.outOfTurn ++ r.deferred) : (r.setPhase n p).Listed where
  once := l.once
  config := l.config
  listed m hm := by
    obtain ⟨hr, hh, he⟩ := l.listed m hm
    refine ⟨hr, ?_, he⟩
    by_cases same : m = n
    · subst same
      rw [phase_setPhase_self place]
      exact ok.resolve_right (fun out => out hm)
    · rwa [phase_setPhase_ne (by have := hr.1; omega)]

/-- The law of R44 reads the lists, the phases, N, the part mode and exclusion. -/
theorem Listed.of_same (l : r.Listed) (push stall : Option Nat) : Listed { r with push := push, stall := stall } :=
  ⟨l.once, l.listed, l.config⟩

theorem Listed.not_mem (l : r.Listed) (hn : ¬ (r.phase n).Holds) : n ∉ r.outOfTurn ++ r.deferred :=
  fun hm => hn (l.listed n hm).2.1

/-- Fewer entries, and the phases, N and exclusion as they were, keep the law of R44. -/
theorem Listed.sublist (l : r.Listed) {a b : List Nat} (first : a.Sublist r.outOfTurn) (second : b.Sublist r.deferred) :
    Listed { r with outOfTurn := a, deferred := b } where
  once := l.once.sublist (first.append second)
  listed m hm := l.listed m ((first.append second).subset hm)
  config hc := by
    obtain ⟨ha, hb⟩ := l.config hc
    exact ⟨List.sublist_nil.mp (ha ▸ first), List.sublist_nil.mp (hb ▸ second)⟩

theorem Listed.empty (ha : r.outOfTurn = []) (hb : r.deferred = []) : r.Listed where
  once := by simp [ha, hb]
  listed := by simp [ha, hb]
  config _ := ⟨ha, hb⟩

theorem not_holds_of {q : Phase} (h : q = .empty ∨ q = .charging ∨ q = .pushing ∨ q = .stalled) : ¬ q.Holds :=
  fun hq => Holds.ne_of hq h rfl

/-- An oven that holds, in 1 to N and not excluded, may stand in the lists. -/
theorem Listed.join (l : r.Listed) {a b : List Nat} (run : r.mode = .run) (range : r.InRange n) (holds : (r.phase n).Holds)
    (included : r.excluded n = false) (once : (a ++ b).Nodup) (from_lists : ∀ m ∈ a ++ b, m = n ∨ m ∈ r.outOfTurn ++ r.deferred) :
    Listed { r with outOfTurn := a, deferred := b } where
  once := once
  listed m hm := by
    rcases from_lists m hm with rfl | hm
    · exact ⟨range, holds, included⟩
    · exact l.listed m hm
  config config := by cases run.symm.trans config

/-- Every move keeps the law of R44. -/
theorem Step.keeps_listed (step : Step r r') (h : r.Sound) (l : r.Listed) : r'.Listed := by
  cases step with
  | charge range before => exact l.setPhase (h.place range) range.1 (.inr (l.not_mem (not_holds_of (.inl before))))
  | age range before after => exact l.setPhase (h.place range) range.1 (.inl after)
  | load config range after => exact l.setPhase (h.place range) range.1 (.inr (by simp [l.config config]))
  | @pushStart n run noPush noStall range ready braced =>
    have less := l.sublist (List.erase_sublist (a := n)) (List.erase_sublist (a := n))
    obtain ⟨nodupA, nodupB, _⟩ := List.nodup_append.mp l.once
    exact (less.of_same _ _).setPhase (h.place range) range.1 (.inr (by simp [nodupA.not_mem_erase, nodupB.not_mem_erase]))
  | pushEnd named after =>
    obtain ⟨range, pushing⟩ := h.pushed _ named
    exact (l.of_same _ _).setPhase (h.place range) range.1 (.inr (l.not_mem (not_holds_of (by simp [pushing]))))
  | pushStall named =>
    obtain ⟨range, pushing⟩ := h.pushed _ named
    exact (l.of_same _ _).setPhase (h.place range) range.1 (.inr (l.not_mem (not_holds_of (by simp [pushing]))))
  | stallEnd named after =>
    obtain ⟨range, stalled⟩ := h.stalled _ named
    exact (l.of_same _ _).setPhase (h.place range) range.1 (.inr (l.not_mem (not_holds_of (by simp [stalled]))))
  | @queue n run range holds included new =>
    have less := l.sublist (.refl _) (List.erase_sublist (a := n))
    obtain ⟨_, nodupB, _⟩ := List.nodup_append.mp l.once
    refine l.join run range holds included ?_ ?_
    · rw [List.append_assoc]
      refine List.perm_middle.nodup_iff.mpr (List.nodup_cons.mpr ⟨?_, less.once⟩)
      simp [new, nodupB.not_mem_erase]
    · intro m hm
      have kept : m ∈ r.deferred.erase n → m ∈ r.deferred := List.mem_of_mem_erase
      simp only [List.mem_append, List.mem_singleton] at hm ⊢
      tauto
  | @deferOven n run range holds included new newDeferred =>
    refine l.join run range holds included ?_ ?_
    · rw [← List.append_assoc]
      exact List.perm_append_singleton n _ |>.nodup_iff.mpr (List.nodup_cons.mpr ⟨by simp [new, newDeferred], l.once⟩)
    · intro m hm
      simp only [List.mem_append, List.mem_singleton] at hm ⊢
      tauto
  | withdraw first second => exact l.sublist first second
  | @exclude g k v noPush noStall =>
    refine ⟨l.once.sublist (List.filter_sublist.append List.filter_sublist), fun m hm => ?_, fun config => ?_⟩
    · have kept : m ∈ (r.outOfTurn ++ r.deferred).filter (fun n => !(r.reframe g k v).excluded n) := by
        rw [List.filter_append]; exact hm
      obtain ⟨hm, included⟩ := List.mem_filter.mp kept
      obtain ⟨range, holds, _⟩ := l.listed m hm
      exact ⟨range, holds, by simpa using included⟩
    · obtain ⟨ha, hb⟩ := l.config config
      simp [Roster.reframe, ha, hb]
  | resize config low high => exact .empty (l.config config).1 (l.config config).2
  | enterRun => exact ⟨l.once, l.listed, nofun⟩
  | enterConfig noPush noStall => exact .empty rfl rfl
  | reset => exact .empty rfl rfl

/-! ### The law of R47 -/

theorem Neighbourly.of_no_push (noPush : r.push = none) : r.Neighbourly := by
  intro n hn
  cases noPush.symm.trans hn

/-- A write that takes no oven out of COKING, SOAKING and READY but the pushed one keeps its neighbours. -/
theorem Braced.setPhase (h : r.Braced n) (place : m - 1 < r.phases.length) (low : 1 ≤ m)
    (ok : m = n ∨ p.Holds ∨ ¬ (r.phase m).Holds) : (r.setPhase m p).Braced n := by
  intro k near hk
  by_cases same : k = m
  · subst same
    rw [phase_setPhase_self place]
    have := h k near hk
    have : k ≠ n := by omega
    tauto
  · rw [phase_setPhase_ne (by have := hk.1; omega)]
    exact h k near hk

/-- Every move keeps the law of R47. -/
theorem Step.keeps_neighbourly (step : Step r r') (h : r.Sound) (l : r.Neighbourly) : r'.Neighbourly := by
  cases step with
  | charge range before =>
    exact fun k hk => (l k hk).setPhase (h.place range) range.1 (.inr (.inr (not_holds_of (.inl before))))
  | age range before after => exact fun k hk => (l k hk).setPhase (h.place range) range.1 (.inr (.inl after))
  | load config range after => exact .of_no_push (h.running config).1
  | pushStart run noPush noStall range ready braced =>
    rintro k ⟨⟩
    exact Braced.setPhase (r := { r with push := _, outOfTurn := _, deferred := _ }) braced (h.place range) range.1 (.inl rfl)
  | pushEnd named after => exact .of_no_push rfl
  | pushStall named => exact .of_no_push rfl
  | stallEnd named after => exact .of_no_push (h.one.resolve_right (by simp [named]))
  | queue | deferOven | withdraw | enterRun => exact l
  | exclude noPush noStall => exact .of_no_push noPush
  | resize config low high => exact .of_no_push (h.running config).1
  | enterConfig noPush noStall => exact .of_no_push noPush
  | reset => exact .of_no_push rfl

/-! ### Several moves -/

/-- What a step of the part does to the roster: moves, one after another. -/
abbrev Reach (r r' : Roster) : Prop := Relation.ReflTransGen Step r r'

/-- A law that every move of a sound roster keeps is kept by any number of them. -/
theorem Reach.keeps {law : Roster → Prop} (each : ∀ {a b : Roster}, Step a b → a.Sound → law a → law b)
    (reach : Reach r r') (h : r.Sound) (l : law r) : law r' := by
  suffices r'.Sound ∧ law r' from this.2
  induction reach with
  | refl => exact ⟨h, l⟩
  | tail _ step ih => exact ⟨step.keeps_sound ih.1, each step ih.1 ih.2⟩

end Roster

/-! ### The laws of the state are laws of its roster -/

theorem State.oven_phase (s : State) (n : Nat) : (s.oven n).phase = s.roster.phase n := by
  simp only [Roster.phase, State.roster, State.oven]
  exact (List.getD_map (f := Oven.phase) (l := s.ovens) (d := Oven.reset) (n := n - 1)).symm

theorem State.roster_inRange (s : State) (n : Nat) : s.inRange n = true ↔ s.roster.InRange n := decide_eq_true_iff

theorem State.roster_excluded (s : State) (n : Nat) : s.excluded n = s.roster.excluded n := rfl

theorem State.roster_holds (s : State) (n : Nat) : (s.oven n).Holds ↔ (s.roster.phase n).Holds := by
  rw [← s.oven_phase]; rfl

theorem roster_sound {s : State} (shape : ShapeLaw s) (push : PushLaw s) : s.roster.Sound where
  size := by simpa [State.roster, Config.maxOvens] using shape.ovens
  low := shape.countLow
  high := shape.countHigh
  one := by simpa [State.roster] using push.one
  running config := by
    have stopped : s.bk.mode = .config := config
    by_contra present
    have run := push.running (by simpa [State.roster, imp_iff_not_or] using present)
    cases run.symm.trans stopped
  pushed n hn := by
    obtain ⟨x, hx, rfl⟩ := Option.map_eq_some_iff.mp hn
    rw [← s.roster_inRange, ← s.oven_phase]
    exact push.pushed x hx
  stalled n hn := by
    obtain ⟨x, hx, rfl⟩ := Option.map_eq_some_iff.mp hn
    rw [← s.roster_inRange, ← s.oven_phase]
    exact push.stalled x hx

theorem listLaw_iff (s : State) : ListLaw s ↔ s.roster.Listed := by
  constructor
  · rintro ⟨once, listed, config⟩
    exact ⟨once, fun n hn => by
      simpa only [s.roster_inRange, s.roster_holds, s.roster_excluded] using listed n hn, config⟩
  · rintro ⟨once, listed, config⟩
    exact ⟨once, fun n hn => by
      simpa only [s.roster_inRange, s.roster_holds, s.roster_excluded] using listed n hn, config⟩

theorem neighbourLaw_iff (s : State) : NeighbourLaw s ↔ s.roster.Neighbourly := by
  have same : NeighbourLaw s ↔ ∀ x, s.pu.push = some x → s.roster.Braced x.oven := by
    simp only [NeighbourLaw, Roster.Braced, s.roster_inRange, s.roster_holds, s.roster_excluded]
  rw [same]
  simp [Roster.Neighbourly, State.roster]

end Sys2Proof.Machine

/-!
SUPPORT. What the shared operations leave of the roster, and the moves they make.
-/

namespace Sys2Proof.Machine

/-! ### Updates that leave the roster -/

section
variable (s : State)

@[simp] theorem State.roster_withCc (x : CokingClock) : (s.withCc x).roster = s.roster := rfl
@[simp] theorem State.roster_withDu (x : DoorLimits) : (s.withDu x).roster = s.roster := rfl
@[simp] theorem State.roster_withPr (x : PressureUnit) : (s.withPr x).roster = s.roster := rfl
@[simp] theorem State.roster_withQu (x : QuenchUnit) : (s.withQu x).roster = s.roster := rfl
@[simp] theorem State.roster_withFl (x : FieldLink) : (s.withFl x).roster = s.roster := rfl
@[simp] theorem State.roster_withSl (x : SupLink) : (s.withSl x).roster = s.roster := rfl
@[simp] theorem State.roster_withPins (x : Pins) : (s.withPins x).roster = s.roster := rfl
@[simp] theorem State.roster_withDue (x : List Instr) : (s.withDue x).roster = s.roster := rfl
@[simp] theorem State.roster_withPending (x : List Instr) : (s.withPending x).roster = s.roster := rfl
@[simp] theorem State.roster_setCar (c : Car) (r : CarRecord) : (s.setCar c r).roster = s.roster := rfl
@[simp] theorem State.roster_withMain (m : MainRecord) : (s.withMain m).roster = s.roster := rfl
@[simp] theorem State.roster_setFloor (on : Bool) : (s.setFloor on).roster = s.roster := rfl
@[simp] theorem State.roster_raise (b : NoticeBody) : (s.raise b).roster = s.roster := rfl
@[simp] theorem State.roster_raiseAll (bs : List NoticeBody) : (s.raiseAll bs).roster = s.roster := rfl
@[simp] theorem State.roster_bring (cs : List Instr) : (s.bring cs).roster = s.roster := rfl
@[simp] theorem State.roster_bringOwed (cs : List Instr) : (s.bringOwed cs).roster = s.roster := rfl
@[simp] theorem State.roster_issueAll (cs : List Outgoing) : (s.issueAll cs).roster = s.roster := rfl
@[simp] theorem State.roster_issue (x : Node) (c : FieldCommand) : (s.issue x c).roster = s.roster := rfl

theorem State.roster_withPu {x : PushUnit} (push : x.push.map PushRecord.oven = s.roster.push)
    (stall : x.stall.map StallRecord.oven = s.roster.stall) : (s.withPu x).roster = s.roster := by
  simp only [State.roster, State.withPu] at push stall ⊢
  rw [push, stall]

/-- A push record for the oven of the one that stands there. -/
theorem State.roster_setPush {r : PushRecord} (named : s.roster.push = some r.oven) :
    (s.setPush (some r)).roster = s.roster :=
  s.roster_withPu named.symm rfl

@[simp] theorem State.roster_setPush_none : (s.setPush none).roster = { s.roster with push := none } := rfl

theorem State.roster_push_of_some {r : PushRecord} (present : s.pu.push = some r) : s.roster.push = some r.oven := by
  simp [State.roster, present]

@[simp] theorem State.roster_withBk (x : BatteryClock) : (s.withBk x).roster = { s.roster with mode := x.mode } := rfl

@[simp] theorem State.roster_setOven (n : Nat) (o : Oven) : (s.setOven n o).roster = s.roster.setPhase n o.phase := by
  simp [State.roster, State.setOven, Roster.setPhase, List.map_set]

@[simp] theorem State.roster_setPhase (n : Nat) (p : Phase) : (s.setPhase n p).roster = s.roster.setPhase n p :=
  s.roster_setOven n _

/-- A record written with its phase as it stood. -/
theorem State.roster_setOven_same {n : Nat} {o : Oven} (h : o.phase = (s.oven n).phase) :
    (s.setOven n o).roster = s.roster := by
  rw [s.roster_setOven, h, s.oven_phase, Roster.setPhase_self]

theorem State.roster_withOvens_same {x : List Oven} (h : x.map Oven.phase = s.ovens.map Oven.phase) :
    (s.withOvens x).roster = s.roster := by
  simp only [State.roster, State.withOvens, h]

/-! ### Valves and cars -/

@[simp] theorem State.roster_applyValve (n : Nat) (r : Valve × List Outgoing) : (s.applyValve n r).roster = s.roster :=
  s.roster_setOven_same rfl
@[simp] theorem State.roster_evalValve (n : Nat) : (s.evalValve n).roster = s.roster := s.roster_applyValve n _
@[simp] theorem State.roster_evalSilent (n : Nat) : (s.evalSilent n).roster = s.roster := s.roster_applyValve n _
@[simp] theorem State.roster_evalSample (n : Nat) : (s.evalSample n).roster = s.roster := s.roster_applyValve n _

/-- A fold of operations that each leave the roster leaves it. -/
theorem roster_foldl {α : Type} {f : State → α → State} (each : ∀ s a, (f s a).roster = s.roster) (l : List α) :
    ∀ s, (l.foldl f s).roster = s.roster := by
  induction l with
  | nil => intro s; rfl
  | cons a l ih => intro s; rw [List.foldl_cons, ih, each]

@[simp] theorem State.roster_evalValves (ns : List Nat) : (s.evalValves ns).roster = s.roster :=
  roster_foldl State.roster_evalValve ns s

@[simp] theorem State.roster_turnMain (m : ValveMode) : (s.turnMain m).roster = s.roster := by
  unfold State.turnMain State.sendMainManual
  split
  · rfl
  · split <;> simp
@[simp] theorem State.roster_evalMain : s.evalMain.roster = s.roster := s.roster_turnMain _

@[simp] theorem State.roster_moveCar (c : Car) (l : Location) (r : CarRecord) : (s.moveCar c l r).roster = s.roster := by
  unfold State.moveCar
  split <;> simp
@[simp] theorem State.roster_claimCar (c : Car) (n : Nat) : (s.claimCar c n).roster = s.roster := s.roster_moveCar _ _ _
@[simp] theorem State.roster_releaseCar (c : Car) : (s.releaseCar c).roster = s.roster := rfl
@[simp] theorem State.roster_grantTower (c : Car) : (s.grantTower c).roster = s.roster := by
  simp [State.grantTower]
@[simp] theorem State.roster_dispatchCar (c : Car) : (s.dispatchCar c).roster = s.roster := by
  unfold State.dispatchCar
  split <;> simp
@[simp] theorem State.roster_releaseTower : s.releaseTower.roster = s.roster := by
  unfold State.releaseTower
  split <;> simp
@[simp] theorem State.roster_reserveBay (b : Nat) (c : Car) : (s.reserveBay b c).roster = s.roster := by
  simp [State.reserveBay]
@[simp] theorem State.roster_freeBay (b : Nat) : (s.freeBay b).roster = s.roster := by
  unfold State.freeBay
  split <;> simp

theorem ScheduleUnit.turnTo_lists (u : ScheduleUnit) (m : ScheduleMode) :
    (s.withSu (u.turnTo m)).roster = (s.withSu u).roster := by
  unfold ScheduleUnit.turnTo
  split <;> rfl

@[simp] theorem State.roster_pauseSchedule (a b : Nat) : (s.pauseSchedule a b).roster = s.roster := by
  unfold State.pauseSchedule
  split
  · rw [State.roster_raise, ScheduleUnit.turnTo_lists]; rfl
  · rfl

end

/-! ### Push start and candidate evaluation -/

open Roster (Reach Step)

theorem State.reach_of_same {s t : State} (h : t.roster = s.roster) : Reach s.roster t.roster := h ▸ .refl

/-- The neighbour rule as the model computes it is R47's. -/
theorem State.failing_eq_nil_iff (s : State) {n : Nat} (low : 1 ≤ n) : s.failing n = [] ↔ s.roster.Braced n := by
  have near : ∀ m, m ∈ [n - 1, n + 1] ↔ m + 1 = n ∨ m = n + 1 := by
    intro m
    simp only [List.mem_cons, List.not_mem_nil, or_false]
    omega
  have braces : ∀ m, s.braces m = true ↔ (s.roster.phase m).Holds ∨ s.roster.excluded m = true := by
    intro m
    simp [State.braces, ← s.roster_holds, ← s.roster_excluded]
  simp only [State.failing, State.neighbours, List.filter_eq_nil_iff, List.mem_filter, near, s.roster_inRange,
    Bool.not_eq_true', Bool.not_eq_false, braces]
  exact ⟨fun h m hm hr => h m ⟨hm, hr⟩, fun h m hm => h m hm.1 hm.2⟩

theorem State.pushable_iff (s : State) (n : Nat) :
    s.pushable n = true ↔ s.roster.InRange n ∧ s.roster.phase n = .ready ∧ s.roster.Braced n := by
  simp only [State.pushable, State.braced, Bool.and_eq_true, beq_iff_eq, List.isEmpty_iff, s.roster_inRange, s.oven_phase,
    and_assoc]
  exact and_congr_right fun range => and_congr_right fun _ => s.failing_eq_nil_iff range.1

theorem State.roster_trimSchedule (s : State) (n : Nat) (o : Origin) : (s.trimSchedule n o).roster =
    { s.roster with outOfTurn := s.roster.outOfTurn.erase n, deferred := s.roster.deferred.erase n } := rfl

/-- A push start as one move: its oven passes the neighbour rule, and no record is present (R47, R59). -/
theorem State.reach_startPush {s : State} {n : Nat} (o : Origin) (c : Car) (run : s.bk.mode = .run)
    (noPush : s.pu.push = none) (noStall : s.pu.stall = none) (pushable : s.pushable n = true) :
    Reach s.roster (s.startPush n o c).roster := by
  obtain ⟨range, ready, braced⟩ := (s.pushable_iff n).mp pushable
  have moved : (s.startPush n o c).roster = Roster.setPhase { s.roster with
      push := some n, outOfTurn := s.roster.outOfTurn.erase n, deferred := s.roster.deferred.erase n } n .pushing := by
    simp only [State.startPush, State.roster_raise, State.roster_issueAll, State.roster_claimCar, State.roster_trimSchedule,
      State.roster_evalValve, State.roster_setOven]
    rfl
  rw [moved]
  exact .single (.pushStart run (by simp [State.roster, noPush]) (by simp [State.roster, noStall]) range ready braced)

theorem State.mayEvaluate_iff (s : State) : s.mayEvaluate = true ↔ s.bk.mode = .run ∧ s.su.mode = .auto ∧
    s.su.slotFlag = true ∧ s.pu.push = none ∧ s.pu.stall = none ∧ s.pins.estop = false := by
  simp [State.mayEvaluate, State.running, and_assoc]

theorem State.reach_tryPush {s : State} {n : Nat} (o : Origin) (may : s.mayEvaluate = true) (pushable : s.pushable n = true) :
    Reach s.roster (s.tryPush n o).roster := by
  obtain ⟨run, _, _, noPush, noStall, _⟩ := s.mayEvaluate_iff.mp may
  unfold State.tryPush
  split
  · exact State.reach_startPush o _ run noPush noStall pushable
  · exact .refl

/-- The cursor passes over an oven 1 to N that holds and is not excluded. -/
theorem State.reach_passOver {s : State} {n : Nat} (may : s.mayEvaluate = true) (range : s.inRange n = true)
    (included : s.excluded n = false) (holds : (s.oven n).Holds) : Reach s.roster (s.passOver n).roster := by
  unfold State.passOver
  split
  · exact .refl
  · next new =>
    split
    · exact .single (.deferOven (s.mayEvaluate_iff.mp may).1 ((s.roster_inRange n).mp range) ((s.roster_holds n).mp holds)
        included (fun h => new (.inl h)) (fun h => new (.inr h)))
    · exact .refl

theorem State.reach_judgeCursor {s : State} (n : Nat) (may : s.mayEvaluate = true) :
    Reach s.roster (s.judgeCursor n).roster := by
  unfold State.judgeCursor
  split
  · exact .refl
  · next here =>
    have range : s.inRange n = true := by by_contra h; simp [h] at here
    have included : s.excluded n = false := by by_contra h; simp [h] at here
    split
    · next pushable => exact State.reach_tryPush .series may pushable
    · split
      case h_1 | h_2 | h_6 | h_7 => exact .refl
      case h_3 phase => exact State.reach_passOver may range included (.inl phase)
      case h_4 phase => exact State.reach_passOver may range included (.inr (.inl phase))
      case h_5 phase => exact State.reach_passOver may range included (.inr (.inr phase))

/-- Candidate evaluation moves the roster at most by a push start or a deferral (R48 to R51). -/
theorem State.reach_evaluate (s : State) : Reach s.roster s.evaluate.roster := by
  unfold State.evaluate
  split
  · next may =>
    split
    · next n head => exact State.reach_tryPush .outOfTurn may (Option.filter_eq_some_iff.mp head).2
    · split
      · next n deferred => exact State.reach_tryPush .deferred may (List.find?_some deferred)
      · exact State.reach_judgeCursor (s := s.withSu { s.su with cursor := s.skipExcluded s.ovenCount s.su.cursor }) _ may
  · exact .refl

theorem State.reach_evaluate_of {s t : State} (same : t.roster = s.roster) : Reach s.roster t.evaluate.roster :=
  same ▸ t.reach_evaluate

/-! ### The ends of a push -/

section
variable {s : State} {r : PushRecord}

/-- A push's end, its oven's phase written before: one move, then candidate evaluation. -/
theorem State.reach_endPush {t : State} {n : Nat} {p : Phase} (silent : Bool) (named : s.roster.push = some n)
    (after : p = .empty ∨ p = .ready) (written : t.roster = s.roster.setPhase n p) :
    Reach s.roster (t.endPush n silent).roster := by
  have ended : Reach s.roster ((t.setPush none).evalValve n).roster := by
    rw [State.roster_evalValve, State.roster_setPush_none, written]
    exact .single (.pushEnd named after)
  cases silent with
  | true => exact ended
  | false => exact ended.trans (State.reach_evaluate _)

theorem State.reach_completePush (silent : Bool) (named : s.roster.push = some r.oven) :
    Reach s.roster (s.completePush r silent).roster :=
  State.reach_endPush silent named (.inl rfl) (by simp)

theorem State.reach_returnReady (x : Stage) (cause : AbortCause) (silent : Bool) (named : s.roster.push = some r.oven) :
    Reach s.roster (s.returnReady r x cause silent).roster :=
  State.reach_endPush silent named (.inr rfl) (by simp)

@[simp] theorem State.roster_releaseClaimed (s : State) (r : PushRecord) : (s.releaseClaimed r).roster = s.roster := by
  unfold State.releaseClaimed
  split <;> rfl

theorem State.reach_undoPush (cause : AbortCause) (named : s.roster.push = some r.oven) :
    Reach s.roster (s.undoPush r cause).roster := by
  have reach := State.reach_returnReady (s := (s.issueAll (toBoth .halt ++ [toOven r.oven (.cap r.oven false)])).releaseClaimed r)
    r.stage cause cause.bySilence (by simpa using named)
  simpa [State.undoPush] using reach

theorem State.roster_enterRetreat (cause : AbortCause) (named : s.roster.push = some r.oven) :
    (s.enterRetreat r cause).roster = s.roster :=
  State.roster_setPush _ (r := State.inStage _ _ _) named

theorem State.reach_makeStall (cause : AbortCause) (first : Option AbortCause) (named : s.roster.push = some r.oven) :
    Reach s.roster (s.makeStall r cause first).roster := by
  simp only [State.makeStall, State.roster_pauseSchedule, State.roster_raise, State.roster_evalValve, State.roster_setPhase]
  exact .single (.pushStall named)

theorem State.reach_abortDoorsOn (cause : AbortCause) (named : s.roster.push = some r.oven) :
    Reach s.roster (s.abortDoorsOn r cause).roster :=
  State.reach_completePush (s := s.issueAll _) (r := { r with doorFault := true }) cause.bySilence named

theorem State.reach_abortRetreat (cause : AbortCause) (named : s.roster.push = some r.oven) :
    Reach s.roster (s.abortRetreat r cause).roster := by
  unfold State.abortRetreat
  split
  · exact State.reach_of_same (State.roster_setPush s (r := { r with claimed := false }) named)
  · exact State.reach_makeStall (s := s.issueAll _) _ _ named
  · exact State.reach_makeStall _ _ named

/-- An abort, whatever its cause and stage, moves the roster by the push's end or its stall (R70 to R75, R79). -/
theorem State.reach_abortPush (s : State) (cause : AbortCause) : Reach s.roster (s.abortPush cause).roster := by
  unfold State.abortPush
  split
  · exact .refl
  · next r present =>
    have named := s.roster_push_of_some present
    split
    · exact State.reach_undoPush cause named
    · exact State.reach_undoPush cause named
    · split
      · exact State.reach_makeStall (s := s.issueAll _) _ _ named
      · exact State.reach_of_same (State.roster_enterRetreat cause named)
    · exact State.reach_makeStall (s := s.issueAll _) _ _ named
    · exact State.reach_abortDoorsOn cause named
    · exact State.reach_abortRetreat cause named

theorem State.reach_completeRetreat (named : s.roster.push = some r.oven) :
    Reach s.roster (s.completeRetreat r).roster := by
  have reach := State.reach_returnReady (s := (s.issueAll [toOven r.oven (.cap r.oven false)]).releaseClaimed r) .doorsOff
    (r.abortCause.getD .timeout) false (by simpa using named)
  simpa [State.completeRetreat] using reach

/-! ### The stages of a push -/

theorem State.roster_enterIsolate (named : s.roster.push = some r.oven) : (s.enterIsolate r).roster = s.roster := by
  simp only [State.enterIsolate, State.roster_issueAll, State.roster_evalValve]
  exact State.roster_setPush s (r := s.inStage r .isolate) named

@[simp] theorem State.roster_judgeSpot (s : State) : s.judgeSpot.roster = s.roster := by
  unfold State.judgeSpot
  split
  · next r present =>
    split
    · exact State.roster_enterIsolate (s.roster_push_of_some present)
    · rfl
  · rfl

theorem State.roster_completeDoorsOff (named : s.roster.push = some r.oven) : (s.completeDoorsOff r).roster = s.roster := by
  unfold State.completeDoorsOff
  split
  · exact State.roster_setPush _ (r := State.inStage _ _ _) named
  · exact State.roster_enterRetreat .recheck named

@[simp] theorem State.roster_judgeStroke (s : State) (r : PushRecord) : (s.judgeStroke r).roster = s.roster := by
  unfold State.judgeStroke
  split
  · exact s.roster_setOven_same rfl
  · rfl

theorem State.roster_handOver (named : s.roster.push = some r.oven) : (s.handOver r).roster = s.roster := by
  unfold State.handOver
  split
  · rw [State.roster_dispatchCar]
    exact State.roster_setPush s (r := { r with claimed := false }) named
  · exact State.roster_setPush s (r := { r with claimed := false, emptyCar := true }) named

theorem State.roster_completeRam (named : s.roster.push = some r.oven) : (s.completeRam r).roster = s.roster := by
  have handed : ((s.judgeStroke r).handOver r).roster = s.roster := by
    rw [State.roster_handOver (by simpa using named), State.roster_judgeStroke]
  unfold State.completeRam
  dsimp only
  split
  · next r1 present =>
    rw [State.roster_issueAll, State.roster_setPush _ (r := State.inStage _ _ _) (State.roster_push_of_some (r := r1) _ present), handed]
  · exact handed

end
end Sys2Proof.Machine

/-!
SUPPORT. What each request and each event does to the roster, and so each step.
-/

namespace Sys2Proof.Machine

open Roster (Reach Step)

/-! ### The oven table (chapter 1) -/

theorem State.reach_charge {s : State} {n : Nat} (range : s.inRange n = true) (empty : (s.oven n).phase = .empty)
    {t : State} (written : t.roster = s.roster.setPhase n .charging) : Reach s.roster t.roster :=
  written ▸ .single (.charge ((s.roster_inRange n).mp range) ((s.oven_phase n).symm.trans empty))

theorem State.chargeRefusal_none {s : State} {n : Nat} (h : s.chargeRefusal n = none) :
    s.inRange n = true ∧ (s.oven n).phase = .empty := by
  unfold State.chargeRefusal at h
  split_ifs at h
  simp_all

theorem reach_chargeBegin (oven : Byte) (s : State) : Reach s.roster (chargeBegin oven s).state.roster := by
  cases h : s.chargeRefusal oven.toNat with
  | some x => rw [chargeBegin_of_some h]; exact .refl
  | none =>
    obtain ⟨range, empty⟩ := State.chargeRefusal_none h
    rw [chargeBegin_of_none h]
    exact State.reach_charge range empty (by simp [State.reply, State.charged, Oven.beginCharge])

theorem reach_chargeEnd (oven : Byte) (s : State) : Reach s.roster (chargeEnd oven s).state.roster := by
  unfold chargeEnd
  dsimp only
  split_ifs with stopped out phase
  · exact .refl
  · exact .refl
  · exact .refl
  · simp only [ne_eq, not_not, s.oven_phase] at phase
    have range : s.roster.InRange oven.toNat := (s.roster_inRange _).mp (by simpa using out)
    simp only [State.reply, State.roster_evalValve, State.roster_setOven]
    exact .single (.age range (.inl phase) (.inl rfl))

@[simp] theorem roster_chargeTimerExpiry (n : Nat) (s : State) : (chargeTimerExpiry n s).roster = s.roster := by
  unfold chargeTimerExpiry
  dsimp only
  split_ifs
  · exact s.roster_setOven_same rfl
  · exact s.roster_setOven_same rfl
  · rfl

theorem roster_setHeat (x : Byte) (v : Half) (s : State) : (setHeat x v s).state.roster = s.roster := by
  unfold setHeat
  split <;> rfl

theorem roster_selectHeat (x : Byte) (s : State) : (selectHeat x s).state.roster = s.roster := by
  unfold selectHeat
  split <;> rfl

theorem roster_setTrim (n : Byte) (t : Half) (i o : Byte) (s : State) : (setTrim n t i o s).state.roster = s.roster := by
  unfold setTrim
  dsimp only
  split_ifs
  · rfl
  · rfl
  · exact s.roster_setOven_same rfl

theorem roster_setPlan (n x : Byte) (s : State) : (setPlan n x s).state.roster = s.roster := by
  unfold setPlan
  dsimp only
  split_ifs
  · rfl
  · exact s.roster_setOven_same rfl

theorem roster_queryOven (n : Byte) (s : State) : (queryOven n s).state.roster = s.roster := by
  unfold queryOven
  dsimp only
  split_ifs <;> rfl

/-- At a coke minute an oven keeps its phase, or stays among COKING, SOAKING and READY (R19, R20). -/
theorem Oven.cokeStep_phase (o : Oven) (heat : Nat) :
    (o.cokeStep heat).phase = o.phase ∨ (o.phase.Holds ∧ (o.cokeStep heat).phase.Holds) := by
  cases h : o.phase with
  | coking =>
    simp only [Oven.cokeStep, h, Oven.addStep]
    split_ifs
    · exact .inr ⟨.inl rfl, .inr (.inl rfl)⟩
    · exact .inl rfl
  | soaking =>
    simp only [Oven.cokeStep, h, Oven.soakStep]
    split_ifs
    · exact .inr ⟨.inr (.inl rfl), .inr (.inr rfl)⟩
    · exact .inl rfl
  | empty | charging | ready | pushing | stalled => simp [Oven.cokeStep, h]

@[simp] theorem State.roster_expireOven (s : State) (n : Nat) :
    (s.expireOven n).roster = s.roster.setPhase n ((s.oven n).cokeStep s.cc.heat).phase := by
  simp only [State.expireOven]
  split <;> simp

theorem State.reach_expireOven {s : State} {n : Nat} (range : s.roster.InRange n) :
    Reach s.roster (s.expireOven n).roster := by
  rw [State.roster_expireOven]
  rcases (s.oven n).cokeStep_phase s.cc.heat with same | ⟨before, after⟩
  · rw [same, s.oven_phase, Roster.setPhase_self]
  · exact .single (.age range (.inr (s.oven_phase n ▸ before)) after)

theorem State.mem_ovenNumbers (s : State) (n : Nat) : n ∈ s.ovenNumbers ↔ s.roster.InRange n := by
  simp only [State.ovenNumbers, List.mem_map, List.mem_range, Roster.InRange, State.roster]
  constructor
  · rintro ⟨i, hi, rfl⟩; omega
  · intro h; exact ⟨n - 1, by omega, by omega⟩

theorem State.reach_expireOvens (ns : List Nat) : ∀ s : State, (∀ n ∈ ns, s.roster.InRange n) →
    Reach s.roster (ns.foldl State.expireOven s).roster := by
  induction ns with
  | nil => intro s _; exact .refl
  | cons n ns ih =>
    intro s range
    have first := State.reach_expireOven (range n (by simp))
    refine first.trans (ih (s.expireOven n) fun m hm => ?_)
    rw [State.roster_expireOven]
    exact range m (by simp [hm])

/-- The minute count has advanced and one untaken coke minute is taken; the ovens are still to come (R16, R207). -/
def State.beginMinute (s : State) : State :=
  (s.withCc { s.cc with minutesDue := s.cc.minutesDue - 1 }).withBk { s.bk with minutes := s.bk.minutes + 1 }

theorem State.stepMinute_eq (s : State) : s.stepMinute = s.ovenNumbers.foldl State.expireOven s.beginMinute := rfl

theorem State.reach_stepMinute (s : State) : Reach s.roster s.stepMinute.roster :=
  s.stepMinute_eq ▸ State.reach_expireOvens _ s.beginMinute fun n hn => (s.mem_ovenNumbers n).mp hn

theorem reach_cokeMinuteExpiry (s : State) : Reach s.roster (cokeMinuteExpiry s).roster := by
  unfold cokeMinuteExpiry
  split
  · exact s.reach_stepMinute.trans (State.reach_evaluate _)
  · exact .refl

/-! ### The schedule unit (chapter 2) -/

theorem roster_setSeries (k j n : Byte) (s : State) : (setSeries k j n s).state.roster = s.roster := by
  unfold setSeries
  split_ifs <;> rfl

theorem reach_slotCarry (s : State) : Reach s.roster (slotCarry s).roster := by
  unfold slotCarry
  dsimp only
  split_ifs
  · exact .refl
  · exact State.reach_evaluate_of rfl
  · exact .refl

theorem roster_setScheduleMode (mode : Byte) (s : State) : (setScheduleMode mode s).state.roster = s.roster := by
  unfold setScheduleMode
  split
  · rfl
  · split
    · rfl
    · exact ScheduleUnit.turnTo_lists s s.su _

@[simp] theorem roster_silenceAtSu (x : Node) (s : State) : (silenceAtSu x s).roster = s.roster := by
  unfold silenceAtSu
  split <;> simp

theorem State.queueRefusal_none {s : State} {n : Nat} (h : s.queueRefusal n = none) : s.bk.mode = .run ∧
    s.inRange n = true ∧ s.excluded n = false ∧ (s.oven n).Holds ∧ n ∉ s.su.outOfTurn := by
  unfold State.queueRefusal at h
  split_ifs at h with run range excluded phase dup
  refine ⟨by simpa [State.running] using run, by simpa using range, by simpa using excluded, ?_, dup⟩
  unfold Oven.Holds
  tauto

theorem reach_queueOutOfTurn (oven : Byte) (s : State) : Reach s.roster (queueOutOfTurn oven s).state.roster := by
  unfold queueOutOfTurn
  dsimp only
  split
  · exact .refl
  · next passes =>
    obtain ⟨run, range, included, holds, new⟩ := State.queueRefusal_none passes
    exact .single (.queue run ((s.roster_inRange _).mp range) ((s.roster_holds _).mp holds) included new)

theorem reach_withdraw (oven : Byte) (s : State) : Reach s.roster (withdraw oven s).state.roster := by
  unfold withdraw
  dsimp only
  split_ifs
  · exact .refl
  · exact .single (.withdraw List.erase_sublist (.refl _))
  · exact .single (.withdraw (.refl _) List.erase_sublist)
  · exact .refl

theorem State.pushing_eq_false {s : State} (h : ¬ s.pushing = true) : s.roster.push = none ∧ s.roster.stall = none := by
  simpa [State.pushing, State.roster] using h

theorem reach_setExclusionFrame (g start : Byte) (s : State) : Reach s.roster (setExclusionFrame g start s).state.roster := by
  unfold setExclusionFrame
  split_ifs with code range busy
  · exact .refl
  · exact .refl
  · exact .refl
  · obtain ⟨noPush, noStall⟩ := State.pushing_eq_false busy
    exact .single (.exclude noPush noStall)

theorem reach_writeExclusionWord (i : Byte) (w : Half) (s : State) :
    Reach s.roster (writeExclusionWord i w s).state.roster := by
  unfold writeExclusionWord
  split_ifs with code busy
  · exact .refl
  · exact .refl
  · obtain ⟨noPush, noStall⟩ := State.pushing_eq_false busy
    exact .single (.exclude noPush noStall)

/-! ### The push unit (chapter 3) -/

theorem State.pushRefusal_none {s : State} {n : Nat} (h : s.pushRefusal n = none) :
    s.bk.mode = .run ∧ s.pu.push = none ∧ s.pu.stall = none ∧ s.pushable n = true := by
  unfold State.pushRefusal at h
  split_ifs at h with mode range busy estop phase
  simp only [Bool.not_eq_true', Bool.and_eq_false_iff, not_or, Bool.not_eq_false] at mode
  have range : s.inRange n = true := by simpa using range
  have records : s.pu.push = none ∧ s.pu.stall = none := by simpa [State.pushing] using busy
  have failing : s.failing n = [] := by
    split at h
    · cases h
    · next nil => exact nil
  refine ⟨by simpa [State.running] using mode.1, records.1, records.2, ?_⟩
  simpa [State.pushable, range, State.braced, failing] using phase

theorem reach_pushNow (oven : Byte) (s : State) : Reach s.roster (pushNow oven s).state.roster := by
  unfold pushNow
  dsimp only
  split
  · exact .refl
  · next passes =>
    obtain ⟨run, noPush, noStall, pushable⟩ := State.pushRefusal_none passes
    split
    · exact .refl
    · exact State.reach_startPush .manual _ run noPush noStall pushable

theorem reach_abortPush (number : Half) (s : State) : Reach s.roster (abortPush number s).state.roster := by
  unfold abortPush
  split_ifs
  · exact .refl
  · split
    · exact .refl
    · split_ifs
      · exact .refl
      · exact .refl
      · exact s.reach_abortPush .host

@[simp] theorem State.roster_releaseStalled (s : State) (r : StallRecord) : (s.releaseStalled r).roster = s.roster := by
  unfold State.releaseStalled
  split_ifs <;> simp

theorem State.reach_clearStall {s : State} {r : StallRecord} (pushed : Bool) (present : s.pu.stall = some r) :
    Reach s.roster (s.clearStall r pushed).roster := by
  have named : s.roster.stall = some r.oven := by simp [State.roster, present]
  have phase : ((s.oven r.oven).unstall pushed r.number).phase = if pushed then .empty else .ready := by
    cases pushed <;> rfl
  have moved : (s.clearStall r pushed).roster =
      Roster.setPhase { s.roster with stall := none } r.oven (if pushed then .empty else .ready) := by
    have written : ((((s.setOven r.oven ((s.oven r.oven).unstall pushed r.number)).issueAll
        [toOven r.oven (.cap r.oven false)])).releaseStalled r).roster =
        s.roster.setPhase r.oven (if pushed then .empty else .ready) := by simp [phase]
    simp only [State.clearStall, State.roster_evalValve, State.roster_raise]
    exact congrArg (fun x : Roster => { x with stall := none }) written
  rw [moved]
  exact .single (.stallEnd named (by cases pushed <;> simp))

theorem reach_clearStall (result : Byte) (s : State) : Reach s.roster (clearStall result s).state.roster := by
  unfold clearStall
  split
  · exact .refl
  · split
    · exact .refl
    · split
      · exact .refl
      · next r present => exact State.reach_clearStall _ present

theorem roster_setPushLimits (a b c d e f : Half) (s : State) : (setPushLimits a b c d e f s).state.roster = s.roster := rfl

theorem State.roster_judgeRam {s : State} {r : PushRecord} (named : s.roster.push = some r.oven) :
    (s.judgeRam r).roster = s.roster := by
  have stroke : (s.setPush (some (r.stroke s.pu.pusher))).roster = s.roster := s.roster_setPush named
  unfold State.judgeRam
  dsimp only
  split_ifs
  · rw [State.roster_completeRam (by rw [stroke]; exact named), stroke]
  · exact stroke

@[simp] theorem roster_pusherReport (x : PusherReport) (s : State) : (pusherReport x s).roster = s.roster := by
  unfold pusherReport
  dsimp only
  have view : (s.withPu { s.pu with pusher := .of x }).roster = s.roster := rfl
  split
  · exact view
  · next r present =>
    split
    · rw [State.roster_judgeSpot, view]
    · rw [State.roster_judgeRam (State.roster_push_of_some _ present), view]
    all_goals exact view

@[simp] theorem State.roster_sendLatch (s : State) : s.sendLatch.roster = s.roster := by
  unfold State.sendLatch
  split
  · rfl
  · next r present =>
    split_ifs
    · exact State.roster_setPush (s.issueAll _) (r := { r with latchSent := true }) (s.roster_push_of_some (r := r) present)
    · rfl

@[simp] theorem roster_guideReport (x : GuideReport) (s : State) : (guideReport x s).roster = s.roster := by
  simp only [guideReport, State.roster_judgeSpot, State.roster_sendLatch]
  rfl

theorem State.reach_confirm {s : State} {r : PushRecord} (e : OvenEntry) (named : s.roster.push = some r.oven) :
    Reach s.roster (s.confirm r e).roster := by
  unfold State.confirm
  split
  · exact .refl
  · split_ifs
    · exact State.reach_of_same (State.roster_setPush (s.issueAll _) (r := State.inStage _ _ _) named)
    · exact .refl
  · split_ifs
    · exact State.reach_of_same (State.roster_completeDoorsOff named)
    · exact .refl
  · exact .refl
  · split_ifs
    · exact State.reach_completePush false named
    · exact .refl
  · split_ifs
    · exact State.reach_completeRetreat named
    · exact .refl

theorem reach_stageConfirmation (m : Fin 12) (entries : List OvenEntry) (s : State) :
    Reach s.roster (stageConfirmation m entries s).roster := by
  unfold stageConfirmation
  split
  · exact .refl
  · next r present =>
    split
    · exact .refl
    · next e _ =>
      exact State.reach_confirm (s := s.withPu { s.pu with taken := some ⟨r.oven, entries, r.stage⟩ }) e
        (s.roster_push_of_some present)

theorem reach_stageTimerExpiry (s : State) : Reach s.roster (stageTimerExpiry s).roster := by
  unfold stageTimerExpiry
  split
  · exact .refl
  · split
    · exact s.reach_abortPush _
    · exact .refl

end Sys2Proof.Machine

/-!
SUPPORT. What doors, pressure, cars, the field link, snapshots and set-up do to the roster: most leave it, a car's fault may end
a push, and START, STOP, SET_BATTERY and OVEN_LOAD are moves of their own.
-/

namespace Sys2Proof.Machine

open Roster (Reach Step)

/-! ### The doors (chapter 4) -/

@[simp] theorem State.roster_applyDoor (s : State) (n : Nat) (x : Side) (a : DoorStep) :
    (s.applyDoor n x a).roster = s.roster := by
  have written : (s.setOven n ((s.oven n).setDoor x a.door)).roster = s.roster :=
    s.roster_setOven_same (Oven.setDoor_phase _ _ _)
  unfold State.applyDoor
  dsimp only
  split_ifs
  · exact written
  · rw [State.roster_evalValve]; exact written

@[simp] theorem State.roster_takeDoors (s : State) (m : Fin 12) (entries : List OvenEntry) (n : Nat) :
    (s.takeDoors m entries n).roster = s.roster := by
  unfold State.takeDoors
  split
  · simp [State.takeDoor]
  · rfl

@[simp] theorem roster_ovenReport (m : Fin 12) (entries : List OvenEntry) (s : State) :
    (ovenReport m entries s).roster = s.roster := by
  have doors := roster_foldl (f := fun t n => State.takeDoors t m entries n) (fun t n => t.roster_takeDoors m entries n)
    (s.served m) s
  unfold ovenReport State.dropTaken
  split_ifs <;> exact doors

@[simp] theorem roster_settleTimerExpiry (n : Nat) (x : Side) (s : State) : (settleTimerExpiry n x s).roster = s.roster := by
  unfold settleTimerExpiry
  dsimp only
  split_ifs
  · exact s.roster_applyDoor n x _
  · exact s.roster_setOven_same (Oven.setDoor_phase _ _ _)
  · rfl

@[simp] theorem roster_doorOffTimerExpiry (n : Nat) (x : Side) (s : State) :
    (doorOffTimerExpiry n x s).roster = s.roster := by
  unfold doorOffTimerExpiry
  dsimp only
  split_ifs
  · exact s.roster_applyDoor n x _
  · exact s.roster_setOven_same (Oven.setDoor_phase _ _ _)
  · rfl

@[simp] theorem State.roster_startDoor (s : State) (n : Nat) (x : Side) : (s.startDoor n x).roster = s.roster := by
  unfold State.startDoor
  dsimp only
  split_ifs
  · rfl
  · exact s.roster_setOven_same (Oven.setDoor_phase _ _ _)
  · exact s.roster_setOven_same (Oven.setDoor_phase _ _ _)

@[simp] theorem State.roster_startDoors (s : State) : s.startDoors.roster = s.roster :=
  roster_foldl (fun t n => by simp) _ s

theorem roster_doorService (n x a : Byte) (s : State) : (doorService n x a s).state.roster = s.roster := by
  unfold doorService
  dsimp only
  split_ifs
  · rfl
  · split
    · split
      · rfl
      · exact s.roster_setOven_same (Oven.setDoor_phase _ _ _)
    · rfl

theorem roster_queryDoors (n : Byte) (s : State) : (queryDoors n s).state.roster = s.roster := by
  unfold queryDoors
  dsimp only
  split_ifs <;> rfl

/-! ### Offtake pressure (chapter 5) -/

@[simp] theorem State.roster_runLoop (s : State) (n : Nat) : (s.runLoop n).roster = s.roster := by
  unfold State.runLoop
  dsimp only
  split <;> simp

@[simp] theorem State.roster_takeSample (s : State) (n : Nat) (e : OvenEntry) : (s.takeSample n e).roster = s.roster := by
  have written (v : Valve) : (s.setOven n ((s.oven n).setValve v)).roster = s.roster := s.roster_setOven_same rfl
  simp only [State.takeSample, State.roster_runLoop]
  split <;> simp only [State.roster_evalSample, written]

@[simp] theorem roster_ovenSample (m : Fin 12) (entries : List OvenEntry) (s : State) :
    (ovenSample m entries s).roster = s.roster :=
  roster_foldl (fun t n => by split <;> simp) _ s

@[simp] theorem State.roster_runMainLoop (s : State) : s.runMainLoop.roster = s.roster := by
  unfold State.runMainLoop
  dsimp only
  split <;> rfl

@[simp] theorem roster_mainReport (r : MainReport) (s : State) : (mainReport r s).roster = s.roster := by
  simp only [mainReport, State.roster_runMainLoop]
  split <;> simp

@[simp] theorem roster_ovenNodeSilence (m : Fin 12) (s : State) : (ovenNodeSilence m s).roster = s.roster :=
  roster_foldl State.roster_evalSilent _ s

@[simp] theorem roster_ovenNodeReturn (m : Fin 12) (s : State) : (ovenNodeReturn m s).roster = s.roster :=
  s.roster_evalValves _

@[simp] theorem roster_mainNodeSilence (s : State) : (mainNodeSilence s).roster = s.roster := by
  simp [mainNodeSilence]

@[simp] theorem roster_mainNodeReturn (s : State) : (mainNodeReturn s).roster = s.roster := by
  simp [mainNodeReturn]

theorem roster_setProfilePoint (i : Byte) (v : Half) (s : State) : (setProfilePoint i v s).state.roster = s.roster := by
  unfold setProfilePoint
  split_ifs <;> rfl

theorem roster_setValveManual (n : Byte) (x : Half) (s : State) : (setValveManual n x s).state.roster = s.roster := by
  have written (v : Valve) : (s.setOven n.toNat ((s.oven n.toNat).setValve v)).roster = s.roster := s.roster_setOven_same rfl
  unfold setValveManual
  dsimp only
  split_ifs
  · rfl
  · simp only [State.reply, State.evalManual]
    split_ifs <;> simp only [State.roster_applyValve, State.roster_evalValve, written]

theorem roster_releaseValve (n : Byte) (s : State) : (releaseValve n s).state.roster = s.roster := by
  have written (v : Valve) : (s.setOven n.toNat ((s.oven n.toNat).setValve v)).roster = s.roster := s.roster_setOven_same rfl
  unfold releaseValve
  dsimp only
  split_ifs
  · rfl
  · rfl
  · simp only [State.reply, State.roster_evalValve, written]

theorem roster_setMain (p : Half) (g k l a : Byte) (x : Half) (s : State) : (setMain p g k l a x s).state.roster = s.roster := by
  unfold setMain
  split
  · rfl
  · simp only [State.reply, State.evalMainManual, State.sendMainManual]
    split_ifs <;> rfl

theorem roster_queryPressure (n : Byte) (s : State) : (queryPressure n s).state.roster = s.roster := by
  unfold queryPressure
  split_ifs <;> rfl

/-! ### Cars, tower and wharf (chapter 6) -/

@[simp] theorem State.roster_enterFaulted (s : State) (c : Car) (cause : FaultCause) :
    (s.enterFaulted c cause).roster = s.roster := rfl

theorem State.reach_faultCar (s : State) (c : Car) (cause : FaultCause) : Reach s.roster (s.faultCar c cause).roster := by
  unfold State.faultCar
  dsimp only
  split_ifs
  · exact (s.enterFaulted c cause).reach_abortPush .car
  · exact .refl

@[simp] theorem State.roster_arriveTower (s : State) (c : Car) (l : Location) : (s.arriveTower c l).roster = s.roster := by
  unfold State.arriveTower
  split_ifs <;> rfl

@[simp] theorem State.roster_beginDump (s : State) (c : Car) : (s.beginDump c).roster = s.roster := by
  unfold State.beginDump
  split <;> rfl

@[simp] theorem State.roster_arrive (s : State) (c : Car) (l : Location) : (s.arrive c l).roster = s.roster := by
  cases state : (s.car c).state <;> simp [State.arrive, state]

@[simp] theorem State.roster_loadCar (s : State) (c : Car) : (s.loadCar c).roster = s.roster := by
  unfold State.loadCar
  dsimp only
  split
  · split_ifs <;> rfl
  · rfl

theorem State.reach_endDump (s : State) (c : Car) : Reach s.roster (s.endDump c).roster := by
  unfold State.endDump
  dsimp only
  split
  · exact State.reach_evaluate_of rfl
  · exact .refl

theorem State.reach_judgeCar (s : State) (c : Car) : Reach s.roster (s.judgeCar c).roster := by
  unfold State.judgeCar State.judgeStatus
  dsimp only
  split_ifs
  · exact .refl
  · exact s.reach_faultCar c _
  · exact s.reach_faultCar c _
  · exact State.reach_of_same (s.roster_arrive c _)
  · split
    · exact State.reach_of_same (s.roster_loadCar c)
    · exact s.reach_endDump c
    · exact .refl
    · exact .refl

theorem reach_carReport (c : Car) (x : CarReport) (s : State) : Reach s.roster (carReport c x s).roster :=
  State.reach_judgeCar (s.setCar c _) c

@[simp] theorem roster_towerReport (x : TowerReport) (s : State) : (towerReport x s).roster = s.roster := by
  unfold towerReport
  dsimp only
  split
  · split_ifs <;> rfl
  · rfl

@[simp] theorem roster_quenchTimerExpiry (c : Car) (s : State) : (quenchTimerExpiry c s).roster = s.roster := by
  unfold quenchTimerExpiry
  dsimp only
  split_ifs <;> rfl

@[simp] theorem State.roster_leaveTower (s : State) (c : Car) : (s.leaveTower c).roster = s.roster := by
  unfold State.leaveTower
  split_ifs <;> simp

@[simp] theorem State.roster_seekBay (s : State) (c : Car) : (s.seekBay c).roster = s.roster := by
  unfold State.seekBay
  split <;> simp

@[simp] theorem roster_drainTimerExpiry (c : Car) (s : State) : (drainTimerExpiry c s).roster = s.roster := by
  unfold drainTimerExpiry
  dsimp only
  split_ifs <;> simp

theorem reach_dumpTimerExpiry (c : Car) (s : State) : Reach s.roster (dumpTimerExpiry c s).roster := by
  unfold dumpTimerExpiry
  dsimp only
  split_ifs
  · exact s.reach_faultCar c _
  · exact .refl
  · exact .refl

@[simp] theorem roster_bayHoldTimerExpiry (b : Nat) (s : State) : (bayHoldTimerExpiry b s).roster = s.roster := by
  unfold bayHoldTimerExpiry
  split_ifs <;> simp

theorem reach_travelTimerExpiry (c : Car) (s : State) : Reach s.roster (travelTimerExpiry c s).roster := by
  unfold travelTimerExpiry
  dsimp only
  split_ifs
  · exact s.reach_faultCar c _
  · exact .refl
  · exact .refl

@[simp] theorem roster_hotCokeTimerExpiry (c : Car) (s : State) : (hotCokeTimerExpiry c s).roster = s.roster := by
  unfold hotCokeTimerExpiry
  dsimp only
  split_ifs <;> rfl

theorem reach_carNodeSilence (c : Car) (s : State) : Reach s.roster (carNodeSilence c s).roster := by
  unfold carNodeSilence
  split_ifs
  · exact s.reach_faultCar c _
  · exact .refl

@[simp] theorem State.roster_haltCar (s : State) (c : Car) : (s.haltCar c).roster = s.roster := by
  unfold State.haltCar
  split_ifs <;> rfl

@[simp] theorem State.roster_resumeCar (s : State) (c : Car) : (s.resumeCar c).roster = s.roster := by
  unfold State.resumeCar
  split <;> rfl

theorem reach_carServiceIn (car : Byte) (s : State) : Reach s.roster (carServiceIn car s).state.roster := by
  unfold carServiceIn
  split
  · exact .refl
  · split_ifs
    · exact .refl
    · exact .refl
    · exact State.reach_evaluate_of rfl

@[simp] theorem State.roster_endReservation (s : State) (c : Car) : (s.endReservation c).roster = s.roster := by
  unfold State.endReservation State.fillBay
  split
  · rfl
  · dsimp only
    split_ifs <;> simp

@[simp] theorem State.roster_clearStallClaim (s : State) (c : Car) : (s.clearStallClaim c).roster = s.roster := by
  unfold State.clearStallClaim
  split_ifs
  · refine s.roster_withPu rfl ?_
    simp [State.roster, Function.comp_def]
  · rfl

@[simp] theorem State.roster_recoverCar (s : State) (c : Car) : (s.recoverCar c).roster = s.roster := by
  simp [State.recoverCar]

theorem roster_carServiceOut (car : Byte) (s : State) : (carServiceOut car s).state.roster = s.roster := by
  unfold carServiceOut
  split
  · rfl
  · dsimp only
    split
    · rfl
    · rfl
    · exact s.roster_recoverCar _
    all_goals rfl

theorem roster_setZones (shift : Byte) (entries : List (Byte × Byte)) (s : State) :
    (setZones shift entries s).state.roster = s.roster := by
  unfold setZones
  split
  · rfl
  · split
    · rfl
    · split <;> rfl

/-! ### The field link (chapter 7) -/

@[simp] theorem roster_silenceWindowExpiry (x : Node) (s : State) : (silenceWindowExpiry x s).roster = s.roster := by
  unfold silenceWindowExpiry
  split_ifs <;> rfl

@[simp] theorem State.roster_refresh (s : State) (x : Node) : (s.refresh x).roster = s.roster := by
  unfold State.refresh
  dsimp only
  split <;> rfl

@[simp] theorem roster_fieldFrameReceived (id kind : Byte) (body : List Byte) (received : Half) (s : State) :
    (fieldFrameReceived id kind body received s).roster = s.roster := by
  unfold fieldFrameReceived State.takeFieldFrame
  split_ifs
  · rfl
  · rfl
  · split
    · rfl
    · split_ifs
      · split
        · simp [State.takeReport, State.fieldReceive]
        · rfl
      · rfl

@[simp] theorem roster_fieldByteReceived (b : Byte) (s : State) : (fieldByteReceived b s).roster = s.roster := by
  unfold fieldByteReceived State.fieldCollect
  split
  · rfl
  · split
    · rfl
    · rfl
    · split
      · rfl
      · split
        · simp
        · rfl

@[simp] theorem roster_fieldLineIdle (s : State) : (fieldLineIdle s).roster = s.roster := by
  unfold fieldLineIdle
  split_ifs <;> rfl

@[simp] theorem roster_fieldFrameSent (s : State) : (fieldFrameSent s).roster = s.roster := by
  unfold fieldFrameSent
  split_ifs <;> rfl

/-! ### Snapshots and battery time (chapter 9) -/

/-- A pass over the numbered records that keeps every phase. -/
theorem State.numbered_map_phase (s : State) {f : Oven × Nat → Oven} (h : ∀ x, (f x).phase = x.1.phase) :
    (s.numbered.map f).map Oven.phase = s.ovens.map Oven.phase := by
  have phases : Oven.phase ∘ f = Oven.phase ∘ Prod.fst := funext h
  rw [List.map_map, phases, ← List.map_map, State.numbered, List.zipIdx_map_fst]

theorem roster_hold (f c m : Byte) (s : State) : (hold f c m s).state.roster = s.roster := by
  unfold hold
  dsimp only
  split_ifs
  · rfl
  · rfl
  · rfl
  · exact s.roster_withOvens_same (s.numbered_map_phase fun x => by split <;> rfl)

theorem roster_collect (s : State) : (collect s).state.roster = s.roster :=
  s.roster_withOvens_same (s.numbered_map_phase fun x => by split <;> rfl)

theorem roster_releaseHolds (s : State) : (releaseHolds s).state.roster = s.roster :=
  s.roster_withOvens_same (by rw [List.map_map]; rfl)

theorem roster_setTime (m : Word) (s : State) : (setTime m s).state.roster = s.roster := by
  unfold setTime
  split_ifs <;> rfl

theorem State.roster_tickRun (s : State) : s.tickRun.roster = s.roster := by
  have ovens : (s.withOvens (s.numbered.map (fun x => if x.2 ≤ s.ovenCount then x.1.tick else x.1))).roster = s.roster :=
    s.roster_withOvens_same (s.numbered_map_phase fun x => by split <;> rfl)
  have su : ∀ t : State, t.su = s.su → (t.withSu s.su.tick).roster = t.roster := by
    intro t ht
    simp only [ScheduleUnit.tick, State.roster, State.withSu, ht]
    split_ifs <;> rfl
  have pu : ∀ t : State, t.pu = s.pu → (t.withPu s.pu.tick).roster = t.roster := by
    intro t ht
    refine t.roster_withPu ?_ (by simp [State.roster, ht, PushUnit.tick])
    simp [State.roster, ht, PushUnit.tick, Function.comp_def]
  simp only [State.tickRun, State.roster_withQu]
  exact (pu _ (by rfl)).trans ((su _ (by rfl)).trans ovens)

@[simp] theorem roster_batterySecond (s : State) : (batterySecond s).roster = s.roster := by
  simp only [batterySecond, State.roster_bringOwed]
  split_ifs
  · rw [State.roster_tickRun]; rfl
  · rfl

/-! ### Set-up (chapter 10) -/

theorem State.not_running {s : State} (h : ¬ s.running = true) : s.bk.mode = .config := by
  cases mode : s.bk.mode with
  | config => rfl
  | run => simp [State.running, mode] at h

theorem State.roster_withSu_resize (s : State) (u : ScheduleUnit) (n : Nat) : (s.withSu (u.resize n)).roster =
    { (s.withSu u).roster with granularity := 0, start := 1, vector := 0 } := by
  simp only [ScheduleUnit.resize, State.roster, State.withSu]
  split_ifs <;> rfl

theorem reach_setBattery (ovens : Byte) (s : State) : Reach s.roster (setBattery ovens s).state.roster := by
  unfold setBattery
  split_ifs with run
  · exact .refl
  · have low : 8 ≤ clampNat 8 96 ovens.toNat := le_max_left _ _
    have high : clampNat 8 96 ovens.toNat ≤ 96 := by unfold clampNat; omega
    simp only [State.reply, State.roster_withFl, State.roster_withSu_resize]
    exact .single (.resize (State.not_running run) low high)

theorem Phase.ofLoad_phase {k : Nat} {p : Phase} (h : Phase.ofLoad k = some p) : p ≠ .pushing ∧ p ≠ .stalled := by
  unfold Phase.ofLoad at h
  split at h <;> cases h <;> decide

theorem Oven.load_phase (o : Oven) (p : Phase) (x k l : Nat) (c : Word) : (o.load p x k l c).phase = p := by
  cases p <;> rfl

theorem reach_ovenLoad (n p : Byte) (x m : Word) (k : Half) (s : State) :
    Reach s.roster (ovenLoad n p x m k s).state.roster := by
  unfold ovenLoad
  dsimp only
  split_ifs with run range
  · exact .refl
  · exact .refl
  · split
    · exact .refl
    · next f loads =>
      simp only [State.reply, State.roster_evalValve, State.roster_setOven, Oven.load_phase]
      exact .single (.load (State.not_running run) ((s.roster_inRange _).mp (by simpa using range)) (Phase.ofLoad_phase loads))

theorem reach_start (s : State) : Reach s.roster (start s).state.roster := by
  unfold start
  split
  · exact .refl
  · simp only [State.reply, State.enterRun, State.roster_evalMain, State.roster_evalValves, State.roster_startDoors]
    exact .single .enterRun

theorem reach_stop (s : State) : Reach s.roster (stop s).state.roster := by
  unfold stop
  split_ifs with run busy
  · exact .refl
  · exact .refl
  · obtain ⟨noPush, noStall⟩ := State.pushing_eq_false (s := s) fun h => busy (by simp [h])
    simp only [State.reply, State.enterConfig, State.roster_evalMain, State.roster_evalValves]
    exact .single (.enterConfig noPush noStall)

end Sys2Proof.Machine

/-!
SUPPORT. Every step moves the roster as the rules allow, and so keeps the laws of R44 and R47.
-/

namespace Sys2Proof.Machine

open Roster (Reach Step)

/-! ### Requests and the supervisory link (chapter 8) -/

/-- What the owner of a request does to the roster. -/
theorem reach_ownerOf (c : Instr) (s : State) : Reach s.roster (ownerOf c s).state.roster := by
  cases c with
  | hold => exact State.reach_of_same (roster_hold _ _ _ s)
  | collect => exact State.reach_of_same (roster_collect s)
  | releaseHolds => exact State.reach_of_same (roster_releaseHolds s)
  | setTime => exact State.reach_of_same (roster_setTime _ s)
  | setHeat => exact State.reach_of_same (roster_setHeat _ _ s)
  | selectHeat => exact State.reach_of_same (roster_selectHeat _ s)
  | setTrim => exact State.reach_of_same (roster_setTrim _ _ _ _ s)
  | setPlan => exact State.reach_of_same (roster_setPlan _ _ s)
  | chargeBegin => exact reach_chargeBegin _ s
  | chargeEnd => exact reach_chargeEnd _ s
  | queryOven => exact State.reach_of_same (roster_queryOven _ s)
  | setSeries => exact State.reach_of_same (roster_setSeries _ _ _ s)
  | setScheduleMode => exact State.reach_of_same (roster_setScheduleMode _ s)
  | queueOutOfTurn => exact reach_queueOutOfTurn _ s
  | withdraw => exact reach_withdraw _ s
  | setExclusionFrame => exact reach_setExclusionFrame _ _ s
  | writeExclusionWord => exact reach_writeExclusionWord _ _ s
  | pushNow => exact reach_pushNow _ s
  | abortPush => exact reach_abortPush _ s
  | clearStall => exact reach_clearStall _ s
  | doorService => exact State.reach_of_same (roster_doorService _ _ _ s)
  | queryDoors => exact State.reach_of_same (roster_queryDoors _ s)
  | setProfilePoint => exact State.reach_of_same (roster_setProfilePoint _ _ s)
  | setValveManual => exact State.reach_of_same (roster_setValveManual _ _ s)
  | releaseValve => exact State.reach_of_same (roster_releaseValve _ s)
  | setMain => exact State.reach_of_same (roster_setMain _ _ _ _ _ _ s)
  | queryPressure => exact State.reach_of_same (roster_queryPressure _ s)
  | setZones => exact State.reach_of_same (roster_setZones _ _ s)
  | carServiceIn => exact reach_carServiceIn _ s
  | carServiceOut => exact State.reach_of_same (roster_carServiceOut _ s)
  | ovenLoad => exact reach_ovenLoad _ _ _ _ _ s
  | start => exact reach_start s
  | stop => exact reach_stop s
  | setBattery => exact reach_setBattery _ s
  | _ => exact .refl

theorem reach_ownerOfFrame (f : Frame) (s : State) : Reach s.roster (ownerOfFrame f s).state.roster := by
  unfold ownerOfFrame
  cases decodeRequest f with
  | request c => exact reach_ownerOf c s
  | badValue | badLength | unknownKind => exact .refl

/-- A good frame moves the roster as its owner does, when it is taken (R186, R187). -/
theorem reach_takeRequest {owner : State → Answer} (f : Frame)
    (owned : ∀ s, Reach s.roster (owner s).state.roster) (s : State) : Reach s.roster (takeRequest f owner s).roster := by
  unfold takeRequest
  split
  · exact .refl
  · exact owned (s.withSl { s.sl with inService := some f })

theorem reach_acceptFrame {owner : State → Answer} (f : Frame)
    (owned : ∀ s, Reach s.roster (owner s).state.roster) (s : State) : Reach s.roster (acceptFrame f owner s).roster := by
  unfold acceptFrame
  split
  · exact reach_takeRequest f owned s
  · exact .refl
  · exact .refl

theorem reach_supFrameComplete (f : Frame) (received : Half) (s : State) :
    Reach s.roster (supFrameComplete f received s).roster := by
  unfold supFrameComplete
  split
  · exact reach_acceptFrame f (reach_ownerOfFrame f) (s.supReceive .hunt)
  · exact .refl

theorem roster_supSilence (s : State) : (supSilence s).roster = s.roster := by
  unfold supSilence
  split <;> rfl

theorem reach_supervisoryByteReceived (b : Byte) (s : State) : Reach s.roster (supervisoryByteReceived b s).roster := by
  unfold supervisoryByteReceived State.supCollect
  split
  · exact .refl
  · exact .refl
  · split
    · exact .refl
    · split
      · exact reach_supFrameComplete _ _ s
      · exact .refl

theorem State.reach_takeSpare (s : State) : Reach s.roster s.takeSpare.roster := by
  unfold State.takeSpare
  split
  · next f _ => exact reach_takeRequest f (reach_ownerOfFrame f) (s.withSl { s.sl with spare := none })
  · exact .refl

theorem reach_replySent (s : State) : Reach s.roster (replySent s).roster := by
  unfold replySent State.chooseFrame
  split
  · rw [State.roster_withSl]
    exact State.reach_takeSpare (s.withSl { s.sl with transmitter := .idle, replySlot := none, inService := none })
  · exact .refl

theorem roster_noticeSent (s : State) : (noticeSent s).roster = s.roster := by
  unfold noticeSent
  split <;> rfl

/-! ### Pins (chapters 10 and 11) -/

theorem roster_estopAssertion (s : State) : (estopAssertion s).roster = s.roster := by
  unfold estopAssertion
  split <;> rfl

theorem roster_estopAtQu (s : State) : (estopAtQu s).roster = s.roster := by
  simp [estopAtQu]

theorem roster_estopReleaseAtQu (s : State) : (estopReleaseAtQu s).roster = s.roster := by
  simp [estopReleaseAtQu]

theorem roster_estopRelease (s : State) : (estopRelease s).roster = s.roster := by
  unfold estopRelease
  split <;> rfl

theorem reach_resetReleased (b1 b0 low : Bool) (s : State) : Reach s.roster (resetReleased b1 b0 low s).roster := by
  unfold resetReleased
  split
  · exact .single .reset
  · exact .refl

theorem reach_powerUp (high b1 b0 low : Bool) (s : State) : Reach s.roster (powerUp high b1 b0 low s).roster := by
  unfold powerUp
  dsimp only
  split <;> exact .single .reset

/-! ### The step -/

section
variable {s t : State} {c : Instr} {f : State → State}

theorem State.reach_event (acts : ∀ s, Reach s.roster (f s).roster) (h : s.event c f = .next t) : Reach s.roster t.roster := by
  unfold State.event at h
  cases h
  split
  · exact .refl
  · exact acts (s.withDue (s.due.erase c))

theorem State.reach_event_of_same (keeps : ∀ s, (f s).roster = s.roster) (h : s.event c f = .next t) :
    Reach s.roster t.roster :=
  State.reach_event (fun s => State.reach_of_same (keeps s)) h

theorem State.reach_checked (acts : ∀ s, Reach s.roster (f s).roster) (h : s.checked c f = .next t) :
    Reach s.roster t.roster := by
  unfold State.checked at h
  split at h
  · exact State.reach_event acts h
  · cases h

theorem State.reach_checked_of_same (keeps : ∀ s, (f s).roster = s.roster) (h : s.checked c f = .next t) :
    Reach s.roster t.roster :=
  State.reach_checked (fun s => State.reach_of_same (keeps s)) h

theorem reach_hostRequest (h : hostRequest c (ownerOf c) s = .next t) : Reach s.roster t.roster := by
  unfold hostRequest at h
  split at h
  · next f _ => exact State.reach_checked (reach_acceptFrame f (reach_ownerOf c)) h
  · cases h

/-- Every command moves the roster as the rules allow, if at all. -/
theorem reach_exec (h : exec c s = .next t) : Reach s.roster t.roster := by
  have request : hostRequest c (ownerOf c) s = .next t → Reach s.roster t.roster := reach_hostRequest
  cases c with
  | supFrameComplete => exact State.reach_checked (reach_supFrameComplete _ _) h
  | supSilence => exact State.reach_event_of_same roster_supSilence h
  | replySent => exact State.reach_event reach_replySent h
  | noticeSent => exact State.reach_event_of_same roster_noticeSent h
  | sRtsAsserted =>
    change (if s.pins.inReset then _ else _) = _ at h
    split at h
    · cases h; exact .refl
    · exact State.reach_event_of_same (f := sRtsAsserted) (fun _ => rfl) h
  | sRtsDeasserted =>
    change (if s.pins.inReset then _ else _) = _ at h
    split at h
    · cases h; exact .refl
    · exact State.reach_event_of_same (f := sRtsDeasserted) (fun _ => rfl) h
  | fieldFrameReceived => exact State.reach_checked_of_same (roster_fieldFrameReceived _ _ _ _) h
  | fieldByteReceived => exact State.reach_event_of_same (roster_fieldByteReceived _) h
  | fieldLineIdle => exact State.reach_event_of_same roster_fieldLineIdle h
  | fieldFrameSent => exact State.reach_event_of_same roster_fieldFrameSent h
  | pusherReport => exact State.reach_checked_of_same (roster_pusherReport _) h
  | guideReport => exact State.reach_checked_of_same (roster_guideReport _) h
  | carReport => exact State.reach_checked (reach_carReport _ _) h
  | towerReport => exact State.reach_event_of_same (roster_towerReport _) h
  | mainReport => exact State.reach_event_of_same (roster_mainReport _) h
  | ovenReport => exact State.reach_checked_of_same (roster_ovenReport _ _) h
  | ovenSample => exact State.reach_checked_of_same (roster_ovenSample _ _) h
  | stageConfirmation => exact State.reach_checked (reach_stageConfirmation _ _) h
  | batterySecond => exact State.reach_event_of_same roster_batterySecond h
  | slotCarry => exact State.reach_event reach_slotCarry h
  | cokeMinuteExpiry => exact State.reach_event reach_cokeMinuteExpiry h
  | chargeTimerExpiry => exact State.reach_checked_of_same (roster_chargeTimerExpiry _) h
  | stageTimerExpiry => exact State.reach_event reach_stageTimerExpiry h
  | settleTimerExpiry => exact State.reach_checked_of_same (roster_settleTimerExpiry _ _) h
  | doorOffTimerExpiry => exact State.reach_checked_of_same (roster_doorOffTimerExpiry _ _) h
  | quenchTimerExpiry => exact State.reach_event_of_same (roster_quenchTimerExpiry _) h
  | drainTimerExpiry => exact State.reach_event_of_same (roster_drainTimerExpiry _) h
  | dumpTimerExpiry => exact State.reach_event (reach_dumpTimerExpiry _) h
  | bayHoldTimerExpiry => exact State.reach_checked_of_same (roster_bayHoldTimerExpiry _) h
  | travelTimerExpiry => exact State.reach_event (reach_travelTimerExpiry _) h
  | hotCokeTimerExpiry => exact State.reach_event_of_same (roster_hotCokeTimerExpiry _) h
  | silenceWindowExpiry => exact State.reach_event_of_same (roster_silenceWindowExpiry _) h
  | machineSilenceAtPu k => exact State.reach_event (f := machineSilenceAtPu k) (fun s => s.reach_abortPush _) h
  | silenceAtSu => exact State.reach_checked_of_same (roster_silenceAtSu _) h
  | carNodeSilence => exact State.reach_event (reach_carNodeSilence _) h
  | towerNodeSilence => exact State.reach_event_of_same (f := towerNodeSilence) (fun _ => rfl) h
  | mainNodeSilence => exact State.reach_event_of_same roster_mainNodeSilence h
  | ovenNodeSilence => exact State.reach_event_of_same (roster_ovenNodeSilence _) h
  | ovenNodeReturn => exact State.reach_event_of_same (roster_ovenNodeReturn _) h
  | mainNodeReturn => exact State.reach_event_of_same roster_mainNodeReturn h
  | towerNodeReturn => exact State.reach_event_of_same (f := towerNodeReturn) (fun s => s.roster_issueAll _) h
  | estopAssertion => exact State.reach_event_of_same roster_estopAssertion h
  | estopAtPu => exact State.reach_event (f := estopAtPu) (fun s => s.reach_abortPush .estop) h
  | estopAtSu => exact State.reach_event_of_same (f := estopAtSu) (fun s => s.roster_pauseSchedule 1 0) h
  | estopAtQu => exact State.reach_event_of_same roster_estopAtQu h
  | estopRelease => exact State.reach_event_of_same roster_estopRelease h
  | estopReleaseAtQu => exact State.reach_event_of_same roster_estopReleaseAtQu h
  | resetAsserted => cases h; exact .refl
  | resetReleased => cases h; exact reach_resetReleased _ _ _ s
  | powerUp => cases h; exact reach_powerUp _ _ _ _ s
  | supervisoryByteReceived => exact State.reach_event (reach_supervisoryByteReceived _) h
  | _ => exact request h

/-- Every step moves the roster as the rules allow, if at all. -/
theorem reach_step (h : step s = .next t) : Reach s.roster t.roster := by
  unfold step at h
  split at h
  · next _ rest _ => exact reach_exec (s := s.withPending rest) h
  · exact reach_exec h
  · cases h; exact .refl

end

/-! ### The statements -/

/-- Settles O11: every move of the roster keeps the law of R44. -/
theorem everyStepKeepsTheListLaw : Obligations.EveryStepKeepsTheListLaw := by
  intro s t shape push list h
  rw [listLaw_iff] at list ⊢
  exact (reach_step h).keeps Step.keeps_listed (roster_sound shape push) list

/-- Settles O12: every move of the roster keeps the law of R47. -/
theorem everyStepKeepsTheNeighbourLaw : Obligations.EveryStepKeepsTheNeighbourLaw := by
  intro s t shape push neighbour h
  rw [neighbourLaw_iff] at neighbour ⊢
  exact (reach_step h).keeps Step.keeps_neighbourly (roster_sound shape push) neighbour

end Sys2Proof.Machine

/-!
SUPPORT. The schedule unit's requests taken at once, the excluded state of an oven, and the pauses of the schedule: the statements
about the lists, exclusion and the schedule mode.
-/

namespace Sys2Proof.Machine

/-! ### A request taken at once -/

/-- The state after a request taken at once and answered. -/
def State.afterRequest (s : State) (c : Instr) (f : Frame) (owner : State → Answer) : State :=
  serve f owner (s.withDue (s.due.erase c))

section
variable {s u : State} {c : Instr} {f : Frame} {owner : State → Answer} {x : Status} {fields : List Byte}

theorem exec_of_free (request : exec c s = hostRequest c owner s) (encoded : encodeRequest c = some f) (wf : c.wf = true)
    (free : s.Free) (tag : f.tag ≠ 0) : exec c s = .next (s.afterRequest c f owner) :=
  request.trans (hostRequest_of_free c f owner s encoded wf free tag)

/-- What an owner leaves of every part but SL stands after its reply. -/
theorem State.keeps_afterRequest (s : State) (c : Instr) (f : Frame) (owner : State → Answer) :
    Keeps [.sl] (owner (s.taking c f)).state (s.afterRequest c f owner) := by
  rw [State.afterRequest, serve_eq]
  exact State.keeps_withSl _ _

/-- An owner that leaves SL alone has its status and fields answered, and nothing else reaches SL (R188 to R193). -/
theorem answered_of_sl (h : owner (s.taking c f) = ⟨u, x, fields⟩) (sl : u.sl = (s.taking c f).sl) :
    Answered s (s.afterRequest c f owner) f x fields := by
  have lost : s.sl.noticeLost = u.sl.noticeLost := by rw [sl]; rfl
  rw [Answered, State.afterRequest, serve_eq, h, lost]
  simp only [State.replyTo_answer]
  rw [State.withSl_sl, SupLink.answer_eq, sl, State.taking_sl]

/-- A request that writes SU alone: the frame, SU, and the answer. -/
theorem afterRequest_withSu {su : ScheduleUnit} (h : owner (s.taking c f) = ((s.taking c f).withSu su).reply fields) :
    FrameOf c [.su, .sl] s (s.afterRequest c f owner) ∧ (s.afterRequest c f owner).su = su ∧
      Answered s (s.afterRequest c f owner) f .ok fields := by
  have writes : Keeps [.su, .sl] (s.taking c f) (owner (s.taking c f)).state := by
    rw [h]
    intro b hb
    cases b with
    | su => simp at hb
    | _ => rfl
  refine ⟨frameOf_serve c f owner s writes (by simp) (by simp), ?_, answered_of_sl h rfl⟩
  have kept := s.keeps_afterRequest c f owner .su (by simp)
  rw [h] at kept
  exact kept

end

/-! ### QUEUE_OUT_OF_TURN (R43) -/

theorem State.running_eq_true_iff (s : State) : s.running = true ↔ s.bk.mode = .run := by simp [State.running]

/-- The status QUEUE_OUT_OF_TURN is answered with: R43's six checks in order. -/
theorem State.queueRefusal_getD (s : State) (n : Nat) : (s.queueRefusal n).getD .ok =
    if s.bk.mode ≠ .run then .wrongMode
    else if ¬(1 ≤ n ∧ n ≤ s.ovenCount) then .badOven
    else if s.excluded n = true then .excluded
    else if (s.oven n).phase ≠ .coking ∧ (s.oven n).phase ≠ .soaking ∧ (s.oven n).phase ≠ .ready then .wrongPhase
    else if n ∈ s.su.outOfTurn then .duplicate
    else if 4 ≤ s.su.outOfTurn.length then .full
    else .ok := by
  have room : Config.outOfTurnRoom = 4 := rfl
  simp only [State.queueRefusal, State.running, State.inRange, Bool.not_eq_true', beq_eq_false_iff_ne,
    decide_eq_false_iff_not, room]
  split_ifs <;> rfl

theorem State.queueRefusal_ne_ok (s : State) (n : Nat) : s.queueRefusal n ≠ some .ok := by
  unfold State.queueRefusal
  split_ifs <;> simp

/-- The status of a request with a first failing check, or without one. -/
theorem refusal_cases {o : Option Status} {x : Status} (ne : o ≠ some .ok) (h : x = o.getD .ok) :
    (x ≠ .ok ∧ o = some x) ∨ (x = .ok ∧ o = none) := by
  cases o with
  | none => exact .inr ⟨h, rfl⟩
  | some y =>
    cases h
    exact .inl ⟨fun e => ne (congrArg some e), rfl⟩

theorem queueOutOfTurn_of_some {s : State} {n : Byte} {x : Status} (h : s.queueRefusal n.toNat = some x) :
    queueOutOfTurn n s = s.refuse x := by
  simp only [queueOutOfTurn, h]

theorem queueOutOfTurn_of_none {s : State} {n : Byte} (h : s.queueRefusal n.toNat = none) :
    queueOutOfTurn n s = (s.withSu { s.su with
        outOfTurn := s.su.outOfTurn ++ [n.toNat], deferred := s.su.deferred.erase n.toNat }).reply
      [byteOf (s.su.outOfTurn.length + 1), if n.toNat ∈ s.su.deferred then 1 else 0] := by
  have removed : flag (decide (n.toNat ∈ s.su.deferred)) = if n.toNat ∈ s.su.deferred then 1 else 0 := by
    by_cases mem : n.toNat ∈ s.su.deferred <;> simp [flag, boolCode, byteOf, mem]
  simp only [queueOutOfTurn, h, removed, List.length_append, List.length_singleton]

/-- Settles O28: the checks by `queueRefusal`, the effect by SU's new lists. -/
theorem queueOutOfTurnAppends : Obligations.QueueOutOfTurnAppends := by
  intro s tag n free ht x hx
  have takes : exec (.queueOutOfTurn tag n) s =
      .next (s.afterRequest (.queueOutOfTurn tag n) ⟨0x23, tag, [n]⟩ (queueOutOfTurn n)) :=
    exec_of_free rfl rfl rfl free ht
  rw [← s.queueRefusal_getD] at hx
  rcases refusal_cases (s.queueRefusal_ne_ok _) hx with ⟨refused, check⟩ | ⟨ok, check⟩
  · refine ⟨fun _ => ⟨_, takes, ?_⟩, fun ok => absurd ok refused⟩
    exact serve_of_refuse (.queueOutOfTurn tag n) ⟨0x23, tag, [n]⟩ _ s x (queueOutOfTurn_of_some (s := s.taking _ _) check)
  · refine ⟨fun refused => absurd ok refused, fun _ => ⟨_, takes, ?_⟩⟩
    exact afterRequest_withSu (queueOutOfTurn_of_none (s := s.taking _ _) check)

/-! ### WITHDRAW (R45) -/

section
variable {s : State} {n : Byte}

theorem withdraw_of_outside (h : ¬(1 ≤ n.toNat ∧ n.toNat ≤ s.ovenCount)) : withdraw n s = s.refuse .badOven := by
  simp [withdraw, State.inRange, h]

theorem withdraw_of_queued (range : s.inRange n.toNat = true) (h : n.toNat ∈ s.su.outOfTurn) :
    withdraw n s = (s.withSu { s.su with outOfTurn := s.su.outOfTurn.erase n.toNat }).reply [1] := by
  simp [withdraw, range, h]

theorem withdraw_of_deferred (range : s.inRange n.toNat = true) (out : n.toNat ∉ s.su.outOfTurn)
    (h : n.toNat ∈ s.su.deferred) :
    withdraw n s = (s.withSu { s.su with deferred := s.su.deferred.erase n.toNat }).reply [2] := by
  simp [withdraw, range, out, h]

theorem withdraw_of_unlisted (range : s.inRange n.toNat = true) (out : n.toNat ∉ s.su.outOfTurn)
    (h : n.toNat ∉ s.su.deferred) : withdraw n s = s.refuse .notFound := by
  simp [withdraw, range, out, h]

end

/-- Settles O29: one case per list. -/
theorem withdrawRemovesFromItsList : Obligations.WithdrawRemovesFromItsList := by
  intro s tag n free ht
  have takes : exec (.withdraw tag n) s = .next (s.afterRequest (.withdraw tag n) ⟨0x24, tag, [n]⟩ (withdraw n)) :=
    exec_of_free rfl rfl rfl free ht
  have refused {x : Status} := serve_of_refuse (.withdraw tag n) ⟨0x24, tag, [n]⟩ (withdraw n) s x
  refine ⟨fun outside => ⟨_, takes, refused (withdraw_of_outside outside)⟩, fun low high => ?_⟩
  have range : s.inRange n.toNat = true := decide_eq_true ⟨low, high⟩
  refine ⟨fun queued => ⟨_, takes, ?_⟩, fun out deferred => ⟨_, takes, ?_⟩, fun out unlisted => ⟨_, takes, ?_⟩,
    fun law config => ⟨_, takes, ?_⟩⟩
  · exact afterRequest_withSu (withdraw_of_queued (s := s.taking _ _) range queued)
  · exact afterRequest_withSu (withdraw_of_deferred (s := s.taking _ _) range out deferred)
  · exact refused (withdraw_of_unlisted range out unlisted)
  · obtain ⟨noQueue, noDeferred⟩ := law.config config
    have out : n.toNat ∉ s.su.outOfTurn := by simp [noQueue]
    have unlisted : n.toNat ∉ s.su.deferred := by simp [noDeferred]
    exact (refused (withdraw_of_unlisted range out unlisted)).2

/-! ### The excluded state (R38) -/

/-- Bit i covers the g ovens from S + i × g on (R38). -/
theorem covered_iff {start g n i : Nat} (pos : 0 < g) (low : start ≤ n) :
    (n - start) / g = i ↔ start + i * g ≤ n ∧ n ≤ start + i * g + g - 1 := by
  rw [Nat.div_eq_iff pos]
  omega

theorem State.excluded_iff (s : State) (n : Nat) : s.excluded n = true ↔
    (1 ≤ n ∧ n ≤ s.ovenCount) ∧ s.su.exclusionStart ≤ n ∧ n < s.su.exclusionStart + 64 * 2 ^ s.su.granularity ∧
      ∃ i < 64, s.su.exclusion.getLsbD i = true ∧ s.su.exclusionStart + i * 2 ^ s.su.granularity ≤ n ∧
        n ≤ s.su.exclusionStart + i * 2 ^ s.su.granularity + 2 ^ s.su.granularity - 1 := by
  have pos : 0 < s.su.perBit := Nat.two_pow_pos _
  change _ ↔ _ ∧ _ ∧ n < s.su.exclusionStart + 64 * s.su.perBit ∧ ∃ i < 64, _ ∧ s.su.exclusionStart + i * s.su.perBit ≤ n ∧
    n ≤ s.su.exclusionStart + i * s.su.perBit + s.su.perBit - 1
  simp only [State.excluded, State.inRange, Bool.and_eq_true, decide_eq_true_eq, and_assoc]
  refine and_congr_right fun _ => and_congr_right fun _ => and_congr_right fun low => and_congr_right fun reach => ?_
  simp only [← covered_iff pos low]
  constructor
  · intro bit
    exact ⟨_, (Nat.div_lt_iff_lt_mul pos).mpr (by omega), bit, rfl⟩
  · rintro ⟨i, _, bit, rfl⟩
    exact bit

theorem setBattery_of_config {s : State} (config : s.bk.mode = .config) (b : Byte) :
    (setBattery b s).state.su = s.su.resize (clampNat 8 96 b.toNat) := by
  have stopped : s.running = false := by simp [State.running, config]
  simp [setBattery, stopped, State.reply]

/-- The frame and the vector under a new oven count (R38, R211). -/
theorem ScheduleUnit.resize_exclusion (u : ScheduleUnit) (n : Nat) :
    (u.resize n).exclusion = 0 ∧ (u.resize n).granularity = 0 ∧ (u.resize n).exclusionStart = 1 := ⟨rfl, rfl, rfl⟩

/-- Settles O30: the bit that covers an oven is its quotient by g. -/
theorem exclusionReadsTheVector : Obligations.ExclusionReadsTheVector := by
  refine ⟨State.excluded_iff, fun s tag b free ht config => ?_⟩
  have takes : exec (.setBattery tag b) s = .next (s.afterRequest (.setBattery tag b) ⟨0x73, tag, [b]⟩ (setBattery b)) :=
    exec_of_free rfl rfl rfl free ht
  refine ⟨_, takes, ?_⟩
  have kept := s.keeps_afterRequest (.setBattery tag b) ⟨0x73, tag, [b]⟩ (setBattery b) .su (by simp)
  rw [Block.Same, setBattery_of_config (s := s.taking _ _) config] at kept
  rw [kept]
  exact ScheduleUnit.resize_exclusion _ _

/-! ### The exclusion edits (R39 to R41) -/

/-- SU with the ovens excluded in t gone from both lists (R41). -/
def ScheduleUnit.trimmed (u : ScheduleUnit) (t : State) : ScheduleUnit :=
  { u with
    outOfTurn := u.outOfTurn.filter (fun n => !t.excluded n)
    deferred := u.deferred.filter (fun n => !t.excluded n) }

/-- The lists have no part in what is excluded. -/
theorem State.excluded_of_trimmed {s t : State} (u : ScheduleUnit) (count : t.ovenCount = s.ovenCount)
    (su : t.su = u.trimmed (s.withSu u)) : t.excluded = (s.withSu u).excluded := by
  funext n
  simp only [State.excluded, State.inRange, count, su]
  rfl

/-- A taken exclusion edit: SU's frame and vector as `u` has them, and both lists trimmed by what is excluded then. -/
theorem afterRequest_exclusion {s : State} {c : Instr} {f : Frame} {owner : State → Answer} {u : ScheduleUnit}
    {fields : List Byte} (h : owner (s.taking c f) = (s.taking c f).afterExclusion u fields) {t : State}
    (ht : t = s.afterRequest c f owner) :
    FrameOf c [.su, .sl] s t ∧ t.su = u.trimmed t ∧
      Answered s t f .ok (fields ++ [byteOf (s.su.listed - t.su.listed)]) := by
  subst ht
  obtain ⟨frame, su, answered⟩ := afterRequest_withSu h
  have same := State.excluded_of_trimmed u (frame.1 .ovenCount (by simp)) su
  have trims : (s.afterRequest c f owner).su = u.trimmed (s.afterRequest c f owner) := by
    rw [su]
    simp only [ScheduleUnit.trimmed, same]
    rfl
  refine ⟨frame, trims, ?_⟩
  rw [su]
  exact answered

theorem State.pushing_iff (s : State) : s.pushing = true ↔ s.pu.push ≠ none ∨ s.pu.stall ≠ none := by
  simp [State.pushing, Option.isSome_iff_ne_none]

/-- Word w holds bits 16w to 16w + 15, its least significant bit first (R40). -/
theorem getLsbD_putWord (v : BitVec 64) {w : Nat} (x : Half) {b : Nat} (hb : b < 64) :
    (putWord v w x).getLsbD b = if 16 * w ≤ b ∧ b ≤ 16 * w + 15 then x.getLsbD (b - 16 * w) else v.getLsbD b := by
  have ones : ∀ k, (0xFFFF : BitVec 64).getLsbD k = decide (k < 16) := by
    intro k
    have mask : (0xFFFF : BitVec 64) = (BitVec.allOnes 16).setWidth 64 := rfl
    rw [mask, BitVec.getLsbD_setWidth, BitVec.getLsbD_allOnes]
    by_cases h : k < 16
    · simp [h, show k < 64 by omega]
    · simp [h]
  simp only [putWord, BitVec.getLsbD_or, BitVec.getLsbD_and, BitVec.getLsbD_not, BitVec.getLsbD_shiftLeft, ones,
    BitVec.getLsbD_setWidth, hb, decide_true, Bool.true_and]
  by_cases low : b < 16 * w
  · simp [low, show ¬ 16 * w ≤ b by omega]
  · by_cases high : b ≤ 16 * w + 15
    · simp [low, high, show 16 * w ≤ b by omega, show b - 16 * w < 16 by omega, show b - 16 * w < 64 by omega]
    · simp [low, high, show ¬ b - 16 * w < 16 by omega, BitVec.getLsbD_of_ge x _ (by omega : 16 ≤ b - 16 * w)]

theorem setExclusionFrame_eq {s : State} {g start : Byte} {x : Status}
    (hx : x = (if 3 < g.toNat then .badValue
      else if ¬(1 ≤ start.toNat ∧ start.toNat ≤ s.ovenCount) then .badOven
      else if s.pu.push ≠ none ∨ s.pu.stall ≠ none then .busy
      else .ok)) :
    setExclusionFrame g start s = if x = .ok
      then s.afterExclusion { s.su with
        granularity := g.toNat, exclusionStart := start.toNat - (start.toNat - 1) % 2 ^ g.toNat }
        [g, byteOf (start.toNat - (start.toNat - 1) % 2 ^ g.toNat)]
      else s.refuse x := by
  subst hx
  simp only [setExclusionFrame, ← s.pushing_iff, State.inRange, Bool.not_eq_true', decide_eq_false_iff_not]
  split_ifs <;> simp_all [alignedStart]

theorem writeExclusionWord_eq {s : State} {i : Byte} {x : Status} (w : Half)
    (hx : x = (if 3 < i.toNat then .badValue
      else if s.pu.push ≠ none ∨ s.pu.stall ≠ none then .busy
      else .ok)) :
    writeExclusionWord i w s = if x = .ok
      then s.afterExclusion { s.su with exclusion := putWord s.su.exclusion i.toNat w } (i :: halfBytes w)
      else s.refuse x := by
  subst hx
  simp only [writeExclusionWord, ← s.pushing_iff]
  split_ifs <;> simp_all

/-- Settles O31: both edits are one operation, `afterExclusion`, on SU with the frame or the vector replaced. -/
theorem exclusionEditsTrimTheLists : Obligations.ExclusionEditsTrimTheLists := by
  intro s tag g start i w free ht
  refine ⟨fun x hx => ?frame, fun x hx => ?word⟩
  case frame =>
    have takes : exec (.setExclusionFrame tag g start) s = .next
        (s.afterRequest (.setExclusionFrame tag g start) ⟨0x25, tag, [g, start]⟩ (setExclusionFrame g start)) :=
      exec_of_free rfl rfl rfl free ht
    have acts := setExclusionFrame_eq (s := s.taking (.setExclusionFrame tag g start) ⟨0x25, tag, [g, start]⟩) hx
    refine ⟨fun refused => ⟨_, takes, serve_of_refuse _ _ _ s x (acts.trans (if_neg refused))⟩, fun ok => ⟨_, takes, ?_⟩⟩
    obtain ⟨frame, su, answered⟩ := afterRequest_exclusion (acts.trans (if_pos ok)) rfl
    have start_eq := congrArg ScheduleUnit.exclusionStart su
    refine ⟨frame, su, ?_⟩
    rw [start_eq]
    exact answered
  case word =>
    have takes : exec (.writeExclusionWord tag i w) s = .next
        (s.afterRequest (.writeExclusionWord tag i w) ⟨0x26, tag, i :: halfBytes w⟩ (writeExclusionWord i w)) :=
      exec_of_free rfl rfl rfl free ht
    have acts := writeExclusionWord_eq (s := s.taking (.writeExclusionWord tag i w) ⟨0x26, tag, i :: halfBytes w⟩) w hx
    refine ⟨fun refused => ⟨_, takes, serve_of_refuse _ _ _ s x (acts.trans (if_neg refused))⟩, fun ok => ⟨_, takes, ?_⟩⟩
    obtain ⟨frame, su, answered⟩ := afterRequest_exclusion (acts.trans (if_pos ok)) rfl
    have vector := congrArg ScheduleUnit.exclusion su
    refine ⟨frame, ?_, fun b hb => ?_, answered⟩
    · rw [vector]
      exact su
    · rw [vector]
      exact getLsbD_putWord s.su.exclusion w hb

/-! ### The pauses of the schedule (R36) -/

/-- SU as a pause leaves it (R33, R36). -/
theorem ScheduleUnit.turnTo_paused (u : ScheduleUnit) : u.turnTo .paused =
    if u.mode = .auto then { u with mode := .paused, accumulator := 0, carriesDue := 0, slotFlag := false }
    else { u with mode := .paused } := by
  simp [ScheduleUnit.turnTo, ScheduleUnit.clearPacer]

theorem State.pauseSchedule_of_run {s : State} (a b : Nat) (run : s.bk.mode = .run) (mode : s.su.mode ≠ .paused) :
    s.pauseSchedule a b = (s.withSu (s.su.turnTo .paused)).raise (.schedulePaused a b) := by
  simp [State.pauseSchedule, State.running, run, mode]

theorem State.pauseSchedule_of_idle {s : State} (a b : Nat) (h : s.bk.mode = .config ∨ s.su.mode = .paused) :
    s.pauseSchedule a b = s := by
  rcases h with h | h <;> simp [State.pauseSchedule, State.running, h]

/-- A pause in RUN: SU turned, and its notice joined (R36). -/
theorem State.paused_of_run {s : State} (c : Instr) (a b : Nat) (run : s.bk.mode = .run) (mode : s.su.mode ≠ .paused)
    (room : s.NoticeRoom 1) (wait : s.NoticesWait) :
    FrameOf c [.su, .sl] s ((s.passed c).pauseSchedule a b) ∧
      ((s.passed c).pauseSchedule a b).su = s.su.turnTo .paused ∧
      NoticesOnly s ((s.passed c).pauseSchedule a b) [.schedulePaused a b] := by
  have paused := State.pauseSchedule_of_run (s := s.passed c) a b run mode
  have notices := State.raise_noticesOnly ((s.passed c).withSu (s.su.turnTo .paused)) (.schedulePaused a b) room wait
  rw [paused]
  refine ⟨⟨fun k hk => ?_, rfl⟩, rfl, notices⟩
  cases k with
  | su | sl | due => simp at hk
  | _ => rfl

/-- Settles O33: the silence and the assertion both come to `pauseSchedule`. -/
theorem scheduleIsPausedBySilenceAndEstop : Obligations.ScheduleIsPausedBySilenceAndEstop := by
  intro s out room wait
  have silence : ∀ x : Node, (x = .pusher ∨ x = .guide ∨ ∃ m, x = .oven m) →
      exec (.silenceAtSu x) s = .next (silenceAtSu x (s.passed (.silenceAtSu x))) := by
    intro x hx
    have wf : (Instr.silenceAtSu x).wf = true := by rcases hx with rfl | rfl | ⟨m, rfl⟩ <;> rfl
    exact (s.checked_of_wf _ (silenceAtSu x) wf).trans (s.event_of_run _ _ out)
  have estop : exec .estopAtSu s = .next (estopAtSu (s.passed .estopAtSu)) := s.event_of_run _ _ out
  refine ⟨fun x hx => ⟨fun run auto used => ?_, fun idle => ?_⟩, fun run mode => ?_, fun idle => ?_⟩
  · have acts : silenceAtSu x (s.passed (.silenceAtSu x)) = (s.passed (.silenceAtSu x)).pauseSchedule 3 x.id := by
      simp [silenceAtSu, State.passed, auto, used]
    obtain ⟨frame, su, notices⟩ := State.paused_of_run (.silenceAtSu x) 3 x.id run (by simp [auto]) room wait
    rw [silence x hx, acts]
    exact ⟨_, rfl, frame, by rw [su, ScheduleUnit.turnTo_paused, if_pos auto], notices⟩
  · rw [silence x hx]
    unfold silenceAtSu
    split
    · next pauses =>
      simp only [Bool.and_eq_true, beq_iff_eq] at pauses
      obtain ⟨auto, used⟩ := pauses
      have config : s.bk.mode = .config := by
        rcases idle with h | h | h
        · exact h
        · exact absurd auto h
        · exact absurd (h.symm.trans used) (by simp)
      rw [State.pauseSchedule_of_idle (s := s.passed _) _ _ (.inl config)]
    · rfl
  · obtain ⟨frame, su, notices⟩ := State.paused_of_run .estopAtSu 1 0 run mode room wait
    exact ⟨_, estop, frame, by rw [← ScheduleUnit.turnTo_paused]; exact su, notices⟩
  · rw [estop, estopAtSu, State.pauseSchedule_of_idle (s := s.passed _) _ _ idle]

end Sys2Proof.Machine

/-!
SUPPORT. The series (R29): each pass is a residue class of the ovens modulo k, and a valid series goes through every class once.
-/

namespace Sys2Proof.Machine

/-- The ovens 1 to N. -/
def ovensTo (n : Nat) : List Nat := (List.range n).map (· + 1)

theorem mem_ovensTo {n x : Nat} : x ∈ ovensTo n ↔ 1 ≤ x ∧ x ≤ n := by
  simp only [ovensTo, List.mem_map, List.mem_range]
  constructor
  · rintro ⟨i, hi, rfl⟩; omega
  · intro h; exact ⟨x - 1, by omega, by omega⟩

theorem nodup_ovensTo (n : Nat) : (ovensTo n).Nodup :=
  List.nodup_range.map (Nat.succ_injective)

/-- A pass that starts at 1 + c takes the ovens whose distance from oven 1 leaves c modulo k. -/
theorem mem_passOvens {n k c x : Nat} (hc : c < k) : x ∈ passOvens n k (1 + c) ↔ x ∈ ovensTo n ∧ (x - 1) % k = c := by
  have same : passOvens n k (1 + c) = (ovensTo n).filter (fun x => decide (1 + c ≤ x) && (x - (1 + c)) % k == 0) := rfl
  rw [same, List.mem_filter]
  refine and_congr_right fun hx => ?_
  have low := (mem_ovensTo.mp hx).1
  simp only [Bool.and_eq_true, decide_eq_true_eq, beq_iff_eq]
  constructor
  · rintro ⟨start, multiple⟩
    obtain ⟨m, hm⟩ := Nat.dvd_of_mod_eq_zero multiple
    have apart : x - 1 = c + k * m := by omega
    rw [apart, Nat.add_mul_mod_self_left, Nat.mod_eq_of_lt hc]
  · rintro rfl
    have less := Nat.mod_le (x - 1) k
    have apart : x - (1 + (x - 1) % k) = (x - 1) - (x - 1) % k := by omega
    refine ⟨by omega, ?_⟩
    rw [apart]
    exact Nat.sub_mod_eq_zero_of_mod_eq (Nat.mod_mod _ _).symm

theorem nodup_passOvens (n k c : Nat) : (passOvens n k c).Nodup := (nodup_ovensTo n).filter _

/-- With gcd(j, k) = 1 the passes start at k different residues. -/
theorem residue_injective {k j p q : Nat} (coprime : Nat.gcd j k = 1) (hp : p < k) (hq : q < k)
    (same : p * j % k = q * j % k) : p = q := by
  have cancelled : p ≡ q [MOD k] := Nat.ModEq.cancel_right_of_coprime (Nat.gcd_comm j k ▸ coprime) same
  exact Nat.ModEq.eq_of_lt_of_lt cancelled hp hq

/-- With gcd(j, k) = 1 every residue modulo k is the start of a pass. -/
theorem residue_surjective {k j c : Nat} (coprime : Nat.gcd j k = 1) (hc : c < k) : ∃ p < k, p * j % k = c := by
  have maps : Set.MapsTo (fun p => p * j % k) (Finset.range k) (Finset.range k) := by
    intro p _
    simpa using Nat.mod_lt _ (by omega : 0 < k)
  have inj : Set.InjOn (fun p => p * j % k) (Finset.range k) := by
    intro p hp q hq same
    exact residue_injective coprime (by simpa using hp) (by simpa using hq) same
  obtain ⟨p, hp, same⟩ := Finset.surjOn_of_injOn_of_card_le _ maps inj le_rfl (by simpa using hc : c ∈ (Finset.range k : Set Nat))
  exact ⟨p, by simpa using hp, same⟩

theorem seriesValid_iff (n k j : Nat) : seriesValid n k j = true ↔ Nat.gcd j k = 1 ∧ k ≤ n := by
  simp [seriesValid]

theorem nodup_permutation {n k j : Nat} (coprime : Nat.gcd j k = 1) : (permutation n k j).Nodup := by
  refine List.nodup_flatMap.mpr ⟨fun p _ => nodup_passOvens _ _ _, ?_⟩
  refine List.nodup_range.pairwise_of_forall_ne fun p hp q hq ne x hx hy => ne ?_
  have low : 0 < k := by have := List.mem_range.mp hp; omega
  have hx := (mem_passOvens (Nat.mod_lt _ low)).mp hx
  have hy := (mem_passOvens (Nat.mod_lt _ low)).mp hy
  exact residue_injective coprime (List.mem_range.mp hp) (List.mem_range.mp hq) (hx.2.symm.trans hy.2)

theorem mem_permutation {n k j x : Nat} (low : 0 < k) (coprime : Nat.gcd j k = 1) : x ∈ permutation n k j ↔ x ∈ ovensTo n := by
  simp only [permutation, List.mem_flatMap, List.mem_range]
  constructor
  · rintro ⟨p, _, hx⟩
    exact ((mem_passOvens (Nat.mod_lt _ low)).mp hx).1
  · intro hx
    obtain ⟨p, hp, start⟩ := residue_surjective coprime (Nat.mod_lt (x - 1) low)
    exact ⟨p, hp, (mem_passOvens (Nat.mod_lt _ low)).mpr ⟨hx, start.symm⟩⟩

/-- The order of a valid series is a permutation of the ovens 1 to N (R29). -/
theorem permutation_perm {n k j : Nat} (low : 0 < k) (valid : seriesValid n k j = true) :
    (permutation n k j).Perm (ovensTo n) := by
  have coprime := ((seriesValid_iff n k j).mp valid).1
  exact (List.perm_ext_iff_of_nodup (nodup_permutation coprime) (nodup_ovensTo n)).mpr fun _ => mem_permutation low coprime

/-- Settles O27: the passes are the residue classes modulo k, each once. -/
theorem validSeriesVisitsEveryOvenOnce : Obligations.ValidSeriesVisitsEveryOvenOnce :=
  ⟨fun n k j _ => seriesValid_iff n k j, fun _ _ _ low valid => permutation_perm (by omega) valid, by decide, by decide⟩

end Sys2Proof.Machine

/-!
SUPPORT. Operations on one oven after another: where each reads its own oven and the parts no other of them writes, the whole is
told by what each does in the state before all of them.
-/

namespace Sys2Proof.Machine

/-! ### One oven -/

/-- What an operation on one oven does: its record, the commands issued and the notices raised. -/
structure OvenAct where
  oven : Oven
  commands : List Outgoing
  notices : List NoticeBody

def State.act (s : State) (n : Nat) (a : OvenAct) : State :=
  ((s.setOven n a.oven).raiseAll a.notices).issueAll a.commands

/-- Nothing changes from s to t but oven records, the queue of commands and SL; the node table stays. -/
def SameContext (s t : State) : Prop := Keeps [.ovens, .fl, .sl] s t ∧ t.fl.nodes = s.fl.nodes

section
variable {s t u : State} {n m : Nat} {a : OvenAct}

theorem SameContext.refl (s : State) : SameContext s s := ⟨.refl _ s, rfl⟩

theorem SameContext.trans (h : SameContext s t) (k : SameContext t u) : SameContext s u :=
  ⟨h.1.trans k.1, k.2.trans h.2⟩

theorem State.sameContext_act (s : State) (n : Nat) (a : OvenAct) : SameContext s (s.act n a) := by
  refine ⟨fun b hb => ?_, by simp [State.act, State.raiseAll]⟩
  cases b with
  | ovens | fl | sl => simp at hb
  | _ => rfl

@[simp] theorem State.act_length (s : State) (n : Nat) (a : OvenAct) : (s.act n a).ovens.length = s.ovens.length :=
  s.setOven_length n a.oven

theorem State.act_oven_self (h : n - 1 < s.ovens.length) : (s.act n a).oven n = a.oven := s.oven_setOven_self n a.oven h

theorem State.act_oven_ne (h : m - 1 ≠ n - 1) : (s.act n a).oven m = s.oven m := s.oven_setOven_ne n m a.oven h

theorem Issued.trans {cs ds : List Outgoing} (h : Issued s t cs) (k : Issued t u ds) : Issued s u (cs ++ ds) := by
  obtain ⟨queue, nodes, full⟩ := h
  obtain ⟨queue', nodes', full'⟩ := k
  exact ⟨by rw [queue', queue, List.append_assoc], nodes'.trans nodes, full'.trans full⟩

/-- With room for its commands, an operation queues them and raises its own notices only. -/
theorem State.act_links (room : s.FieldRoom a.commands.length) :
    Issued s (s.act n a) a.commands ∧ (s.act n a).sl = (s.raiseAll a.notices).sl :=
  State.issueAll_of_room ((s.setOven n a.oven).raiseAll a.notices) a.commands room

theorem State.raiseAll_append (s : State) (bs cs : List NoticeBody) : (s.raiseAll bs).raiseAll cs = s.raiseAll (bs ++ cs) := by
  simp [State.raiseAll, State.withSl, List.foldl_append]

/-- Notices are raised on SL at the battery second, whatever else differs. -/
theorem State.raiseAll_sl_congr (bs : List NoticeBody) (sl : t.sl = s.sl) (bk : t.bk = s.bk) :
    (t.raiseAll bs).sl = (s.raiseAll bs).sl := by
  simp [State.raiseAll, sl, bk]

end

/-! ### One oven after another -/

/-- Each oven of the list in turn. -/
def State.actAll (act : State → Nat → OvenAct) (ns : List Nat) (s : State) : State :=
  ns.foldl (fun t n => t.act n (act t n)) s

/-- The operation reads its own oven record and the context alone. -/
def OvenLocal (act : State → Nat → OvenAct) : Prop :=
  ∀ s t : State, ∀ n, n - 1 < s.ovens.length → n - 1 < t.ovens.length → SameContext s t → t.oven n = s.oven n →
    act t n = act s n

/-- Different ovens of the table. -/
structure OvensOf (s : State) (ns : List Nat) : Prop where
  once : ns.Nodup
  low : ∀ n ∈ ns, 1 ≤ n
  high : ∀ n ∈ ns, n ≤ s.ovens.length

theorem OvensOf.place {s : State} {ns : List Nat} (h : OvensOf s ns) {n : Nat} (hn : n ∈ ns) : n - 1 < s.ovens.length := by
  have := h.low n hn
  have := h.high n hn
  omega

theorem OvensOf.tail {s : State} {n : Nat} {ns : List Nat} (h : OvensOf s (n :: ns)) (a : OvenAct) : OvensOf (s.act n a) ns :=
  ⟨(List.nodup_cons.mp h.once).2, fun m hm => h.low m (.tail _ hm), fun m hm => by
    rw [State.act_length]; exact h.high m (.tail _ hm)⟩

section
variable {act : State → Nat → OvenAct} {f : State → Nat → State}

theorem State.sameContext_actAll (act : State → Nat → OvenAct) (ns : List Nat) :
    ∀ s : State, SameContext s (s.actAll act ns) := by
  induction ns with
  | nil => exact SameContext.refl
  | cons n ns ih => exact fun s => (s.sameContext_act n _).trans (ih _)

@[simp] theorem State.actAll_length (act : State → Nat → OvenAct) (ns : List Nat) :
    ∀ s : State, (s.actAll act ns).ovens.length = s.ovens.length := by
  induction ns with
  | nil => exact fun s => rfl
  | cons n ns ih => exact fun s => (ih _).trans (s.act_length n _)

theorem State.foldl_eq_actAll (step : ∀ t n, n - 1 < t.ovens.length → f t n = t.act n (act t n)) (ns : List Nat) :
    ∀ s : State, OvensOf s ns → ns.foldl f s = s.actAll act ns := by
  induction ns with
  | nil => exact fun _ _ => rfl
  | cons n ns ih =>
    intro s h
    rw [List.foldl_cons, step s n (h.place (.head _)), ih _ (h.tail _)]
    rfl

theorem State.actAll_oven_of_not_mem {n : Nat} (low : 1 ≤ n) (ns : List Nat) :
    ∀ s : State, OvensOf s ns → n ∉ ns → (s.actAll act ns).oven n = s.oven n := by
  induction ns with
  | nil => exact fun _ _ _ => rfl
  | cons m ns ih =>
    intro s h hn
    have apart : n ≠ m := fun e => hn (e ▸ .head _)
    have := h.low m (.head _)
    exact (ih _ (h.tail _) fun hm => hn (.tail _ hm)).trans (State.act_oven_ne (by omega))

/-- What the others of the list do in the state after the first is what they do before it. -/
theorem OvenLocal.after_first (loc : OvenLocal act) {s : State} {n : Nat} {ns : List Nat} (h : OvensOf s (n :: ns)) {m : Nat}
    (hm : m ∈ ns) : act (s.act n (act s n)) m = act s m := by
  have apart : m ≠ n := fun e => (List.nodup_cons.mp h.once).1 (e ▸ hm)
  have := h.low m (.tail _ hm)
  have := h.low n (.head _)
  exact loc s _ m (h.place (.tail _ hm)) ((h.tail _).place hm) (s.sameContext_act n _) (State.act_oven_ne (by omega))

theorem State.actAll_oven (loc : OvenLocal act) {n : Nat} (ns : List Nat) :
    ∀ s : State, OvensOf s ns → n ∈ ns → (s.actAll act ns).oven n = (act s n).oven := by
  induction ns with
  | nil => exact fun _ _ hn => nomatch hn
  | cons m ns ih =>
    intro s h hn
    rcases List.mem_cons.mp hn with rfl | hn
    · have rest := State.actAll_oven_of_not_mem (act := act) (h.low n (.head _)) ns _ (h.tail (act s n))
        (List.nodup_cons.mp h.once).1
      exact rest.trans (State.act_oven_self (h.place (.head _)))
    · exact (ih _ (h.tail _) hn).trans (congrArg OvenAct.oven (loc.after_first h hn))

/-- With room for all the commands, they and the notices come in the order of the ovens. -/
theorem State.actAll_links (loc : OvenLocal act) (ns : List Nat) :
    ∀ s : State, OvensOf s ns → s.FieldRoom (ns.flatMap fun n => (act s n).commands).length →
      Issued s (s.actAll act ns) (ns.flatMap fun n => (act s n).commands) ∧
        (s.actAll act ns).sl = (s.raiseAll (ns.flatMap fun n => (act s n).notices)).sl := by
  induction ns with
  | nil => exact fun s _ _ => ⟨⟨by simp [State.actAll], rfl, rfl⟩, rfl⟩
  | cons n ns ih =>
    intro s h room
    have commands : (ns.flatMap fun m => (act (s.act n (act s n)) m).commands) = ns.flatMap fun m => (act s m).commands :=
      List.flatMap_congr fun m hm => congrArg OvenAct.commands (loc.after_first h hm)
    have notices : (ns.flatMap fun m => (act (s.act n (act s n)) m).notices) = ns.flatMap fun m => (act s m).notices :=
      List.flatMap_congr fun m hm => congrArg OvenAct.notices (loc.after_first h hm)
    simp only [List.flatMap_cons, List.length_append, State.FieldRoom] at room
    obtain ⟨issued, sl⟩ := State.act_links (s := s) (n := n) (a := act s n) (Nat.le_trans (by omega) room)
    have room' : (s.act n (act s n)).FieldRoom (ns.flatMap fun m => (act s m).commands).length := by
      rw [State.FieldRoom, issued.1, List.length_append]
      omega
    obtain ⟨issued', sl'⟩ := ih (s.act n (act s n)) (h.tail _) (by rw [commands]; exact room')
    rw [commands] at issued'
    rw [notices] at sl'
    refine ⟨issued.trans issued', sl'.trans ?_⟩
    rw [List.flatMap_cons, ← State.raiseAll_append]
    exact State.raiseAll_sl_congr _ sl rfl

end

/-! ### Several notices -/

/-- With room for all, and none begun, the notices join the tail in order (R191). -/
theorem State.raiseAll_noticesOnly (bs : List NoticeBody) :
    ∀ s : State, s.NoticeRoom bs.length → s.NoticesWait → NoticesOnly s (s.raiseAll bs) bs := by
  induction bs with
  | nil => intro s _ _; simp [NoticesOnly, State.raiseAll]
  | cons b bs ih =>
    intro s room wait
    simp only [List.length_cons, State.NoticeRoom] at room
    have first := s.raise_of_room b (by unfold State.NoticeRoom; omega) wait
    have rest := ih (s.raise b) (by
      rw [first]
      simp only [State.NoticeRoom, State.withSl_sl, List.length_append, List.length_singleton]
      omega) (by rw [first]; exact wait)
    have whole : s.raiseAll (b :: bs) = (s.raise b).raiseAll bs := rfl
    rw [whole]
    rw [NoticesOnly, rest, first]
    simp

/-- With a request in service no notice is begun: with room, they join the tail in order (R191, R193). -/
theorem SupLink.raise_notices_of_service {l : SupLink} {f : Frame} (k : Word) (b : NoticeBody) (service : l.inService = some f)
    (room : l.notices.length < Config.noticeRoom) : (l.raise k b).notices = l.notices ++ [⟨k, b⟩] := by
  unfold SupLink.raise SupLink.choose
  rw [if_pos room]
  split
  · rfl
  · simp [service]
  · rfl

theorem State.raiseAll_noticed {f : Frame} (bs : List NoticeBody) :
    ∀ s : State, s.sl.inService = some f → s.NoticeRoom bs.length → Noticed s (s.raiseAll bs) bs := by
  induction bs with
  | nil => intro s _ _; simp [Noticed, State.raiseAll]
  | cons b bs ih =>
    intro s service room
    simp only [List.length_cons, State.NoticeRoom] at room
    have first : (s.raise b).sl.notices = s.sl.notices ++ [⟨s.bk.seconds, b⟩] :=
      SupLink.raise_notices_of_service s.bk.seconds b service (by omega)
    have rest := ih (s.raise b) ((SupLink.raise_inService _ _ _).trans service) (by
      rw [State.NoticeRoom, first, List.length_append, List.length_singleton]
      omega)
    have whole : s.raiseAll (b :: bs) = (s.raise b).raiseAll bs := rfl
    rw [whole]
    rw [Noticed, rest, first]
    simp

/-! ### The valve modes of one oven after another (R111 to R113) -/

/-- What R111's table reads of an oven record. -/
def Oven.modeInputs (o : Oven) : Phase × Bool × Bool × Bool × Bool :=
  (o.phase, o.valve.manualFlag, o.doorP.offUnexpected, o.doorC.offUnexpected, o.valve.lastPressure.isNone)

theorem State.valveMode_congr {s t : State} {n : Nat} (mode : t.bk.mode = s.bk.mode) (pu : t.pu = s.pu)
    (nodes : t.fl.nodes = s.fl.nodes) (inputs : (t.oven n).modeInputs = (s.oven n).modeInputs) :
    t.valveMode n = s.valveMode n := by
  simp only [Oven.modeInputs, Prod.mk.injEq] at inputs
  obtain ⟨phase, manual, doorP, doorC, pressure⟩ := inputs
  have live : t.live (servingNode n) = s.live (servingNode n) := by simp [State.live, FieldLink.entry, nodes]
  have past : t.pastSpot n = s.pastSpot n := by simp [State.pastSpot, pu]
  simp only [State.valveMode, State.valveModeBy, past, live, mode, phase, manual, doorP, doorC, pressure]

theorem SameContext.valveMode {s t : State} {n : Nat} (h : SameContext s t)
    (inputs : (t.oven n).modeInputs = (s.oven n).modeInputs) : t.valveMode n = s.valveMode n :=
  State.valveMode_congr (congrArg BatteryClock.mode (h.1 .bk (by simp))) (h.1 .pu (by simp)) h.2 inputs

theorem turnTo_inputs (n : Nat) (m : ValveMode) (v : Valve) :
    (turnTo n m v).1.manualFlag = v.manualFlag ∧ (turnTo n m v).1.lastPressure = v.lastPressure := by
  unfold turnTo
  split
  · exact ⟨rfl, rfl⟩
  · cases m <;> exact ⟨rfl, rfl⟩

/-- A turn of the valve changes nothing that R111 reads. -/
theorem Oven.modeInputs_turnTo (o : Oven) (n : Nat) (m : ValveMode) :
    (o.setValve (turnTo n m o.valve).1).modeInputs = o.modeInputs := by
  obtain ⟨manual, pressure⟩ := turnTo_inputs n m o.valve
  simp [Oven.modeInputs, manual, pressure]

/-- PR's evaluation of one oven (R112). -/
def State.valveAct (s : State) (n : Nat) : OvenAct :=
  ⟨(s.oven n).setValve (turnTo n (s.valveMode n) (s.oven n).valve).1, (turnTo n (s.valveMode n) (s.oven n).valve).2, []⟩

theorem State.evalValves_eq {s : State} {ns : List Nat} (h : OvensOf s ns) : s.evalValves ns = s.actAll State.valveAct ns :=
  State.foldl_eq_actAll (act := State.valveAct) (fun _ _ _ => rfl) ns s h

theorem valveAct_local : OvenLocal State.valveAct := by
  intro s t n _ _ context same
  have mode := context.valveMode (n := n) (by rw [same])
  simp only [State.valveAct, same, mode]

theorem State.ovenNumbers_eq (s : State) : s.ovenNumbers = ovensTo s.ovenCount := rfl

theorem ovensOf_ovensTo {s : State} {k : Nat} (h : k ≤ s.ovens.length) : OvensOf s (ovensTo k) where
  once := nodup_ovensTo k
  low _ hn := (mem_ovensTo.mp hn).1
  high _ hn := Nat.le_trans (mem_ovensTo.mp hn).2 h

end Sys2Proof.Machine

/-!
SUPPORT. The coke-minute expiry: what it does to one oven, and the statement about all of them.
-/

namespace Sys2Proof.Machine

/-! ### The step of a phase (R17 to R20) -/

section
variable {o : Oven} {heat : Nat}

theorem Oven.cokeStep_of_coking (h : o.phase = .coking) : o.cokeStep heat = o.addStep (o.heatStep heat) := by
  simp [Oven.cokeStep, h]

theorem Oven.cokeStep_of_soaking (h : o.phase = .soaking) : o.cokeStep heat = o.soakStep := by
  simp [Oven.cokeStep, h]

theorem Oven.cokeStep_of_other (coking : o.phase ≠ .coking) (soaking : o.phase ≠ .soaking) : o.cokeStep heat = o := by
  unfold Oven.cokeStep
  split <;> simp_all

/-- A coke minute's step changes no field but these. -/
theorem Oven.cokeStep_eq (o : Oven) (heat : Nat) : o.cokeStep heat = { o with
    phase := (o.cokeStep heat).phase, progress := (o.cokeStep heat).progress
    soakRemaining := (o.cokeStep heat).soakRemaining } := by
  by_cases coking : o.phase = .coking
  · rw [Oven.cokeStep_of_coking coking, Oven.addStep]
    split <;> rfl
  · by_cases soaking : o.phase = .soaking
    · rw [Oven.cokeStep_of_soaking soaking, Oven.soakStep]
      split <;> rfl
    · rw [Oven.cokeStep_of_other coking soaking]

@[simp] theorem Oven.cokeStep_chargedAt (o : Oven) (heat : Nat) : (o.cokeStep heat).chargedAt = o.chargedAt := by
  rw [Oven.cokeStep_eq]
@[simp] theorem Oven.cokeStep_late (o : Oven) (heat : Nat) : (o.cokeStep heat).late = o.late := by
  rw [Oven.cokeStep_eq]
@[simp] theorem Oven.cokeStep_valve (o : Oven) (heat : Nat) : (o.cokeStep heat).valve = o.valve := by
  rw [Oven.cokeStep_eq]

end

/-! ### One oven's minute (R17 to R21) -/

/-- The lateness check finds the oven newly late after its step (R21). -/
def Oven.newlyLate (o : Oven) (heat limit : Nat) (minute : Word) : Bool :=
  (o.cokeStep heat).turnsLate limit (minute - o.chargedAt)

theorem Oven.newlyLate_iff (o : Oven) (heat limit : Nat) (minute : Word) : o.newlyLate heat limit minute = true ↔
    ((o.cokeStep heat).phase = .soaking ∨ (o.cokeStep heat).phase = .ready) ∧ o.late = false ∧
      limit ≤ (minute - o.chargedAt).toNat := by
  simp [Oven.newlyLate, Oven.turnsLate, and_assoc]

/-- An oven record after its minute but for PR's fields: the step of its phase, then the lateness check. -/
def Oven.afterMinute (o : Oven) (heat limit : Nat) (minute : Word) : Oven :=
  { o.cokeStep heat with late := o.late || o.newlyLate heat limit minute }

/-- The notices of an oven's minute (R20, R21). -/
def Oven.minuteNotices (o : Oven) (n heat limit : Nat) (minute : Word) : List NoticeBody :=
  (if o.phase = .soaking ∧ (o.cokeStep heat).phase = .ready then [NoticeBody.ovenReady n (minute - o.chargedAt)] else []) ++
    (if o.newlyLate heat limit minute then [NoticeBody.ovenLate n (minute - o.chargedAt)] else [])

/-- The valve input of an oven's minute: none where the phase stays (R112). -/
def State.minuteTurn (s : State) (n : Nat) (o : Oven) : Valve × List Outgoing :=
  if o.phase = (s.oven n).phase then (o.valve, []) else turnTo n ((s.setOven n o).valveMode n) o.valve

/-- The record of oven n after the current minute but for PR's fields. -/
def State.minuteOven (s : State) (n : Nat) : Oven :=
  (s.oven n).afterMinute s.cc.heat s.cc.limits.lateLimit s.bk.minutes

def State.minuteAct (s : State) (n : Nat) : OvenAct where
  oven := (s.minuteOven n).setValve (s.minuteTurn n (s.minuteOven n)).1
  commands := (s.minuteTurn n (s.minuteOven n)).2
  notices := (s.oven n).minuteNotices n s.cc.heat s.cc.limits.lateLimit s.bk.minutes

theorem State.setOven_setOven (s : State) (n : Nat) (o o' : Oven) : (s.setOven n o).setOven n o' = s.setOven n o' := by
  simp [State.setOven, State.withOvens]

/-- A record written and its notices raised, then its valve evaluated, are one operation on the oven. -/
theorem State.evalValve_act {s : State} {n : Nat} (place : n - 1 < s.ovens.length) (o : Oven) (bs : List NoticeBody) :
    ((s.setOven n o).raiseAll bs).evalValve n = s.act n ⟨o.setValve (turnTo n ((s.setOven n o).valveMode n) o.valve).1,
      (turnTo n ((s.setOven n o).valveMode n) o.valve).2, bs⟩ := by
  have record : ((s.setOven n o).raiseAll bs).oven n = o := s.oven_setOven_self n o place
  have mode : ((s.setOven n o).raiseAll bs).valveMode n = (s.setOven n o).valveMode n := rfl
  have later (o' : Oven) : ((s.setOven n o).raiseAll bs).setOven n o' = (s.setOven n o').raiseAll bs :=
    congrArg (fun t => State.raiseAll t bs) (s.setOven_setOven n o o')
  simp only [State.evalValve, State.applyValve, record, mode, later, State.act]

theorem State.expireOven_eq {s : State} {n : Nat} (place : n - 1 < s.ovens.length) :
    s.expireOven n = s.act n (s.minuteAct n) := by
  have shape : s.expireOven n =
      let s1 := (s.setOven n (s.minuteOven n)).raiseAll
        ((s.oven n).minuteNotices n s.cc.heat s.cc.limits.lateLimit s.bk.minutes)
      if (s.minuteOven n).phase = (s.oven n).phase then s1 else s1.evalValve n := by
    simp only [State.expireOven, State.minuteOven, Oven.afterMinute, Oven.minuteNotices, Oven.newlyLate,
      Oven.cokeStep_chargedAt, Oven.cokeStep_late]
    rfl
  rw [shape]
  by_cases same : (s.minuteOven n).phase = (s.oven n).phase
  · simp only [if_pos same, State.minuteAct, State.minuteTurn]
    rfl
  · simp only [if_neg same, State.minuteAct, State.minuteTurn]
    exact State.evalValve_act place _ _

theorem minuteAct_local : OvenLocal State.minuteAct := by
  intro s t n hs ht context same
  have cc : t.cc = s.cc := context.1 .cc (by simp)
  have bk : t.bk = s.bk := context.1 .bk (by simp)
  have oven : t.minuteOven n = s.minuteOven n := by simp only [State.minuteOven, same, cc, bk]
  have mode (o : Oven) : (t.setOven n o).valveMode n = (s.setOven n o).valveMode n :=
    State.valveMode_congr (congrArg BatteryClock.mode bk) (context.1 .pu (by simp)) context.2
      (by rw [t.oven_setOven_self n o ht, s.oven_setOven_self n o hs])
  simp only [State.minuteAct, State.minuteTurn, oven, same, mode, cc, bk]

/-! ### All ovens (R16) -/

section
variable {s : State} (shape : ShapeLaw s)
include shape

theorem ovensOf_beginMinute : OvensOf s.beginMinute (ovensTo s.ovenCount) :=
  ovensOf_ovensTo (s := s.beginMinute) (by rw [show s.beginMinute.ovens = s.ovens from rfl, shape.ovens]; exact shape.countHigh)

theorem State.stepMinute_eq_actAll : s.stepMinute = s.beginMinute.actAll State.minuteAct (ovensTo s.ovenCount) :=
  State.foldl_eq_actAll (fun _ _ => State.expireOven_eq) _ _ (ovensOf_beginMinute shape)

theorem State.stepMinute_context : SameContext s.beginMinute s.stepMinute := by
  rw [State.stepMinute_eq_actAll shape]
  exact State.sameContext_actAll _ _ _

theorem State.stepMinute_above {n : Nat} (low : 0 < n) (above : s.ovenCount < n) : s.stepMinute.oven n = s.oven n := by
  rw [State.stepMinute_eq_actAll shape]
  exact State.actAll_oven_of_not_mem low _ _ (ovensOf_beginMinute shape) fun hn => by
    have := (mem_ovensTo.mp hn).2
    omega

theorem State.stepMinute_oven {n : Nat} (low : 0 < n) (high : n ≤ s.ovenCount) :
    s.stepMinute.oven n = (s.beginMinute.minuteAct n).oven := by
  rw [State.stepMinute_eq_actAll shape]
  exact State.actAll_oven minuteAct_local _ _ (ovensOf_beginMinute shape) (mem_ovensTo.mpr ⟨low, high⟩)

end

/-! ### What the minute leaves of one oven -/

theorem Oven.afterMinute_eq (o : Oven) (heat limit : Nat) (minute : Word) : o.afterMinute heat limit minute = { o with
    phase := (o.cokeStep heat).phase, progress := (o.cokeStep heat).progress
    soakRemaining := (o.cokeStep heat).soakRemaining, late := o.late || o.newlyLate heat limit minute } := by
  rw [Oven.afterMinute, Oven.cokeStep_eq]

/-- A COKING oven's step: it goes on, or reaches F and soaks (R18, R19). -/
theorem Oven.cokeStep_coking {o : Oven} {heat : Nat} (h : o.phase = .coking) :
    (16777216 ≤ o.progress + o.heatStep heat →
      (o.cokeStep heat).phase = .soaking ∧ (o.cokeStep heat).progress = 16777216 ∧
        (o.cokeStep heat).soakRemaining = o.activeSoak) ∧
    (o.progress + o.heatStep heat < 16777216 →
      (o.cokeStep heat).phase = .coking ∧ (o.cokeStep heat).progress = o.progress + o.heatStep heat ∧
        (o.cokeStep heat).soakRemaining = o.soakRemaining) := by
  have full : Config.fullProgress = 16777216 := rfl
  rw [Oven.cokeStep_of_coking h, Oven.addStep, full]
  split
  · next reached => exact ⟨fun _ => ⟨rfl, rfl, rfl⟩, fun below => absurd reached (by omega)⟩
  · next below => exact ⟨fun reached => absurd reached below, fun _ => ⟨h, rfl, rfl⟩⟩

/-- A SOAKING oven's step: the soak counts down, and at 0 the oven is READY (R20). -/
theorem Oven.cokeStep_soaking {o : Oven} {heat : Nat} (h : o.phase = .soaking) :
    (o.cokeStep heat).progress = o.progress ∧ (o.cokeStep heat).soakRemaining = o.soakRemaining - 1 ∧
      (o.cokeStep heat).phase = (if o.soakRemaining - 1 = 0 then .ready else .soaking) := by
  rw [Oven.cokeStep_of_soaking h, Oven.soakStep]
  split
  · next last => exact ⟨rfl, last.symm, rfl⟩
  · exact ⟨rfl, rfl, h⟩

section
variable {s : State} {n : Nat} (shape : ShapeLaw s) (low : 0 < n) (high : n ≤ s.ovenCount)
include shape low high

theorem minuteOven_place : n - 1 < s.beginMinute.ovens.length := by
  have count := shape.countHigh
  have size : s.beginMinute.ovens.length = Config.maxOvens := shape.ovens
  omega

/-- The mode that a minute's valve input gives is the mode as evaluated after the minute (R111, R112). -/
theorem State.stepMinute_valveMode :
    (s.beginMinute.setOven n (s.beginMinute.minuteOven n)).valveMode n = s.stepMinute.valveMode n := by
  have context := State.stepMinute_context shape
  have written : (s.beginMinute.setOven n (s.beginMinute.minuteOven n)).oven n = s.beginMinute.minuteOven n :=
    State.oven_setOven_self _ _ _ (minuteOven_place shape low high)
  refine (State.valveMode_congr (s := s.beginMinute.setOven n _) (congrArg BatteryClock.mode (context.1 .bk (by simp)))
    (context.1 .pu (by simp)) context.2 ?_).symm
  rw [written, State.stepMinute_oven shape low high]
  simp only [State.minuteAct, State.minuteTurn]
  split
  · rfl
  · exact Oven.modeInputs_turnTo _ _ _

/-- The valve input of oven n in the minute: none where its phase stays. -/
theorem State.minuteTurn_eq : s.beginMinute.minuteTurn n (s.beginMinute.minuteOven n) =
    if (s.stepMinute.oven n).phase = (s.oven n).phase then ((s.oven n).valve, [])
    else turnTo n (s.stepMinute.valveMode n) (s.oven n).valve := by
  have valve : (s.beginMinute.minuteOven n).valve = (s.oven n).valve := Oven.cokeStep_valve _ _
  have phase : (s.stepMinute.oven n).phase = (s.beginMinute.minuteOven n).phase := by
    rw [State.stepMinute_oven shape low high]; rfl
  rw [State.minuteTurn, State.stepMinute_valveMode shape low high, valve, phase]
  rfl

/-- Each field of an oven's record after the minute that a coke minute may change. -/
theorem State.stepMinute_fields :
    (s.stepMinute.oven n).phase = ((s.oven n).cokeStep s.cc.heat).phase ∧
    (s.stepMinute.oven n).progress = ((s.oven n).cokeStep s.cc.heat).progress ∧
    (s.stepMinute.oven n).soakRemaining = ((s.oven n).cokeStep s.cc.heat).soakRemaining ∧
    (s.stepMinute.oven n).late =
      ((s.oven n).late || (s.oven n).newlyLate s.cc.heat s.cc.limits.lateLimit (s.bk.minutes + 1)) := by
  rw [State.stepMinute_oven shape low high]
  exact ⟨rfl, rfl, rfl, rfl⟩

/-- The record of an oven 1 to N after the minute: no other field changes. -/
theorem State.stepMinute_record : s.stepMinute.oven n = { s.oven n with
    phase := (s.stepMinute.oven n).phase, progress := (s.stepMinute.oven n).progress
    soakRemaining := (s.stepMinute.oven n).soakRemaining, late := (s.stepMinute.oven n).late
    valve := if (s.stepMinute.oven n).phase = (s.oven n).phase then (s.oven n).valve
      else (turnTo n (s.stepMinute.valveMode n) (s.oven n).valve).1 } := by
  obtain ⟨phase, progress, soak, late⟩ := State.stepMinute_fields shape low high
  have turn := congrArg Prod.fst (State.minuteTurn_eq shape low high)
  rw [apply_ite Prod.fst] at turn
  have record : s.stepMinute.oven n =
      ((s.oven n).afterMinute s.cc.heat s.cc.limits.lateLimit (s.bk.minutes + 1)).setValve
        (s.beginMinute.minuteTurn n (s.beginMinute.minuteOven n)).1 := State.stepMinute_oven shape low high
  rw [turn, Oven.afterMinute_eq, ← phase, ← progress, ← soak, ← late] at record
  exact record

/-- An oven is late after the minute if it was, or if it soaks or is READY past the limit (R21). -/
theorem State.stepMinute_late_iff : (s.stepMinute.oven n).late = true ↔ (s.oven n).late = true ∨
    (((s.stepMinute.oven n).phase = .soaking ∨ (s.stepMinute.oven n).phase = .ready) ∧
      s.cc.limits.lateLimit ≤ (s.bk.minutes + 1 - (s.oven n).chargedAt).toNat) := by
  obtain ⟨phase, _, _, late⟩ := State.stepMinute_fields shape low high
  rw [late, phase, Bool.or_eq_true, Oven.newlyLate_iff]
  cases (s.oven n).late <;> simp

theorem State.minute_commands : (s.beginMinute.minuteAct n).commands =
    if (s.stepMinute.oven n).phase = (s.oven n).phase then []
    else (turnTo n (s.stepMinute.valveMode n) (s.oven n).valve).2 := by
  have turn := congrArg Prod.snd (State.minuteTurn_eq shape low high)
  rwa [apply_ite Prod.snd] at turn

theorem State.minute_notices : (s.beginMinute.minuteAct n).notices =
    (if (s.oven n).phase = .soaking ∧ (s.stepMinute.oven n).phase = .ready
      then [.ovenReady n (s.bk.minutes + 1 - (s.oven n).chargedAt)] else []) ++
    (if (s.oven n).late = false ∧ (s.stepMinute.oven n).late = true
      then [.ovenLate n (s.bk.minutes + 1 - (s.oven n).chargedAt)] else []) := by
  obtain ⟨phase, _, _, late⟩ := State.stepMinute_fields shape low high
  have newly : (s.oven n).newlyLate s.cc.heat s.cc.limits.lateLimit (s.bk.minutes + 1) = true ↔
      (s.oven n).late = false ∧ (s.stepMinute.oven n).late = true := by
    rw [late]
    constructor
    · intro h
      exact ⟨((Oven.newlyLate_iff _ _ _ _).mp h).2.1, by rw [h, Bool.or_true]⟩
    · rintro ⟨before, after⟩
      simpa [before] using after
  simp only [phase, ← newly]
  rfl

end

/-! ### The statement -/

theorem cokeMinuteExpiry_of_due {s : State} (run : s.bk.mode = .run) (due : 0 < s.cc.minutesDue) :
    cokeMinuteExpiry s = s.stepMinute.evaluate := by
  simp [cokeMinuteExpiry, State.running, run, due]

theorem cokeMinuteExpiry_of_idle {s : State} (h : s.bk.mode = .config ∨ s.cc.minutesDue = 0) : cokeMinuteExpiry s = s := by
  rcases h with h | h <;> simp [cokeMinuteExpiry, State.running, h]

/-- Outside AUTO candidate evaluation does nothing (R48). -/
theorem State.evaluate_of_not_auto {s : State} (h : s.su.mode ≠ .auto) : s.evaluate = s := by
  have idle : s.mayEvaluate = false := by
    rw [Bool.eq_false_iff]
    exact fun may => h (s.mayEvaluate_iff.mp may).2.1
  simp [State.evaluate, idle]

/-- A coke minute touches CC, BK, the ovens and the two links. -/
theorem State.keeps_stepMinute {s : State} (shape : ShapeLaw s) : Keeps [.ovens, .cc, .bk, .fl, .sl] s s.stepMinute := by
  have begun : Keeps [.cc, .bk] s s.beginMinute := by
    intro b hb
    cases b with
    | cc | bk => simp at hb
    | _ => rfl
  exact (begun.mono (by simp)).trans ((State.stepMinute_context shape).1.mono (by simp))

theorem ShapeLaw.passed {s : State} (shape : ShapeLaw s) (c : Instr) : ShapeLaw (s.passed c) :=
  ⟨shape.ovens, shape.countLow, shape.countHigh, shape.nodes, shape.bays, shape.zones, shape.active, shape.shadow⟩

/-- The commands and notices of a coke minute, with room for them. -/
theorem State.stepMinute_links {s : State} (shape : ShapeLaw s) :
    let commands := (ovensTo s.ovenCount).flatMap fun n => (s.beginMinute.minuteAct n).commands
    let notices := (ovensTo s.ovenCount).flatMap fun n => (s.beginMinute.minuteAct n).notices
    s.FieldRoom commands.length → s.NoticeRoom notices.length → s.NoticesWait →
      Issued s s.stepMinute commands ∧ NoticesOnly s s.stepMinute notices := by
  intro commands notices field room wait
  obtain ⟨issued, sl⟩ := State.actAll_links minuteAct_local _ _ (ovensOf_beginMinute shape) field
  rw [← State.stepMinute_eq_actAll shape] at issued sl
  exact ⟨issued, sl.trans (State.raiseAll_noticesOnly notices s.beginMinute room wait)⟩

/-- Settles O25: each oven by `minuteAct`, all of them by `actAll`. -/
theorem cokeMinuteStepsEveryOven : Obligations.CokeMinuteStepsEveryOven := by
  refine ⟨fun s shape out run due => ?_, fun s out idle => ?_⟩
  · have taken : exec .cokeMinuteExpiry s = .next (cokeMinuteExpiry (s.passed .cokeMinuteExpiry)) := s.event_of_run _ _ out
    have shape' := shape.passed .cokeMinuteExpiry
    have context := State.stepMinute_context shape'
    have keeps := State.keeps_stepMinute shape'
    have su : (s.passed .cokeMinuteExpiry).stepMinute.su = s.su := keeps .su (by simp)
    rw [cokeMinuteExpiry_of_due (s := s.passed _) run due] at taken
    refine ⟨_, taken, _, rfl, fun mode => State.evaluate_of_not_auto (by rw [su]; exact mode),
      ⟨((s.keeps_withDue _).mono (by simp)).trans (keeps.mono (by simp)), keeps .due (by simp)⟩, context.1 .cc (by simp),
      context.1 .bk (by simp), fun n hn low => ⟨fun above => State.stepMinute_above shape' low above, fun high => ?oven⟩, ?links⟩
    case oven =>
      rintro h rfl r rfl
      obtain ⟨phase, progress, soak, _⟩ := State.stepMinute_fields shape' low high
      refine ⟨State.stepMinute_record shape' low high, fun coking => ?_, fun soaking => ?_, fun coking soaking => ?_,
        State.stepMinute_late_iff shape' low high⟩
      · rw [phase, progress, soak]
        exact Oven.cokeStep_coking coking
      · rw [phase, progress, soak]
        exact Oven.cokeStep_soaking soaking
      · rw [phase, progress, soak, Oven.cokeStep_of_other (o := (s.passed _).oven n) coking soaking]
        exact ⟨rfl, rfl, rfl⟩
    case links =>
      rintro ovens rfl cs rfl bs rfl field room wait
      have range {n : Nat} (hn : n ∈ ovensTo s.ovenCount) : 0 < n ∧ n ≤ s.ovenCount := mem_ovensTo.mp hn
      have links := State.stepMinute_links shape'
      have commands := List.flatMap_congr fun n (hn : n ∈ ovensTo s.ovenCount) =>
        State.minute_commands shape' (range hn).1 (range hn).2
      have notices := List.flatMap_congr fun n (hn : n ∈ ovensTo s.ovenCount) =>
        State.minute_notices shape' (range hn).1 (range hn).2
      dsimp only at links
      rw [show (s.passed .cokeMinuteExpiry).ovenCount = s.ovenCount from rfl, commands, notices] at links
      exact links field room wait
  · exact (s.event_of_run _ _ out).trans (congrArg Host.Outcome.next (cokeMinuteExpiry_of_idle (s := s.passed _) idle))

end Sys2Proof.Machine

/-!
SUPPORT. START and STOP: their checks, the doors and the valves one oven after another, the main, and the statement.
-/

namespace Sys2Proof.Machine

/-! ### The doors at START (R104) -/

theorem State.setOven_oven_self (s : State) (n : Nat) : s.setOven n (s.oven n) = s := by
  have same : s.ovens.set (n - 1) (s.oven n) = s.ovens := by
    refine List.ext_getElem? fun i => ?_
    by_cases h : n - 1 = i
    · subst h
      by_cases hl : n - 1 < s.ovens.length
      · simp [State.oven, hl]
      · simp [hl]
    · rw [List.getElem?_set_ne h]
  simp only [State.setOven, State.withOvens, same]

/-- One door at START: an OFF door has its timer loaded, and is unexpected where R104 finds it so. -/
def Oven.startDoor (o : Oven) (limit : Nat) (x : Side) : Oven :=
  if (o.door x).state = .off then o.setDoor x { o.door x with
    doorOffTimer := some limit, unexpected := (o.door x).unexpected || o.unaccounted x }
  else o

def unaccountedNotice (o : Oven) (n : Nat) (x : Side) : List NoticeBody :=
  if o.unaccounted x then [.doorUnexpected n x] else []

theorem State.startDoor_eq (s : State) (n : Nat) (x : Side) :
    s.startDoor n x = s.act n ⟨(s.oven n).startDoor s.du.doorOffLimit x, [], unaccountedNotice (s.oven n) n x⟩ := by
  have quiet (t : State) : t.raiseAll [] = t := rfl
  simp only [State.startDoor, State.act, Oven.startDoor, unaccountedNotice, State.issueAll_nil]
  by_cases off : ((s.oven n).door x).state = .off
  · by_cases found : (s.oven n).unaccounted x = true
    · simp [off, found]
      rfl
    · simp [off, found, quiet]
  · have accounted : (s.oven n).unaccounted x = false := by simp [Oven.unaccounted, off]
    simp [off, accounted, quiet, s.setOven_oven_self]

/-- Both doors of one oven at START. -/
def Oven.startDoors (o : Oven) (limit : Nat) : Oven := (o.startDoor limit .p).startDoor limit .c

def State.startDoorsAct (s : State) (n : Nat) : OvenAct where
  oven := (s.oven n).startDoors s.du.doorOffLimit
  commands := []
  notices := unaccountedNotice (s.oven n) n .p ++ unaccountedNotice (s.oven n) n .c

/-- The doors of one oven do not read each other. -/
theorem Oven.startDoor_other (o : Oven) (limit : Nat) {x y : Side} (h : y ≠ x) :
    (o.startDoor limit x).door y = o.door y ∧ (o.startDoor limit x).unaccounted y = o.unaccounted y := by
  unfold Oven.startDoor
  split
  · simp [Oven.unaccounted, Oven.setDoor_other o x y _ h]
  · exact ⟨rfl, rfl⟩

theorem State.startDoors_step {s : State} {n : Nat} (place : n - 1 < s.ovens.length) :
    (s.startDoor n .p).startDoor n .c = s.act n (s.startDoorsAct n) := by
  rw [s.startDoor_eq, State.startDoor_eq, State.act_oven_self place]
  simp only [State.act, State.issueAll_nil, State.startDoorsAct, unaccountedNotice,
    ((s.oven n).startDoor_other _ (by decide : Side.c ≠ Side.p)).2]
  rw [← State.raiseAll_append]
  exact congrArg (fun t => State.raiseAll (State.raiseAll t _) _) (s.setOven_setOven n _ _)

theorem startDoorsAct_local : OvenLocal State.startDoorsAct := by
  intro s t n _ _ context same
  have du : t.du = s.du := context.1 .du (by simp)
  simp only [State.startDoorsAct, same, du]

theorem State.startDoors_eq {s : State} (high : s.ovenCount ≤ s.ovens.length) :
    s.startDoors = s.actAll State.startDoorsAct (ovensTo s.ovenCount) :=
  State.foldl_eq_actAll (fun _ _ => State.startDoors_step) _ _ (ovensOf_ovensTo high)

/-- What START leaves of an oven record but for the doors, and of each door (R104). -/
theorem Oven.startDoor_door (o : Oven) (limit : Nat) (x : Side) : (o.startDoor limit x).door x =
    if (o.door x).state = .off then { o.door x with
      doorOffTimer := some limit
      unexpected := (o.door x).unexpected || (o.phase != .empty && !(o.door x).permit) }
    else o.door x := by
  unfold Oven.startDoor
  split
  · next off => simp [Oven.unaccounted, off]
  · rfl

theorem Oven.startDoor_eq (o : Oven) (limit : Nat) (x : Side) : o.startDoor limit x = { o with
    doorP := (o.startDoor limit x).doorP, doorC := (o.startDoor limit x).doorC } := by
  unfold Oven.startDoor
  split
  · cases x <;> rfl
  · rfl

theorem Oven.startDoors_eq (o : Oven) (limit : Nat) : o.startDoors limit = { o with
    doorP := (o.startDoors limit).doorP, doorC := (o.startDoors limit).doorC } := by
  have first := o.startDoor_eq limit .p
  have second := (o.startDoor limit .p).startDoor_eq limit .c
  rw [Oven.startDoors]
  generalize (o.startDoor limit .p).startDoor limit .c = o'' at second ⊢
  rw [second, first]

/-- Each door of an oven as START leaves it. -/
theorem Oven.startDoors_door (o : Oven) (limit : Nat) (x : Side) : (o.startDoors limit).door x =
    if (o.door x).state = .off then { o.door x with
      doorOffTimer := some limit
      unexpected := (o.door x).unexpected || (o.phase != .empty && !(o.door x).permit) }
    else o.door x := by
  have phase : (o.startDoor limit .p).phase = o.phase := by rw [o.startDoor_eq limit .p]
  rw [Oven.startDoors]
  cases x with
  | p => rw [(Oven.startDoor_other _ _ (by decide : Side.p ≠ Side.c)).1, Oven.startDoor_door]
  | c => rw [Oven.startDoor_door, phase, (Oven.startDoor_other _ _ (by decide : Side.c ≠ Side.p)).1]

/-! ### How many doors are unaccounted for (R214) -/

theorem Oven.unaccounted_notices (o : Oven) (n : Nat) : unaccountedNotice o n .p ++ unaccountedNotice o n .c =
    ([Side.p, Side.c].filter o.unaccounted).map (NoticeBody.doorUnexpected n) := by
  unfold unaccountedNotice
  cases p : o.unaccounted .p <;> cases c : o.unaccounted .c <;> simp [p, c]

theorem Oven.unaccounted_count (o : Oven) :
    boolCode (o.unaccounted .p) + boolCode (o.unaccounted .c) = ([Side.p, Side.c].filter o.unaccounted).length := by
  cases p : o.unaccounted .p <;> cases c : o.unaccounted .c <;> simp [p, c, boolCode]

theorem State.inUse_eq {s : State} (high : s.ovenCount ≤ s.ovens.length) :
    s.inUse = (List.range s.ovenCount).map fun i => (s.oven (i + 1), i + 1) := by
  refine List.ext_getElem (by simp [State.inUse, high]) fun i hi _ => ?_
  have place : i < s.ovens.length := by
    simp only [State.inUse, List.length_zipIdx, List.length_take] at hi
    omega
  simp [State.inUse, State.oven, place, Nat.add_comm 1 i]

theorem State.unaccountedDoors_eq {s : State} (high : s.ovenCount ≤ s.ovens.length) : s.unaccountedDoors =
    ((List.range s.ovenCount).map fun i => ([Side.p, Side.c].filter (s.oven (i + 1)).unaccounted).length).sum := by
  rw [State.unaccountedDoors, State.inUse_eq high, List.map_map]
  exact congrArg List.sum (List.map_congr_left fun i _ => (s.oven (i + 1)).unaccounted_count)

/-! ### Operations on ovens leave the request in service -/

theorem State.raiseAll_inService (bs : List NoticeBody) : ∀ s : State, (s.raiseAll bs).sl.inService = s.sl.inService := by
  induction bs with
  | nil => exact fun _ => rfl
  | cons b bs ih => exact fun s => (ih (s.raise b)).trans (SupLink.raise_inService _ _ _)

theorem State.actAll_inService (act : State → Nat → OvenAct) (ns : List Nat) :
    ∀ s : State, (s.actAll act ns).sl.inService = s.sl.inService := by
  induction ns with
  | nil => exact fun _ => rfl
  | cons n ns ih =>
    intro s
    refine (ih (s.act n (act s n))).trans ?_
    rw [State.act, State.issueAll_inService, State.raiseAll_inService]
    rfl

end Sys2Proof.Machine

/-!
SUPPORT. Every valve mode and the main mode evaluated (R112, R130), as START and STOP do (R119).
-/

namespace Sys2Proof.Machine

/-! ### The main (R130) -/

/-- The main record after an evaluation that gives mode m. -/
def MainRecord.turned (r : MainRecord) (m : ValveMode) : MainRecord :=
  if m = r.mode then r
  else if m = .manual then { r with mode := .manual, command := r.manualPosition }
  else { r with mode := m }

/-- The commands of that evaluation: entry to MANUAL alone sends one. -/
def MainRecord.turnCommands (r : MainRecord) (m : ValveMode) : List Outgoing :=
  if m = .manual ∧ r.mode ≠ .manual then [⟨.main, .mainValve r.manualPosition⟩] else []

theorem State.turnMain_eq (s : State) (m : ValveMode) :
    s.turnMain m = (s.withMain (s.pr.main.turned m)).issueAll (s.pr.main.turnCommands m) := by
  unfold State.turnMain MainRecord.turned MainRecord.turnCommands
  by_cases same : m = s.pr.main.mode
  · subst same
    simp [State.withMain, State.withPr]
  · by_cases manual : m = .manual
    · subst manual
      simp [same, Ne.symm same, State.sendMainManual, State.issue]
    · simp [same, manual]

theorem MainRecord.turned_inputs (r : MainRecord) (m : ValveMode) :
    (r.turned m).manualFlag = r.manualFlag ∧ (r.turned m).pressure = r.pressure := by
  unfold MainRecord.turned
  split
  · exact ⟨rfl, rfl⟩
  · split <;> exact ⟨rfl, rfl⟩

/-! ### All valves and the main -/

/-- Every valve of ovens 1 to N, then the main. -/
def State.evalModes (s : State) : State := (s.evalValves s.ovenNumbers).evalMain

/-- The commands of entry of the ovens in order, then that of the main. -/
def State.entryCommands (s : State) : List Outgoing :=
  ((ovensTo s.ovenCount).flatMap fun n => (turnTo n (s.valveMode n) (s.oven n).valve).2) ++
    s.pr.main.turnCommands s.mainMode

section
variable {s : State} (high : s.ovenCount ≤ s.ovens.length)
include high

theorem State.evalValves_context : SameContext s (s.evalValves s.ovenNumbers) := by
  rw [s.ovenNumbers_eq, State.evalValves_eq (ovensOf_ovensTo high)]
  exact State.sameContext_actAll _ _ _

theorem State.keeps_evalModes : Keeps [.ovens, .pr, .fl, .sl] s s.evalModes := by
  refine ((State.evalValves_context high).1.mono (by simp)).trans (t := s.evalValves s.ovenNumbers) fun b hb => ?_
  cases b with
  | ovens | pr | fl | sl => simp at hb
  | _ => simp [Block.Same, State.evalModes]

theorem State.evalModes_nodes : s.evalModes.fl.nodes = s.fl.nodes := by
  refine Eq.trans ?_ (State.evalValves_context high).2
  rw [State.evalModes, State.evalMain, State.turnMain_eq, State.issueAll_nodes]
  rfl

theorem State.evalModes_oven_above {n : Nat} (low : 0 < n) (above : s.ovenCount < n) : s.evalModes.oven n = s.oven n := by
  have ovens : s.evalModes.oven n = (s.evalValves s.ovenNumbers).oven n := by simp [State.evalModes, State.oven]
  rw [ovens, s.ovenNumbers_eq, State.evalValves_eq (ovensOf_ovensTo high)]
  exact State.actAll_oven_of_not_mem low _ _ (ovensOf_ovensTo high) fun hn => by
    have := (mem_ovensTo.mp hn).2
    omega

theorem State.evalModes_oven {n : Nat} (low : 0 < n) (within : n ≤ s.ovenCount) :
    s.evalModes.oven n = (s.oven n).setValve (turnTo n (s.valveMode n) (s.oven n).valve).1 := by
  have ovens : s.evalModes.oven n = (s.evalValves s.ovenNumbers).oven n := by simp [State.evalModes, State.oven]
  rw [ovens, s.ovenNumbers_eq, State.evalValves_eq (ovensOf_ovensTo high)]
  exact State.actAll_oven valveAct_local _ _ (ovensOf_ovensTo high) (mem_ovensTo.mpr ⟨low, within⟩)

/-- The evaluation changes nothing that R111 reads. -/
theorem State.evalModes_valveMode {n : Nat} (low : 0 < n) (within : n ≤ s.ovenCount) :
    s.evalModes.valveMode n = s.valveMode n := by
  have keeps := State.keeps_evalModes high
  refine State.valveMode_congr (congrArg BatteryClock.mode (keeps .bk (by simp))) (keeps .pu (by simp))
    (State.evalModes_nodes high) ?_
  rw [State.evalModes_oven high low within]
  exact Oven.modeInputs_turnTo _ _ _

theorem State.evalValves_mainMode : (s.evalValves s.ovenNumbers).mainMode = s.mainMode := by
  have context := State.evalValves_context high
  have live : (s.evalValves s.ovenNumbers).live .main = s.live .main := by simp [State.live, FieldLink.entry, context.2]
  have pr : (s.evalValves s.ovenNumbers).pr = s.pr := context.1 .pr (by simp)
  have bk : (s.evalValves s.ovenNumbers).bk = s.bk := context.1 .bk (by simp)
  simp only [State.mainMode, State.mainModeBy, live, pr, bk]

theorem State.evalModes_eq : s.evalModes = ((s.evalValves s.ovenNumbers).withMain (s.pr.main.turned s.mainMode)).issueAll
    (s.pr.main.turnCommands s.mainMode) := by
  have pr : (s.evalValves s.ovenNumbers).pr = s.pr := (State.evalValves_context high).1 .pr (by simp)
  rw [State.evalModes, State.evalMain, State.turnMain_eq, State.evalValves_mainMode high, pr]

theorem State.evalModes_pr : s.evalModes.pr = { s.pr with main := s.pr.main.turned s.mainMode } := by
  have pr : (s.evalValves s.ovenNumbers).pr = s.pr := (State.evalValves_context high).1 .pr (by simp)
  rw [State.evalModes_eq high, State.issueAll_pr]
  simp only [State.withMain, State.withPr, pr]

/-- The evaluation changes nothing that R130 reads. -/
theorem State.evalModes_mainMode : s.evalModes.mainMode = s.mainMode := by
  obtain ⟨manual, pressure⟩ := s.pr.main.turned_inputs s.mainMode
  have live : s.evalModes.live .main = s.live .main := by simp [State.live, FieldLink.entry, State.evalModes_nodes high]
  have bk : s.evalModes.bk = s.bk := State.keeps_evalModes high .bk (by simp)
  simp only [State.mainMode, State.mainModeBy, live, State.evalModes_pr high, bk] at manual pressure ⊢
  simp only [manual, pressure]

/-- With room for them, the commands of entry are issued, and no notice is raised. -/
theorem State.evalModes_links (room : s.FieldRoom s.entryCommands.length) :
    Issued s s.evalModes s.entryCommands ∧ s.evalModes.sl = s.sl := by
  have valveRoom : s.FieldRoom ((ovensTo s.ovenCount).flatMap fun n => (s.valveAct n).commands).length :=
    Nat.le_trans (Nat.add_le_add_left (by rw [State.entryCommands, List.length_append]; exact Nat.le_add_right _ _) _) room
  obtain ⟨valves, sl⟩ := State.actAll_links valveAct_local _ s (ovensOf_ovensTo high) valveRoom
  have quiet : ((ovensTo s.ovenCount).flatMap fun n => (s.valveAct n).notices) = [] := by simp [State.valveAct]
  rw [quiet] at sl
  rw [← State.evalValves_eq (ovensOf_ovensTo high), ← s.ovenNumbers_eq] at valves sl
  obtain ⟨main, sl'⟩ := State.issueAll_of_room ((s.evalValves s.ovenNumbers).withMain (s.pr.main.turned s.mainMode))
    (s.pr.main.turnCommands s.mainMode) (by
      have queue : ((s.evalValves s.ovenNumbers).withMain (s.pr.main.turned s.mainMode)).fl.queue = s.fl.queue ++ _ := valves.1
      rw [State.FieldRoom, queue, List.length_append, Nat.add_assoc, ← List.length_append]
      exact room)
  rw [State.evalModes_eq high]
  exact ⟨valves.trans main, sl'.trans sl⟩

theorem State.evalModes_inService : s.evalModes.sl.inService = s.sl.inService := by
  rw [State.evalModes_eq high, State.issueAll_inService]
  refine Eq.trans ?_ (State.actAll_inService State.valveAct (ovensTo s.ovenCount) s)
  rw [← State.evalValves_eq (ovensOf_ovensTo high)]
  rfl

end

end Sys2Proof.Machine

/-!
SUPPORT. START and STOP: their checks, what each leaves, and the statement.
-/

namespace Sys2Proof.Machine

/-! ### What stands after the reply -/

section
variable {s t u : State} {c : Instr} {f : Frame} {owner : State → Answer}

theorem State.afterRequest_notices :
    (s.afterRequest c f owner).sl.notices = (owner (s.taking c f)).state.sl.notices := by
  rw [State.afterRequest, serve_eq, State.withSl_sl, SupLink.answer_eq]

theorem Keeps.oven_eq (h : Keeps [.sl] s t) (n : Nat) : t.oven n = s.oven n := by
  simp only [State.oven, show t.ovens = s.ovens from h .ovens (by simp)]

theorem Keeps.valveMode_eq (h : Keeps [.sl] s t) (n : Nat) : t.valveMode n = s.valveMode n :=
  State.valveMode_congr (congrArg BatteryClock.mode (h .bk (by simp))) (h .pu (by simp))
    (congrArg FieldLink.nodes (h .fl (by simp))) (by rw [h.oven_eq])

theorem Keeps.mainMode_eq (h : Keeps [.sl] s t) : t.mainMode = s.mainMode := by
  have fl : t.fl = s.fl := h .fl (by simp)
  have pr : t.pr = s.pr := h .pr (by simp)
  have bk : t.bk = s.bk := h .bk (by simp)
  have live : t.live .main = s.live .main := by simp only [State.live, fl]
  simp only [State.mainMode, State.mainModeBy, live, pr, bk]

end

/-! ### STOP: its checks and its state (R215) -/

/-- The part in CONFIG with the schedule stopped, before the modes are evaluated. -/
def State.stopped (s : State) : State :=
  ((s.withCc s.cc.dropDue).withBk { s.bk with mode := .config }).withSu s.su.stop

theorem State.enterConfig_eq (s : State) : s.enterConfig = s.stopped.evalModes := rfl

theorem State.anyLoad_iff (s : State) : s.anyLoad = true ↔ (s.car .one).load ≠ none ∨ (s.car .two).load ≠ none := by
  simp [State.anyLoad, allCars, Option.isSome_iff_ne_none]

theorem stop_eq {s : State} {x : Status} (h : x = (if s.bk.mode = .config then .wrongMode
    else if s.pu.push ≠ none ∨ s.pu.stall ≠ none ∨ (s.car .one).load ≠ none ∨ (s.car .two).load ≠ none then .busy
    else .ok)) : stop s = if x = .ok then s.enterConfig.reply [byteOf s.su.listed] else s.refuse x := by
  have busy : (s.pushing || s.anyLoad) = true ↔
      s.pu.push ≠ none ∨ s.pu.stall ≠ none ∨ (s.car .one).load ≠ none ∨ (s.car .two).load ≠ none := by
    rw [Bool.or_eq_true, s.pushing_iff, s.anyLoad_iff, or_assoc]
  have config : (!s.running) = true ↔ s.bk.mode = .config := by
    cases mode : s.bk.mode <;> simp [State.running, mode]
  subst h
  simp only [stop, busy, config]
  split_ifs <;> simp_all

/-- In CONFIG, with no push and no stall, a valve is in MANUAL or in HOLD (R111). -/
theorem State.stopped_valveMode {s : State} (law : PushLaw s) (push : s.pu.push = none) (stall : s.pu.stall = none) {n : Nat}
    (low : 0 < n) (high : n < 97) :
    s.stopped.valveMode n = if (s.oven n).valve.manualFlag then .manual else .hold := by
  have notPushing : (s.oven n).phase ≠ .pushing := fun phase => by
    obtain ⟨r, present, _⟩ := law.onlyPushed n high low phase
    simp [push] at present
  have notStalled : (s.oven n).phase ≠ .stalled := fun phase => by
    obtain ⟨r, present, _⟩ := law.onlyStalled n high low phase
    simp [stall] at present
  have oven : s.stopped.oven n = s.oven n := rfl
  have config : s.stopped.bk.mode = .config := rfl
  simp [State.valveMode, State.valveModeBy, oven, config, notPushing, notStalled]

theorem State.stopped_mainMode (s : State) : s.stopped.mainMode = if s.pr.main.manualFlag then .manual else .hold := by
  have pr : s.stopped.pr = s.pr := rfl
  have config : s.stopped.bk.mode = .config := rfl
  simp [State.mainMode, State.mainModeBy, pr, config]

theorem MainRecord.turned_stopped (r : MainRecord) : r.turned (if r.manualFlag then .manual else .hold) =
    if r.manualFlag = false then { r with mode := .hold }
    else if r.mode = .manual then r
    else { r with mode := .manual, command := r.manualPosition } := by
  cases r
  simp only [MainRecord.turned]
  split_ifs <;> simp_all

theorem MainRecord.turnCommands_stopped (r : MainRecord) : r.turnCommands (if r.manualFlag then .manual else .hold) =
    if r.manualFlag = true ∧ r.mode ≠ .manual then [⟨.main, .mainValve r.manualPosition⟩] else [] := by
  cases flag : r.manualFlag <;> simp [MainRecord.turnCommands]

/-- Evaluating every mode on a state that differs from the request's in CC, BK and SU leaves START's and STOP's frame. -/
theorem State.frameOf_evalModes {s v : State} {c : Instr} {f : Frame} {owner : State → Answer} {fields : List Byte}
    (h : owner (s.taking c f) = v.evalModes.reply fields) (high : v.ovenCount ≤ v.ovens.length)
    (before : Keeps [.ovens, .cc, .su, .fl, .sl, .bk] (s.taking c f) v) :
    FrameOf c [.ovens, .cc, .su, .pr, .fl, .sl, .bk] s (s.afterRequest c f owner) := by
  refine frameOf_serve c f owner s ?_ (by simp) (by simp)
  rw [h]
  exact (before.mono (by simp)).trans ((State.keeps_evalModes high).mono (by simp))

theorem State.keeps_stopped (s : State) : Keeps [.cc, .su, .bk] s s.stopped := by
  intro b hb
  cases b with
  | cc | su | bk => simp at hb
  | _ => rfl

end Sys2Proof.Machine

/-!
SUPPORT. What stands after a reply whose request has evaluated every mode, and the commands of STOP (R215).
-/

namespace Sys2Proof.Machine

/-! ### The modes evaluated, as they stand after the reply -/

section
variable {s v : State} {c : Instr} {f : Frame} {owner : State → Answer} {fields : List Byte}
  (h : owner (s.taking c f) = v.evalModes.reply fields) (high : v.ovenCount ≤ v.ovens.length)
include h

theorem State.keeps_afterModes : Keeps [.sl] v.evalModes (s.afterRequest c f owner) := by
  have keeps := s.keeps_afterRequest c f owner
  rwa [h] at keeps

include high

theorem State.afterModes_bk : (s.afterRequest c f owner).bk = v.bk :=
  Eq.trans (State.keeps_afterModes h .bk (by simp)) (State.keeps_evalModes high .bk (by simp))

theorem State.afterModes_cc : (s.afterRequest c f owner).cc = v.cc :=
  Eq.trans (State.keeps_afterModes h .cc (by simp)) (State.keeps_evalModes high .cc (by simp))

theorem State.afterModes_su : (s.afterRequest c f owner).su = v.su :=
  Eq.trans (State.keeps_afterModes h .su (by simp)) (State.keeps_evalModes high .su (by simp))

theorem State.afterModes_pr :
    (s.afterRequest c f owner).pr = { v.pr with main := v.pr.main.turned v.mainMode } :=
  Eq.trans (State.keeps_afterModes h .pr (by simp)) (State.evalModes_pr high)

theorem State.afterModes_mainMode : (s.afterRequest c f owner).mainMode = v.mainMode :=
  (State.keeps_afterModes h).mainMode_eq.trans (State.evalModes_mainMode high)

theorem State.afterModes_above {n : Nat} (low : 0 < n) (above : v.ovenCount < n) :
    (s.afterRequest c f owner).oven n = v.oven n :=
  ((State.keeps_afterModes h).oven_eq n).trans (State.evalModes_oven_above high low above)

theorem State.afterModes_oven {n : Nat} (low : 0 < n) (within : n ≤ v.ovenCount) :
    (s.afterRequest c f owner).oven n = (v.oven n).setValve (turnTo n (v.valveMode n) (v.oven n).valve).1 :=
  ((State.keeps_afterModes h).oven_eq n).trans (State.evalModes_oven high low within)

theorem State.afterModes_valveMode {n : Nat} (low : 0 < n) (within : n ≤ v.ovenCount) :
    (s.afterRequest c f owner).valveMode n = v.valveMode n :=
  ((State.keeps_afterModes h).valveMode_eq n).trans (State.evalModes_valveMode high low within)

/-- With room for the commands of entry, they are issued and no notice is raised after those that stand already. -/
theorem State.afterModes_links (room : v.FieldRoom v.entryCommands.length) :
    Issued v (s.afterRequest c f owner) v.entryCommands ∧ (s.afterRequest c f owner).sl.notices = v.sl.notices := by
  obtain ⟨issued, sl⟩ := State.evalModes_links high room
  have fl : (s.afterRequest c f owner).fl = v.evalModes.fl := State.keeps_afterModes h .fl (by simp)
  refine ⟨by rw [Issued, fl]; exact issued, ?_⟩
  rw [State.afterRequest_notices, h]
  exact congrArg SupLink.notices sl

theorem State.afterModes_replied (service : v.sl.inService = some f) : Replied (s.afterRequest c f owner) f .ok fields := by
  have replied := replied_serve c f owner s (by rw [h]; exact (State.evalModes_inService high).trans service)
  rwa [h] at replied

end

/-! ### STOP -/

theorem ShapeLaw.high {s : State} (shape : ShapeLaw s) : s.ovenCount ≤ s.ovens.length := by
  rw [shape.ovens]
  exact shape.countHigh

/-- The commands of STOP: the valves and the main that go to MANUAL. -/
theorem State.stopped_commands {s : State} (law : PushLaw s) (shape : ShapeLaw s) (push : s.pu.push = none)
    (stall : s.pu.stall = none) : s.stopped.entryCommands =
      ((List.range s.ovenCount).map (· + 1)).flatMap (fun n =>
        (turnTo n (if (s.oven n).valve.manualFlag then .manual else .hold) (s.oven n).valve).2) ++
        (if s.pr.main.manualFlag = true ∧ s.pr.main.mode ≠ .manual then
          [⟨.main, .mainValve s.pr.main.manualPosition⟩] else []) := by
  have most : Config.maxOvens = 96 := rfl
  have count := shape.countHigh
  rw [State.entryCommands, s.stopped_mainMode]
  refine congrArg₂ (· ++ ·) (List.flatMap_congr fun n hn => ?_) (MainRecord.turnCommands_stopped _)
  have range : 1 ≤ n ∧ n ≤ s.ovenCount := mem_ovensTo.mp hn
  rw [State.stopped_valveMode law push stall range.1 (by omega)]
  rfl

theorem PushLaw.taking {s : State} (law : PushLaw s) (c : Instr) (f : Frame) : PushLaw (s.taking c f) :=
  ⟨law.one, law.running, law.pushed, law.stalled, law.onlyPushed, law.onlyStalled, law.progress⟩

theorem ShapeLaw.taking {s : State} (shape : ShapeLaw s) (c : Instr) (f : Frame) : ShapeLaw (s.taking c f) :=
  ⟨shape.ovens, shape.countLow, shape.countHigh, shape.nodes, shape.bays, shape.zones, shape.active, shape.shadow⟩

end Sys2Proof.Machine

/-!
SUPPORT. START's checks (R213).
-/

namespace Sys2Proof.Machine

/-! ### The nodes of a push in id order (R171) -/

theorem Node.mem_all (y : Node) : y ∈ Node.all := by
  cases y with
  | car k => cases k <;> decide
  | oven m => revert m; decide
  | pusher | guide | tower | main => decide

theorem mem_ovenNodesFor {n : Nat} {y : Node} : y ∈ ovenNodesFor n ↔ 16 ≤ y.id ∧ y.id ≤ 15 + (n + 7) / 8 := by
  simp only [ovenNodesFor, List.mem_filterMap, List.mem_finRange, true_and, Option.ite_none_right_eq_some, Option.some.injEq]
  constructor
  · rintro ⟨m, used, rfl⟩
    simp only [Node.id]
    omega
  · rintro ⟨low, high⟩
    cases y with
    | oven m => exact ⟨m, by simp only [Node.id] at high; omega, rfl⟩
    | car k => cases k <;> simp [Node.id, Car.code] at low
    | pusher | guide | tower | main => simp [Node.id] at low

theorem State.mem_pushNodes {s : State} {y : Node} : y ∈ s.pushNodes ↔
    y.id = 1 ∨ y.id = 2 ∨ (16 ≤ y.id ∧ y.id ≤ 15 + (s.ovenCount + 7) / 8) := by
  rw [State.pushNodes, List.mem_cons, List.mem_cons, mem_ovenNodesFor]
  refine or_congr ?_ (or_congr_left ?_)
  · cases y with
    | car k => cases k <;> simp [Node.id, Car.code]
    | oven m => simp [Node.id]; omega
    | pusher | guide | tower | main => simp [Node.id]
  · cases y with
    | car k => cases k <;> simp [Node.id, Car.code]
    | oven m => simp [Node.id]; omega
    | pusher | guide | tower | main => simp [Node.id]

theorem State.pushNodes_ascending (s : State) : s.pushNodes.Pairwise (fun y z => y.id < z.id) := by
  have ovens : (ovenNodesFor s.ovenCount).Pairwise (fun y z => y.id < z.id) := by
    refine (List.pairwise_lt_finRange 12).filterMap _ fun m k less y hy z hz => ?_
    simp only [Option.ite_none_right_eq_some, Option.some.injEq] at hy hz
    obtain ⟨_, rfl⟩ := hy
    obtain ⟨_, rfl⟩ := hz
    exact Nat.add_lt_add_left less 16
  have above {y : Node} (hy : y ∈ ovenNodesFor s.ovenCount) : 2 < y.id := by
    have := (mem_ovenNodesFor.mp hy).1
    omega
  refine List.pairwise_cons.mpr ⟨fun y hy => ?_, List.pairwise_cons.mpr ⟨fun y hy => above hy, ovens⟩⟩
  rcases List.mem_cons.mp hy with rfl | hy
  · decide
  · exact Nat.lt_trans (by decide) (above hy)

/-- Before the first element of an ascending list that meets p, none does. -/
theorem find?_first {α : Type} {p : α → Bool} {rank : α → Nat} {y z : α} (xs : List α)
    (ascending : xs.Pairwise (fun a b => rank a < rank b)) (first : xs.find? p = some y) (hz : z ∈ xs)
    (less : rank z < rank y) : p z = false := by
  obtain ⟨_, before, after, rfl, none⟩ := List.find?_eq_some_iff_append.mp first
  rcases List.mem_append.mp hz with hz | hz
  · simpa using none z hz
  · rcases List.mem_cons.mp hz with rfl | hz
    · omega
    · have later := List.rel_of_pairwise_cons (List.pairwise_append.mp ascending).2.1 hz
      omega

/-! ### The first failing check (R213) -/

section
variable {s : State}

/-- The node that START names is the first that is not LIVE. -/
theorem State.firstSilent {y : Node} (first : s.pushNodes.find? (fun y => !s.live y) = some y) :
    s.live y = false ∧ (y.id = 1 ∨ y.id = 2 ∨ (16 ≤ y.id ∧ y.id ≤ 15 + (s.ovenCount + 7) / 8)) ∧
      ∀ z : Node, z.id < y.id → z.id = 1 ∨ z.id = 2 ∨ 16 ≤ z.id → s.live z = true := by
  have within := State.mem_pushNodes.mp (List.mem_of_find?_eq_some first)
  refine ⟨by simpa using List.find?_some first, within, fun z less kind => ?_⟩
  have member : z ∈ s.pushNodes := State.mem_pushNodes.mpr (by omega)
  simpa using find?_first (p := fun y => !s.live y) s.pushNodes s.pushNodes_ascending first member less

theorem State.someSilent_iff : (∃ y ∈ Node.all, (y.id = 1 ∨ y.id = 2 ∨ (16 ≤ y.id ∧ y.id ≤ 15 + (s.ovenCount + 7) / 8)) ∧
    s.live y = false) ↔ s.pushNodes.find? (fun y => !s.live y) ≠ none := by
  simp only [← State.mem_pushNodes, ne_eq, List.find?_eq_none, Node.mem_all, true_and]
  simp

theorem State.noCar_iff : allCars.any (fun k => (s.car k).inService) = false ↔
    (s.car .one).state = .outOfService ∧ (s.car .two).state = .outOfService := by
  simp [allCars, CarRecord.inService]

/-- START's first failing check with the extra byte of its reply, or none. -/
theorem State.startRefusal_eq {x : Status}
    (hx : x = (if s.bk.mode = .run then .wrongMode
      else if ¬(Nat.gcd s.su.offset s.su.step = 1 ∧ s.su.step ≤ s.ovenCount) then .badSeries
      else if ∃ y ∈ Node.all, (y.id = 1 ∨ y.id = 2 ∨ (16 ≤ y.id ∧ y.id ≤ 15 + (s.ovenCount + 7) / 8)) ∧
        s.live y = false then .nodeSilent
      else if (s.car .one).state = .outOfService ∧ (s.car .two).state = .outOfService then .noCar
      else .ok)) : s.startRefusal =
      if x = .ok then none
      else some (x, if x = .nodeSilent then ((s.pushNodes.find? fun y => !s.live y).map fun y => byteOf y.id).toList else []) := by
  simp only [← seriesValid_iff, State.someSilent_iff, ← State.noCar_iff, ← s.running_eq_true_iff] at hx
  rw [State.startRefusal]
  cases silent : s.pushNodes.find? fun y => !s.live y with
  | none =>
    simp only [silent] at hx
    subst hx
    split_ifs <;> simp_all
  | some y =>
    simp only [silent] at hx
    subst hx
    split_ifs <;> simp_all

end

theorem start_of_some {s : State} {x : Status} {extra : List Byte} (h : s.startRefusal = some (x, extra)) :
    start s = ⟨s, x, extra⟩ := by
  simp only [start, h]

theorem start_of_none {s : State} (h : s.startRefusal = none) :
    start s = s.enterRun.reply [byteOf s.ovenCount, byteOf s.unaccountedDoors, byteOf (s.enteredAuto s.enterRun)] := by
  simp only [start, h]

end Sys2Proof.Machine

/-!
SUPPORT. What START does (R214), and the statement about START and STOP.
-/

namespace Sys2Proof.Machine

/-! ### START's state before the modes are evaluated -/

/-- The part in RUN with the schedule MANUAL and the pacer clear, before the doors. -/
def State.started (s : State) : State :=
  ((s.withCc s.cc.dropDue).withBk { s.bk with mode := .run }).withSu { s.su.clearPacer with mode := .manual }

theorem State.enterRun_eq (s : State) : s.enterRun = s.started.startDoors.evalModes := rfl

theorem State.keeps_started (s : State) : Keeps [.cc, .su, .bk] s s.started := by
  intro b hb
  cases b with
  | cc | su | bk => simp at hb
  | _ => rfl

/-- The notices of START: the doors it finds unexpected (R104). -/
def State.doorNotices (s : State) : List NoticeBody :=
  (ovensTo s.ovenCount).flatMap fun n => ([Side.p, Side.c].filter (s.oven n).unaccounted).map (NoticeBody.doorUnexpected n)

section
variable {s : State} (high : s.ovenCount ≤ s.ovens.length)
include high

theorem State.startDoors_context : SameContext s s.startDoors := by
  rw [State.startDoors_eq high]
  exact State.sameContext_actAll _ _ _

theorem State.startDoors_high : s.startDoors.ovenCount ≤ s.startDoors.ovens.length := by
  have count : s.startDoors.ovenCount = s.ovenCount := (State.startDoors_context high).1 .ovenCount (by simp)
  rw [count, State.startDoors_eq high, State.actAll_length]
  exact high

theorem State.startDoors_above {n : Nat} (low : 0 < n) (above : s.ovenCount < n) : s.startDoors.oven n = s.oven n := by
  rw [State.startDoors_eq high]
  exact State.actAll_oven_of_not_mem low _ _ (ovensOf_ovensTo high) fun hn => by
    have := (mem_ovensTo.mp hn).2
    omega

theorem State.startDoors_oven {n : Nat} (low : 0 < n) (within : n ≤ s.ovenCount) :
    s.startDoors.oven n = (s.oven n).startDoors s.du.doorOffLimit := by
  rw [State.startDoors_eq high]
  exact State.actAll_oven startDoorsAct_local _ _ (ovensOf_ovensTo high) (mem_ovensTo.mpr ⟨low, within⟩)

/-- The doors send no command; with a request in service and room, their notices join the queue. -/
theorem State.startDoors_links {f : Frame} (service : s.sl.inService = some f) (field : s.FieldRoom 0)
    (room : s.NoticeRoom s.doorNotices.length) :
    Issued s s.startDoors [] ∧ Noticed s s.startDoors s.doorNotices := by
  have none : ((ovensTo s.ovenCount).flatMap fun n => (s.startDoorsAct n).commands) = [] := by simp [State.startDoorsAct]
  have notices : ((ovensTo s.ovenCount).flatMap fun n => (s.startDoorsAct n).notices) = s.doorNotices :=
    List.flatMap_congr fun n _ => (s.oven n).unaccounted_notices n
  have links := State.actAll_links startDoorsAct_local _ s (ovensOf_ovensTo high)
  rw [none, notices, ← State.startDoors_eq high] at links
  obtain ⟨issued, sl⟩ := links field
  have noticed := State.raiseAll_noticed s.doorNotices s service room
  exact ⟨issued, by rw [Noticed, sl]; exact noticed⟩

theorem State.startDoors_inService : s.startDoors.sl.inService = s.sl.inService := by
  rw [State.startDoors_eq high]
  exact State.actAll_inService _ _ _

end

theorem Oven.startDoors_valve (o : Oven) (limit : Nat) : (o.startDoors limit).valve = o.valve := by
  rw [o.startDoors_eq limit]

/-- An oven record whose doors START has looked at and whose valve is evaluated: nothing else changes. -/
theorem Oven.startDoors_setValve (o : Oven) (limit : Nat) (v : Valve) : (o.startDoors limit).setValve v = { o with
    doorP := ((o.startDoors limit).setValve v).doorP, doorC := ((o.startDoors limit).setValve v).doorC, valve := v } := by
  have record := o.startDoors_eq limit
  generalize o.startDoors limit = o' at record ⊢
  rw [record]
  rfl

/-- The ovens that enter AUTO are counted by their places (R214). -/
theorem State.enteredAuto_eq (s t : State) : s.enteredAuto t = ((List.range s.ovenCount).filter fun i =>
    (s.oven (i + 1)).valve.mode != .auto && (t.oven (i + 1)).valve.mode == .auto).length := by
  rw [State.enteredAuto, State.ovenNumbers, List.filter_map, List.length_map]
  rfl

/-! ### What stands after START -/

section
variable {s : State} {c : Instr} {f : Frame} {owner : State → Answer} {fields : List Byte}
  (high : s.ovenCount ≤ s.ovens.length)
include high

theorem State.started_context : SameContext (s.taking c f).started (s.taking c f).started.startDoors :=
  State.startDoors_context (s := (s.taking c f).started) high

theorem State.started_high :
    (s.taking c f).started.startDoors.ovenCount ≤ (s.taking c f).started.startDoors.ovens.length :=
  State.startDoors_high (s := (s.taking c f).started) high

theorem State.keeps_startedDoors :
    Keeps [.ovens, .cc, .su, .fl, .sl, .bk] (s.taking c f) (s.taking c f).started.startDoors :=
  ((State.keeps_started _).mono (by simp)).trans ((State.started_context high).1.mono (by simp))

theorem State.startedDoors_pr : (s.taking c f).started.startDoors.pr = s.pr := (State.started_context high).1 .pr (by simp)

theorem State.startedDoors_ovenCount : (s.taking c f).started.startDoors.ovenCount = s.ovenCount :=
  (State.started_context high).1 .ovenCount (by simp)

theorem State.startedDoors_oven {n : Nat} (low : 0 < n) (within : n ≤ s.ovenCount) :
    (s.taking c f).started.startDoors.oven n = (s.oven n).startDoors s.du.doorOffLimit :=
  State.startDoors_oven (s := (s.taking c f).started) high low within

variable (h : owner (s.taking c f) = (s.taking c f).started.startDoors.evalModes.reply fields)
include h

theorem State.afterStart_valveMode {n : Nat} (low : 0 < n) (within : n ≤ s.ovenCount) :
    (s.afterRequest c f owner).valveMode n = (s.taking c f).started.startDoors.valveMode n :=
  State.afterModes_valveMode h (State.started_high high) low (by rw [State.startedDoors_ovenCount high]; exact within)

theorem State.afterStart_oven {n : Nat} (low : 0 < n) (within : n ≤ s.ovenCount) : (s.afterRequest c f owner).oven n =
    ((s.oven n).startDoors s.du.doorOffLimit).setValve
      (turnTo n ((s.afterRequest c f owner).valveMode n) (s.oven n).valve).1 := by
  have evaluated := State.afterModes_oven h (State.started_high high) low
    (by rw [State.startedDoors_ovenCount high]; exact within)
  rwa [← State.afterStart_valveMode high h low within, State.startedDoors_oven high low within,
    Oven.startDoors_valve] at evaluated

theorem State.afterStart_above {n : Nat} (low : 0 < n) (above : s.ovenCount < n) :
    (s.afterRequest c f owner).oven n = s.oven n :=
  (State.afterModes_above h (State.started_high high) low (by rw [State.startedDoors_ovenCount high]; exact above)).trans
    (State.startDoors_above (s := (s.taking c f).started) high low above)

theorem State.afterStart_pr : (s.afterRequest c f owner).pr =
    { s.pr with main := s.pr.main.turned (s.afterRequest c f owner).mainMode } := by
  rw [State.afterModes_pr h (State.started_high high), State.afterModes_mainMode h (State.started_high high),
    State.startedDoors_pr high]

theorem State.afterStart_commands : (s.taking c f).started.startDoors.entryCommands =
    ((ovensTo s.ovenCount).flatMap fun n => (turnTo n ((s.afterRequest c f owner).valveMode n) (s.oven n).valve).2) ++
      s.pr.main.turnCommands (s.afterRequest c f owner).mainMode := by
  rw [State.entryCommands, State.afterModes_mainMode h (State.started_high high), State.startedDoors_pr high,
    State.startedDoors_ovenCount high]
  refine congrArg (· ++ _) (List.flatMap_congr fun n hn => ?_)
  obtain ⟨low, within⟩ := mem_ovensTo.mp hn
  rw [State.afterStart_valveMode high h low within, State.startedDoors_oven high low within, Oven.startDoors_valve]

/-- With room for both, the door notices are raised and the commands of entry issued. -/
theorem State.afterStart_links (room : s.NoticeRoom s.doorNotices.length)
    (field : s.FieldRoom (s.taking c f).started.startDoors.entryCommands.length) :
    Noticed s (s.afterRequest c f owner) s.doorNotices ∧
      Issued s (s.afterRequest c f owner) (s.taking c f).started.startDoors.entryCommands := by
  obtain ⟨doors, noticed⟩ := State.startDoors_links (s := (s.taking c f).started) high (f := f) rfl
    (Nat.le_trans (Nat.le_add_right _ _) field) room
  obtain ⟨issued, kept⟩ := State.afterModes_links h (State.started_high high)
    (by rw [State.FieldRoom, doors.1, List.append_nil]; exact field)
  exact ⟨kept.trans noticed, doors.trans issued⟩

theorem State.afterStart_replied : Replied (s.afterRequest c f owner) f .ok fields :=
  State.afterModes_replied h (State.started_high high)
    (State.startDoors_inService (s := (s.taking c f).started) high)

end

/-- The ovens that entered AUTO, seen after the reply. -/
theorem State.afterStart_enteredAuto {s : State} {c : Instr} {f : Frame} {owner : State → Answer} {fields : List Byte}
    (h : owner (s.taking c f) = (s.taking c f).started.startDoors.evalModes.reply fields) :
    (s.taking c f).enteredAuto (s.taking c f).started.startDoors.evalModes = s.enteredAuto (s.afterRequest c f owner) := by
  simp only [State.enteredAuto, (State.keeps_afterModes h).oven_eq]
  rfl

/-! ### The statement -/

/-- Settles O59: the checks by `startRefusal_eq` and `stop_eq`, the effects by the modes evaluated, at START after the doors. -/
theorem startAndStopChangeTheMode : Obligations.StartAndStopChangeTheMode := by
  refine ⟨fun s tag shape free ht x hx => ?start, fun s tag shape free ht x hx => ?stop⟩
  case start =>
    have takes : exec (.start tag) s = .next (s.afterRequest (.start tag) ⟨0x71, tag, []⟩ start) :=
      exec_of_free rfl rfl rfl free ht
    have refusal := State.startRefusal_eq (s := s.taking (.start tag) ⟨0x71, tag, []⟩) hx
    refine ⟨fun refused => ⟨_, takes, ?refused⟩, fun ok => ⟨_, takes, ?taken⟩⟩
    case refused =>
      rw [if_neg refused] at refusal
      have answer := start_of_some refusal
      refine ⟨frameOf_serve _ _ _ s (by rw [answer]; exact Keeps.refl _ _) (by simp) (by simp), _,
        answered_of_sl answer rfl, fun other => if_neg other, fun silent => ?_⟩
      have found := hx.symm.trans silent
      split_ifs at found with run series nodes cars
      obtain ⟨y, first⟩ := Option.ne_none_iff_exists'.mp (State.someSilent_iff.mp nodes)
      refine ⟨y, ?_, State.firstSilent first⟩
      rw [if_pos silent]
      exact congrArg (fun o => (Option.map (fun y : Node => byteOf y.id) o).toList) first
    case taken =>
      rw [if_pos ok] at refusal
      have answer := start_of_none refusal
      rw [State.enterRun_eq] at answer
      have high := shape.high
      have done := State.started_high (c := .start tag) (f := ⟨0x71, tag, []⟩) high
      have context := (State.started_context (c := .start tag) (f := ⟨0x71, tag, []⟩) high).1
      refine ⟨State.frameOf_evalModes answer done (State.keeps_startedDoors high),
        (State.afterModes_bk answer done).trans (context .bk (by simp)),
        (State.afterModes_cc answer done).trans (context .cc (by simp)),
        (State.afterModes_su answer done).trans (context .su (by simp)), State.afterStart_pr high answer,
        fun n _ low => ⟨State.afterStart_above high answer low, fun within => ⟨?record, fun x => ?door, ?mode⟩⟩, ?links,
        ?replied⟩
      case record =>
        rw [State.afterStart_oven high answer low within]
        exact Oven.startDoors_setValve _ _ _
      case door =>
        rw [State.afterStart_oven high answer low within]
        exact Oven.startDoors_door (s.oven n) s.du.doorOffLimit x
      case mode =>
        rw [State.afterStart_oven high answer low within]
        exact turnTo_mode _ _ _
      case links =>
        intro bs notices cs commands room field
        have notices : s.doorNotices = bs := notices.symm
        have commands := (State.afterStart_commands high answer).trans commands.symm
        have links := State.afterStart_links high answer
        rw [notices, commands] at links
        exact links room field
      case replied =>
        have replied := State.afterStart_replied high answer
        rw [State.afterStart_enteredAuto answer, State.enteredAuto_eq,
          State.unaccountedDoors_eq (s := s.taking _ _) high] at replied
        exact replied
  case stop =>
    have takes : exec (.stop tag) s = .next (s.afterRequest (.stop tag) ⟨0x72, tag, []⟩ stop) :=
      exec_of_free rfl rfl rfl free ht
    have answer := stop_eq (s := s.taking (.stop tag) ⟨0x72, tag, []⟩) hx
    refine ⟨fun refused => ⟨_, takes, serve_of_refuse _ _ _ s x (by rw [answer, if_neg refused])⟩,
      fun ok law => ⟨_, takes, ?_⟩⟩
    obtain ⟨push, stall⟩ : s.pu.push = none ∧ s.pu.stall = none := by
      rw [ok] at hx
      split_ifs at hx with config busy
      exact ⟨not_not.mp fun p => busy (.inl p), not_not.mp fun p => busy (.inr (.inl p))⟩
    rw [if_pos ok, State.enterConfig_eq] at answer
    have law' := law.taking (.stop tag) ⟨0x72, tag, []⟩
    have shape' := shape.taking (.stop tag) ⟨0x72, tag, []⟩
    have high := shape'.high
    refine ⟨State.frameOf_evalModes answer high ((State.keeps_stopped _).mono (by simp)), State.afterModes_bk answer high,
      State.afterModes_cc answer high, State.afterModes_su answer high, ?pr,
      fun n hn low => ⟨State.afterModes_above answer high low, fun within => ?valve⟩, ?links,
      State.afterModes_replied answer high rfl⟩
    case pr =>
      refine (State.afterModes_pr answer high).trans ?_
      rw [State.stopped_mainMode]
      exact congrArg (fun m => { s.pr with main := m }) s.pr.main.turned_stopped
    case valve =>
      refine (State.afterModes_oven answer high low within).trans ?_
      rw [State.stopped_valveMode law' push stall low hn]
      rfl
    case links =>
      intro cs commands room
      have commands := (State.stopped_commands law' shape' push stall).trans commands.symm
      have links := State.afterModes_links answer high
      rw [commands] at links
      obtain ⟨issued, notices⟩ := links room
      exact ⟨notices.trans (List.append_nil _).symm, issued⟩

end Sys2Proof.Machine

/-!
SUPPORT. The law of R56 read the other way, an oven PUSHING or STALLED being the one its record names, and the law of R19: P as the
phase requires. With the moves of the roster they make up the push law, which every step keeps.
-/

namespace Sys2Proof.Machine

/-! ### Only the named oven is PUSHING or STALLED (R56) -/

namespace Roster

variable {r r' : Roster} {n : Nat} {p : Phase}

/-- An oven that is PUSHING or STALLED is the one the push record or the stall record names. -/
def Named (r : Roster) : Prop :=
  ∀ n, 1 ≤ n → (r.phase n = .pushing → r.push = some n) ∧ (r.phase n = .stalled → r.stall = some n)

theorem Named.of_same (h : r.Named) (phases : r'.phases = r.phases) (push : r'.push = r.push) (stall : r'.stall = r.stall) :
    r'.Named := by
  intro n low
  simpa only [phase, phases, push, stall] using h n low

/-- A write of one phase, with the records of the other ovens as they were. -/
theorem Named.write (h : r.Named) (low : 1 ≤ n) (place : n - 1 < r.phases.length)
    (phases : r'.phases = r.phases.set (n - 1) p)
    (push : ∀ m, m ≠ n → r.push = some m → r'.push = some m) (stall : ∀ m, m ≠ n → r.stall = some m → r'.stall = some m)
    (here : (p = .pushing → r'.push = some n) ∧ (p = .stalled → r'.stall = some n)) : r'.Named := by
  have same : r'.phase = (r.setPhase n p).phase := by funext m; simp only [phase, setPhase, phases]
  intro m hm
  rw [same]
  by_cases e : m = n
  · subst e
    rw [phase_setPhase_self place]
    exact here
  · rw [phase_setPhase_ne (by omega)]
    exact ⟨fun hp => push m e ((h m hm).1 hp), fun hs => stall m e ((h m hm).2 hs)⟩

/-- A write to an oven that becomes neither PUSHING nor STALLED. -/
theorem Named.setPhase (h : r.Named) (low : 1 ≤ n) (place : n - 1 < r.phases.length) (hp : p ≠ .pushing) (hs : p ≠ .stalled) :
    (r.setPhase n p).Named :=
  h.write low place rfl (fun _ _ => id) (fun _ _ => id) ⟨fun e => absurd e hp, fun e => absurd e hs⟩

theorem Holds.ne_record (h : p.Holds) : p ≠ .pushing ∧ p ≠ .stalled := by
  rcases h with rfl | rfl | rfl <;> decide

/-- Every move leaves only the named oven PUSHING or STALLED. -/
theorem Step.keeps_named (step : Step r r') (h : r.Sound) (l : r.Named) : r'.Named := by
  cases step with
  | charge range before => exact l.setPhase range.1 (h.place range) (by decide) (by decide)
  | age range before after => exact l.setPhase range.1 (h.place range) (Holds.ne_record after).1 (Holds.ne_record after).2
  | load config range after => exact l.setPhase range.1 (h.place range) after.1 after.2
  | pushStart run noPush noStall range ready braced =>
    exact l.write range.1 (h.place range) rfl (by simp [noPush]) (by simp [noStall]) ⟨fun _ => rfl, nofun⟩
  | pushEnd named after =>
    have range := (h.pushed _ named).1
    refine l.write range.1 (h.place range) rfl (fun m ne hm => ?_) (fun _ _ => id) ?_
    · exact absurd (Option.some.inj (hm.symm.trans named)) ne
    · rcases after with rfl | rfl <;> exact ⟨nofun, nofun⟩
  | pushStall named =>
    have range := (h.pushed _ named).1
    have noStall : r.stall = none := h.one.resolve_left (by simp [named])
    refine l.write range.1 (h.place range) rfl (fun m ne hm => ?_) (by simp [noStall]) ⟨nofun, fun _ => rfl⟩
    exact absurd (Option.some.inj (hm.symm.trans named)) ne
  | stallEnd named after =>
    have range := (h.stalled _ named).1
    refine l.write range.1 (h.place range) rfl (fun _ _ => id) (fun m ne hm => ?_) ?_
    · exact absurd (Option.some.inj (hm.symm.trans named)) ne
    · rcases after with rfl | rfl <;> exact ⟨nofun, nofun⟩
  | queue | deferOven | withdraw | exclude | resize | enterRun => exact l.of_same rfl rfl rfl
  | enterConfig noPush noStall => exact l.of_same rfl rfl rfl
  | reset =>
    have empty : ∀ n, State.reset.roster.phase n = .empty := fun n => by
      rw [← State.oven_phase]
      rw [State.oven, List.getD_eq_getElem?_getD, show State.reset.ovens = List.replicate 96 Oven.reset from rfl,
        List.getElem?_replicate]
      split_ifs <;> rfl
    intro n _
    rw [empty n]
    exact ⟨nofun, nofun⟩

end Roster

theorem roster_named {s : State} (shape : ShapeLaw s) (law : PushLaw s) : s.roster.Named := by
  intro n low
  have size : s.ovens.length = 96 := shape.ovens
  have within : ∀ p : Phase, p ≠ .empty → s.roster.phase n = p → n < 97 := by
    intro p ne hp
    by_contra high
    refine ne (hp.symm.trans ?_)
    rw [← s.oven_phase]
    simp [State.oven, List.getD_eq_getElem?_getD, show s.ovens.length ≤ n - 1 by omega, Oven.reset]
  constructor
  · intro hp
    obtain ⟨x, hx, hn⟩ := law.onlyPushed n (within _ (by decide) hp) low ((s.oven_phase n).trans hp)
    simp [State.roster, hx, hn]
  · intro hs
    obtain ⟨x, hx, hn⟩ := law.onlyStalled n (within _ (by decide) hs) low ((s.oven_phase n).trans hs)
    simp [State.roster, hx, hn]

/-! ### The law of R19, one update after another -/

/-- Every P is as its phase requires (R19). -/
def ProgressLaw (s : State) : Prop := ∀ o ∈ s.ovens, o.ProgressLawful

/-- The push law is the roster's part of it and the law of R19. -/
theorem pushLaw_of_roster {s : State} (sound : s.roster.Sound) (named : s.roster.Named) (progress : ProgressLaw s) : PushLaw s where
  one := by simpa [State.roster] using sound.one
  running present := by
    cases mode : s.bk.mode with
    | run => rfl
    | config =>
      obtain ⟨noPush, noStall⟩ := sound.running mode
      simp [State.roster] at noPush noStall
      simp [noPush, noStall] at present
  pushed x hx := by
    rw [s.roster_inRange, s.oven_phase]
    exact sound.pushed _ (by simp [State.roster, hx])
  stalled x hx := by
    rw [s.roster_inRange, s.oven_phase]
    exact sound.stalled _ (by simp [State.roster, hx])
  onlyPushed n _ low hp := Option.map_eq_some_iff.mp ((named n low).1 ((s.oven_phase n).symm.trans hp))
  onlyStalled n _ low hs := Option.map_eq_some_iff.mp ((named n low).2 ((s.oven_phase n).symm.trans hs))
  progress := progress

/-- From s to t the law of R19 is kept, whatever the records are. -/
def Steady (s t : State) : Prop := ProgressLaw s → ProgressLaw t

/-- From s to t the law of R19 is kept where the records name ovens PUSHING and STALLED. -/
def Progresses (s t : State) : Prop := s.roster.Sound → Steady s t

theorem Steady.progresses {s t : State} (h : Steady s t) : Progresses s t := fun _ => h

theorem Steady.refl (s : State) : Steady s s := id

theorem Steady.trans {s t u : State} (h : Steady s t) (k : Steady t u) : Steady s u := fun l => k (h l)

/-- The last update first, so that it says which state stands between. -/
theorem Steady.after {s t u : State} (k : Steady t u) (h : Steady s t) : Steady s u := h.trans k

theorem Steady.of_ovens {s t : State} (h : t.ovens = s.ovens) : Steady s t := fun l => by
  unfold ProgressLaw
  rw [h]
  exact l

/-- R19's law reads the phase and the progress of a record. -/
theorem Oven.ProgressLawful.of_same {o o' : Oven} (h : o.ProgressLawful) (phase : o'.phase = o.phase)
    (progress : o'.progress = o.progress) : o'.ProgressLawful := by
  simpa only [Oven.ProgressLawful, phase, progress] using h

theorem ProgressLaw.oven {s : State} (h : ProgressLaw s) (n : Nat) : (s.oven n).ProgressLawful := by
  rw [State.oven, List.getD_eq_getElem?_getD]
  cases e : s.ovens[n - 1]? with
  | none => exact ⟨Nat.zero_le _, fun _ => rfl, by decide⟩
  | some o => exact h o (List.mem_of_getElem? e)

theorem ProgressLaw.setOven {s : State} (h : ProgressLaw s) {n : Nat} {o : Oven} (lawful : o.ProgressLawful) :
    ProgressLaw (s.setOven n o) := by
  intro x hx
  rcases List.mem_or_eq_of_mem_set hx with hx | rfl
  · exact h x hx
  · exact lawful

section
variable {s : State} {n : Nat} {o : Oven}

theorem Steady.setOven (lawful : (s.oven n).ProgressLawful → o.ProgressLawful) : Steady s (s.setOven n o) :=
  fun l => l.setOven (lawful (l.oven n))

/-- A record written with its phase and progress as they stood. -/
theorem Steady.setOven_same (phase : o.phase = (s.oven n).phase) (progress : o.progress = (s.oven n).progress) :
    Steady s (s.setOven n o) :=
  .setOven fun l => l.of_same phase progress

theorem Steady.map_numbered {t : State} {f : Oven × Nat → Oven} (ovens : t.ovens = s.numbered.map f)
    (h : ∀ x, (f x).phase = x.1.phase ∧ (f x).progress = x.1.progress) : Steady s t := by
  intro l y hy
  rw [ovens] at hy
  obtain ⟨x, hx, rfl⟩ := List.mem_map.mp hy
  have kept : x.1 ∈ s.ovens := by
    have mem := List.mem_map_of_mem (f := Prod.fst) hx
    rwa [State.numbered, List.zipIdx_map_fst] at mem
  exact (l x.1 kept).of_same (h x).1 (h x).2

end

theorem Steady.foldl {α : Type} {f : State → α → State} (each : ∀ s a, Steady s (f s a)) (l : List α) :
    ∀ s, Steady s (l.foldl f s) := by
  induction l with
  | nil => exact fun s => .refl s
  | cons a l ih => exact fun s => (each s a).trans (ih (f s a))

/-! ### Valves and doors -/

section
variable (s : State) (n : Nat)

theorem State.steady_applyValve (r : Valve × List Outgoing) : Steady s (s.applyValve n r) :=
  Steady.trans (t := s.setOven n ((s.oven n).setValve r.1)) (.setOven_same rfl rfl) (.of_ovens (State.issueAll_ovens ..))

theorem State.steady_setDoor (x : Side) (d : Door) : Steady s (s.setOven n ((s.oven n).setDoor x d)) :=
  .setOven_same (Oven.setDoor_phase _ _ _) (Oven.setDoor_progress _ _ _)

theorem State.steady_evalValve : Steady s (s.evalValve n) := s.steady_applyValve n _

theorem State.steady_evalValves (ns : List Nat) : Steady s (s.evalValves ns) := .foldl State.steady_evalValve ns s

theorem State.steady_evalMain : Steady s s.evalMain := .of_ovens (by simp)

theorem State.steady_applyDoor (x : Side) (a : DoorStep) : Steady s (s.applyDoor n x a) := by
  have written : Steady s (((s.setOven n ((s.oven n).setDoor x a.door)).issueAll a.commands).raiseAll a.notices) :=
    (s.steady_setDoor n x a.door).trans (.of_ovens rfl)
  unfold State.applyDoor
  dsimp only
  split_ifs
  · exact written
  · exact written.trans (State.steady_evalValve _ n)

theorem State.steady_takeDoors (m : Fin 12) (entries : List OvenEntry) : Steady s (s.takeDoors m entries n) := by
  unfold State.takeDoors
  split
  · exact (s.steady_applyDoor n .p _).trans (State.steady_applyDoor _ n .c _)
  · exact .refl s

theorem State.steady_startDoor (x : Side) : Steady s (s.startDoor n x) := by
  unfold State.startDoor
  dsimp only
  split_ifs
  · exact .refl s
  · exact (s.steady_setDoor n x _).trans (.of_ovens rfl)
  · exact s.steady_setDoor n x _

theorem State.steady_startDoors : Steady s s.startDoors :=
  .foldl (fun t n => (t.steady_startDoor n .p).trans (State.steady_startDoor _ n .c)) _ s

end

theorem steady_ovenReport (m : Fin 12) (entries : List OvenEntry) (s : State) : Steady s (ovenReport m entries s) := by
  have doors : Steady s ((s.served m).foldl (fun t n => t.takeDoors m entries n) s) :=
    .foldl (fun t n => t.steady_takeDoors n m entries) _ s
  unfold ovenReport State.dropTaken
  split_ifs
  · exact doors.trans (.of_ovens rfl)
  · exact doors

theorem steady_settleTimerExpiry (n : Nat) (x : Side) (s : State) : Steady s (settleTimerExpiry n x s) := by
  unfold settleTimerExpiry
  dsimp only
  split_ifs
  · exact s.steady_applyDoor n x _
  · exact s.steady_setDoor n x _
  · exact .refl s

theorem steady_doorOffTimerExpiry (n : Nat) (x : Side) (s : State) : Steady s (doorOffTimerExpiry n x s) := by
  unfold doorOffTimerExpiry
  dsimp only
  split_ifs
  · exact s.steady_applyDoor n x _
  · exact s.steady_setDoor n x _
  · exact .refl s

theorem State.steady_takeSample (s : State) (n : Nat) (e : OvenEntry) : Steady s (s.takeSample n e) := by
  have recorded : Steady s (s.setOven n ((s.oven n).setValve ((s.oven n).valve.record e))) := .setOven_same rfl rfl
  have loop (t : State) : Steady t (t.runLoop n) := by
    unfold State.runLoop
    dsimp only
    split
    · exact t.steady_applyValve n _
    · exact .refl t
  simp only [State.takeSample]
  refine Steady.trans ?_ (loop _)
  split_ifs
  · exact recorded
  · exact recorded.trans (State.steady_applyValve _ n _)

theorem steady_ovenSample (m : Fin 12) (entries : List OvenEntry) (s : State) : Steady s (ovenSample m entries s) := by
  refine Steady.foldl (fun t n => ?_) _ s
  split
  · exact t.steady_takeSample n _
  · exact .refl t

theorem steady_ovenNodeSilence (m : Fin 12) (s : State) : Steady s (ovenNodeSilence m s) :=
  .foldl (fun t n => t.steady_applyValve n _) _ s

/-! ### The oven table -/

theorem steady_chargeTimerExpiry (n : Nat) (s : State) : Steady s (chargeTimerExpiry n s) := by
  unfold chargeTimerExpiry
  dsimp only
  split_ifs
  · exact Steady.trans (t := s.setOven n { s.oven n with chargeTimer := none, chargeLong := true }) (.setOven_same rfl rfl)
      (.of_ovens rfl)
  · exact .setOven_same rfl rfl
  · exact .refl s

/-- A coke minute leaves P as the new phase requires (R18 to R20). -/
theorem Oven.cokeStep_lawful {o : Oven} (heat : Nat) (h : o.ProgressLawful) : (o.cokeStep heat).ProgressLawful := by
  obtain ⟨high, empty, full⟩ := h
  by_cases coking : o.phase = .coking
  · rw [Oven.cokeStep_of_coking coking, Oven.addStep]
    split_ifs with reached
    · exact ⟨le_rfl, nofun, fun _ => rfl⟩
    · exact ⟨by simp only; omega, by simp [coking], by simp [coking]⟩
  · by_cases soaking : o.phase = .soaking
    · rw [Oven.cokeStep_of_soaking soaking, Oven.soakStep]
      split_ifs
      · exact ⟨high, nofun, fun _ => full (.inl soaking)⟩
      · exact ⟨high, empty, full⟩
    · rw [Oven.cokeStep_of_other coking soaking]
      exact ⟨high, empty, full⟩

theorem State.steady_expireOven (s : State) (n : Nat) : Steady s (s.expireOven n) := by
  simp only [State.expireOven]
  have written (o : Oven) (bs : List NoticeBody) (same : o.phase = ((s.oven n).cokeStep s.cc.heat).phase ∧
      o.progress = ((s.oven n).cokeStep s.cc.heat).progress) : Steady s ((s.setOven n o).raiseAll bs) :=
    Steady.trans (t := s.setOven n o) (.setOven fun l => (Oven.cokeStep_lawful _ l).of_same same.1 same.2) (.of_ovens rfl)
  have valved (t : State) (kept : Steady s t) : Steady s (t.evalValve n) := kept.trans (t.steady_evalValve n)
  split
  · exact written _ _ ⟨rfl, rfl⟩
  · exact valved _ (written _ _ ⟨rfl, rfl⟩)

theorem State.steady_stepMinute (s : State) : Steady s s.stepMinute := by
  rw [s.stepMinute_eq]
  exact Steady.trans (t := s.beginMinute) (.of_ovens rfl) (.foldl State.steady_expireOven _ _)

/-! ### Push start and candidate evaluation -/

/-- An oven pushed was READY, and a PUSHING oven needs the same P (R19, R59). -/
theorem State.steady_startPush {s : State} {n : Nat} (o : Origin) (c : Car) (pushable : s.pushable n = true) :
    Steady s (s.startPush n o c) := by
  have ready : (s.oven n).phase = .ready := (s.oven_phase n).trans ((s.pushable_iff n).mp pushable).2.1
  have full (l : (s.oven n).ProgressLawful) : Oven.ProgressLawful { s.oven n with phase := .pushing, late := false } :=
    ⟨l.1, nofun, fun _ => l.2.2 (.inr (.inl ready))⟩
  have written : Steady s ((s.withPu { s.pu with counter := s.pu.counter + 1, push := some (s.newPush n o c) }).setOven n
      { s.oven n with phase := .pushing, late := false }) :=
    .trans (t := s.withPu _) (.of_ovens rfl) (.setOven full)
  exact (written.trans (State.steady_evalValve _ n)).trans (.of_ovens (by
    simp only [State.startPush, State.raise_ovens, State.issueAll_ovens, State.claimCar_ovens, State.trimSchedule,
      State.withSu_ovens]
    rfl))

theorem State.steady_tryPush {s : State} {n : Nat} (o : Origin) (pushable : s.pushable n = true) : Steady s (s.tryPush n o) := by
  unfold State.tryPush
  split
  · exact State.steady_startPush o _ pushable
  · exact .refl s

theorem State.passOver_ovens (s : State) (n : Nat) : (s.passOver n).ovens = s.ovens := by
  unfold State.passOver
  split_ifs <;> rfl

theorem State.steady_judgeCursor (s : State) (n : Nat) : Steady s (s.judgeCursor n) := by
  unfold State.judgeCursor
  split_ifs with out pushable
  · exact .refl s
  · exact State.steady_tryPush .series pushable
  · split
    case h_1 | h_2 => exact .of_ovens rfl
    case h_3 | h_4 | h_5 => exact .of_ovens (s.passOver_ovens n)
    case h_6 | h_7 => exact .refl s

theorem State.steady_evaluate (s : State) : Steady s s.evaluate := by
  unfold State.evaluate
  split_ifs
  · split
    · next n head => exact State.steady_tryPush .outOfTurn (Option.filter_eq_some_iff.mp head).2
    · split
      · next n deferred => exact State.steady_tryPush .deferred (List.find?_some deferred)
      · exact Steady.trans (t := s.withSu { s.su with cursor := s.skipExcluded s.ovenCount s.su.cursor }) (.of_ovens rfl)
          (State.steady_judgeCursor _ _)
  · exact .refl s

/-! ### The ends of a push -/

section
variable {s : State} {r : PushRecord}

theorem State.steady_endPush (s : State) (n : Nat) (silent : Bool) : Steady s (s.endPush n silent) := by
  have ended : Steady s ((s.setPush none).evalValve n) := .trans (t := s.setPush none) (.of_ovens rfl) (State.steady_evalValve _ n)
  cases silent with
  | true => exact ended
  | false => exact ended.trans (State.steady_evaluate _)

theorem State.steady_completePush (silent : Bool) : Steady s (s.completePush r silent) := by
  have emptied : Steady s (s.setOven r.oven { s.oven r.oven with phase := .empty, progress := 0, lastPushNumber := r.number }) :=
    .setOven fun _ => ⟨Nat.zero_le _, fun _ => rfl, by simp⟩
  have raised (t : State) (cs : List Outgoing) (b : NoticeBody) : Steady t ((t.issueAll cs).raise b) := .of_ovens rfl
  exact (emptied.trans (raised _ _ _)).trans (State.steady_endPush _ _ _)

/-- A phase that needs full progress, for an oven whose phase needed it before. -/
theorem State.steady_setPhase {n : Nat} {p : Phase} (before : (s.oven n).phase = .pushing ∨ (s.oven n).phase = .stalled)
    (after : p = .ready ∨ p = .stalled) : Steady s (s.setPhase n p) :=
  .setOven fun l => ⟨l.1, by rcases after with rfl | rfl <;> simp, fun _ => l.2.2 (by tauto)⟩

theorem State.steady_returnReady (x : Stage) (cause : AbortCause) (silent : Bool) (pushed : (s.oven r.oven).phase = .pushing) :
    Steady s (s.returnReady r x cause silent) :=
  .after (State.steady_endPush _ _ _) (.after (t := s.setPhase r.oven .ready) (.of_ovens rfl)
    (State.steady_setPhase (.inl pushed) (.inl rfl)))

theorem State.releaseClaimed_ovens (s : State) (r : PushRecord) : (s.releaseClaimed r).ovens = s.ovens := by
  unfold State.releaseClaimed
  split_ifs <;> simp

theorem State.steady_undoPush (cause : AbortCause) (pushed : (s.oven r.oven).phase = .pushing) : Steady s (s.undoPush r cause) := by
  have released : ((s.issueAll (toBoth .halt ++ [toOven r.oven (.cap r.oven false)])).releaseClaimed r).ovens = s.ovens :=
    State.releaseClaimed_ovens _ r
  exact (Steady.of_ovens released).trans (State.steady_returnReady _ _ _ (by rw [State.oven, released]; exact pushed))

theorem State.steady_completeRetreat (pushed : (s.oven r.oven).phase = .pushing) : Steady s (s.completeRetreat r) := by
  have released : ((s.issueAll [toOven r.oven (.cap r.oven false)]).releaseClaimed r).ovens = s.ovens :=
    State.releaseClaimed_ovens _ r
  exact (Steady.of_ovens released).trans (State.steady_returnReady _ _ _ (by rw [State.oven, released]; exact pushed))

theorem State.steady_makeStall (cause : AbortCause) (first : Option AbortCause) (pushed : (s.oven r.oven).phase = .pushing) :
    Steady s (s.makeStall r cause first) := by
  have stalled (t : State) (same : t.ovens = s.ovens) : Steady t ((t.setPhase r.oven .stalled).evalValve r.oven) :=
    (State.steady_setPhase (.inl (by rw [State.oven, same]; exact pushed)) (.inr rfl)).trans (State.steady_evalValve _ _)
  unfold State.makeStall
  dsimp only
  generalize recorded : s.withPu _ = u
  have same : u.ovens = s.ovens := by rw [← recorded]; rfl
  exact .after (.of_ovens (by rw [State.pauseSchedule_ovens, State.raise_ovens])) (.after (stalled u same) (.of_ovens same))

/-- An abort keeps the law of R19 where the record's oven is PUSHING. -/
theorem State.steady_abortPush (cause : AbortCause) (pushed : ∀ r, s.pu.push = some r → (s.oven r.oven).phase = .pushing) :
    Steady s (s.abortPush cause) := by
  have retreats (r : PushRecord) : Steady s (s.enterRetreat r cause) := .of_ovens rfl
  have stalls (cs : List Outgoing) (r : PushRecord) (cause : AbortCause) (first : Option AbortCause)
      (h : (s.oven r.oven).phase = .pushing) : Steady s ((s.issueAll cs).makeStall r cause first) :=
    .trans (t := s.issueAll cs) (.of_ovens rfl) (State.steady_makeStall cause first h)
  unfold State.abortPush
  split
  · exact .refl s
  · next r present =>
    have phase := pushed r present
    split
    · exact State.steady_undoPush cause phase
    · exact State.steady_undoPush cause phase
    · split_ifs
      · exact stalls _ r _ _ phase
      · exact retreats r
    · exact stalls _ r _ _ phase
    · exact Steady.trans (t := s.issueAll _) (.of_ovens rfl) (State.steady_completePush _)
    · unfold State.abortRetreat
      split
      · exact .of_ovens rfl
      · exact stalls _ r _ _ phase
      · exact State.steady_makeStall _ _ phase

theorem State.progresses_abortPush (s : State) (cause : AbortCause) : Progresses s (s.abortPush cause) := fun sound =>
  State.steady_abortPush cause fun _ present => (s.oven_phase _).trans (sound.pushed _ (s.roster_push_of_some present)).2

theorem State.progresses_faultCar (s : State) (c : Car) (cause : FaultCause) : Progresses s (s.faultCar c cause) := by
  have faulted : Steady s (s.enterFaulted c cause) := .of_ovens rfl
  intro sound
  unfold State.faultCar
  dsimp only
  split_ifs
  · exact faulted.trans (State.progresses_abortPush _ .car sound)
  · exact faulted

/-! ### The stages of a push -/

theorem State.steady_judgeSpot (s : State) : Steady s s.judgeSpot := by
  unfold State.judgeSpot
  split
  · next r _ =>
    split_ifs
    · exact .after (t := State.evalValve _ r.oven) (.of_ovens rfl) (.after (State.steady_evalValve _ r.oven) (.of_ovens rfl))
    · exact .refl s
  · exact .refl s

theorem State.steady_completeRam (s : State) (r : PushRecord) : Steady s (s.completeRam r) := by
  have struck : Steady s (s.judgeStroke r) := by
    unfold State.judgeStroke
    split_ifs
    · exact .after (t := s.setOven r.oven _) (.of_ovens rfl) (.setOven_same rfl rfl)
    · exact .refl s
  have handed (t : State) : (t.handOver r).ovens = t.ovens := by
    unfold State.handOver
    split_ifs <;> simp
  unfold State.completeRam
  dsimp only
  split
  · exact struck.trans (.of_ovens (handed _))
  · exact struck.trans (.of_ovens (handed _))

theorem steady_pusherReport (x : PusherReport) (s : State) : Steady s (pusherReport x s) := by
  have seen : Steady s (s.withPu { s.pu with pusher := .of x }) := .of_ovens rfl
  unfold pusherReport
  dsimp only
  split
  · exact seen
  · split
    · exact seen.trans (State.steady_judgeSpot _)
    · refine seen.trans ?_
      unfold State.judgeRam
      dsimp only
      split_ifs
      · exact Steady.trans (.of_ovens (by rfl)) (State.steady_completeRam (State.setPush _ _) _)
      · exact .of_ovens rfl
    all_goals exact seen

theorem steady_guideReport (x : GuideReport) (s : State) : Steady s (guideReport x s) := by
  have latched (t : State) : t.sendLatch.ovens = t.ovens := by
    unfold State.sendLatch
    split
    · rfl
    · split_ifs <;> rfl
  exact .after (State.steady_judgeSpot _) (.of_ovens (latched (s.withPu _)))

theorem State.progresses_confirm {s : State} {r : PushRecord} (e : OvenEntry) (present : s.pu.push = some r) :
    Progresses s (s.confirm r e) := by
  intro sound
  have pushed := (s.oven_phase _).trans (sound.pushed _ (s.roster_push_of_some present)).2
  unfold State.confirm
  split
  · exact .refl s
  · split_ifs <;> exact .of_ovens rfl
  · unfold State.completeDoorsOff
    split_ifs <;> exact .of_ovens rfl
  · exact .refl s
  · split_ifs
    · exact State.steady_completePush false
    · exact .refl s
  · split_ifs
    · exact State.steady_completeRetreat pushed
    · exact .refl s

theorem progresses_stageConfirmation (m : Fin 12) (entries : List OvenEntry) (s : State) :
    Progresses s (stageConfirmation m entries s) := by
  unfold stageConfirmation
  split
  · exact (Steady.refl s).progresses
  · next r present =>
    split
    · exact (Steady.refl s).progresses
    · next e _ =>
      exact State.progresses_confirm (s := s.withPu { s.pu with taken := some ⟨r.oven, entries, r.stage⟩ }) e present

theorem progresses_stageTimerExpiry (s : State) : Progresses s (stageTimerExpiry s) := by
  unfold stageTimerExpiry
  split
  · exact (Steady.refl s).progresses
  · split_ifs
    · exact s.progresses_abortPush _
    · exact (Steady.refl s).progresses

end

/-! ### Cars -/

theorem State.progresses_judgeCar (s : State) (c : Car) : Progresses s (s.judgeCar c) := by
  have arrives (l : Location) : Steady s (s.arrive c l) := by
    unfold State.arrive
    dsimp only
    split
    · exact .after (State.steady_judgeSpot _) (.of_ovens rfl)
    · unfold State.arriveTower
      split_ifs <;> exact .of_ovens rfl
    · unfold State.beginDump
      split <;> exact .of_ovens rfl
    all_goals exact .of_ovens rfl
  have loads : Steady s (s.loadCar c) := by
    unfold State.loadCar
    dsimp only
    split
    · split_ifs <;> exact .of_ovens rfl
    · exact .refl s
  have dumps : Steady s (s.endDump c) := by
    unfold State.endDump
    dsimp only
    split
    · exact .after (State.steady_evaluate _) (.of_ovens rfl)
    · exact .refl s
  unfold State.judgeCar State.judgeStatus
  dsimp only
  split_ifs
  · exact (Steady.refl s).progresses
  · exact s.progresses_faultCar c _
  · exact s.progresses_faultCar c _
  · exact (arrives _).progresses
  · split
    · exact loads.progresses
    · exact dumps.progresses
    · exact (Steady.refl s).progresses
    · exact (Steady.refl s).progresses

theorem progresses_carReport (c : Car) (x : CarReport) (s : State) : Progresses s (carReport c x s) :=
  State.progresses_judgeCar (s.setCar c _) c

theorem progresses_dumpTimerExpiry (c : Car) (s : State) : Progresses s (dumpTimerExpiry c s) := by
  unfold dumpTimerExpiry
  dsimp only
  split_ifs
  · exact s.progresses_faultCar c _
  · exact (Steady.of_ovens rfl).progresses
  · exact (Steady.refl s).progresses

theorem progresses_travelTimerExpiry (c : Car) (s : State) : Progresses s (travelTimerExpiry c s) := by
  unfold travelTimerExpiry
  dsimp only
  split_ifs
  · exact s.progresses_faultCar c _
  · exact (Steady.of_ovens rfl).progresses
  · exact (Steady.refl s).progresses

theorem progresses_carNodeSilence (c : Car) (s : State) : Progresses s (carNodeSilence c s) := by
  unfold carNodeSilence
  split_ifs
  · exact s.progresses_faultCar c _
  · exact (Steady.refl s).progresses

end Sys2Proof.Machine

/-!
SUPPORT. The requests, the links, battery time and the pins keep the law of R19; the push law.
-/

namespace Sys2Proof.Machine

/-! ### Requests that write oven records -/

theorem steady_chargeBegin (oven : Byte) (s : State) : Steady s (chargeBegin oven s).state := by
  unfold chargeBegin
  dsimp only
  split
  · exact .refl s
  · exact .after (State.steady_evalValve _ _) (.setOven fun _ => ⟨Nat.zero_le _, fun _ => rfl, by simp [Oven.beginCharge]⟩)

theorem steady_chargeEnd (oven : Byte) (s : State) : Steady s (chargeEnd oven s).state := by
  have ended {o : Oven} (l : o.ProgressLawful) : o.endCharge.ProgressLawful := ⟨l.1, by simp [Oven.endCharge], by simp [Oven.endCharge]⟩
  unfold chargeEnd
  dsimp only
  split_ifs
  · exact .refl s
  · exact .refl s
  · exact .refl s
  · exact .after (State.steady_evalValve _ _) (.setOven ended)

theorem steady_setTrim (oven : Byte) (trim : Half) (inhibit offset : Byte) (s : State) :
    Steady s (setTrim oven trim inhibit offset s).state := by
  unfold setTrim
  dsimp only
  split_ifs
  · exact .refl s
  · exact .refl s
  · exact .setOven_same rfl rfl

theorem steady_setPlan (oven soak : Byte) (s : State) : Steady s (setPlan oven soak s).state := by
  unfold setPlan
  dsimp only
  split_ifs
  · exact .refl s
  · exact .setOven_same rfl rfl

theorem steady_doorService (oven side action : Byte) (s : State) : Steady s (doorService oven side action s).state := by
  unfold doorService
  dsimp only
  split_ifs
  · exact .refl s
  · split
    · split
      · exact .refl s
      · exact s.steady_setDoor _ _ _
    · exact .refl s

theorem State.steady_evalManual (s : State) (n : Nat) : Steady s (s.evalManual n) := by
  unfold State.evalManual
  dsimp only
  split_ifs
  · exact s.steady_applyValve n _
  · exact s.steady_evalValve n

theorem steady_setValveManual (oven : Byte) (position : Half) (s : State) : Steady s (setValveManual oven position s).state := by
  unfold setValveManual
  dsimp only
  split_ifs
  · exact .refl s
  · exact .after (State.steady_evalManual _ _) (.setOven_same rfl rfl)

theorem steady_releaseValve (oven : Byte) (s : State) : Steady s (releaseValve oven s).state := by
  unfold releaseValve
  dsimp only
  split_ifs
  · exact .refl s
  · exact .refl s
  · exact .after (State.steady_evalValve _ _) (.setOven_same rfl rfl)

theorem steady_hold (f c m : Byte) (s : State) : Steady s (hold f c m s).state := by
  unfold hold
  dsimp only
  split_ifs
  · exact .refl s
  · exact .refl s
  · exact .refl s
  · exact .map_numbered rfl fun x => by split <;> exact ⟨rfl, rfl⟩

theorem steady_collect (s : State) : Steady s (collect s).state :=
  .map_numbered rfl fun x => by split <;> exact ⟨rfl, rfl⟩

theorem steady_releaseHolds (s : State) : Steady s (releaseHolds s).state := by
  intro l y hy
  obtain ⟨o, ho, rfl⟩ := List.mem_map.mp hy
  exact (l o ho).of_same rfl rfl

/-- The P that OVEN_LOAD takes is as the loaded phase requires (R212). -/
theorem Oven.load_lawful {o : Oven} {p : Phase} (loaded : p ≠ .pushing ∧ p ≠ .stalled) (x k l : Nat) (c : Word) :
    (o.load p x k l c).ProgressLawful := by
  have full : Config.fullProgress = 16777216 := rfl
  cases p with
  | pushing => exact absurd rfl loaded.1
  | stalled => exact absurd rfl loaded.2
  | coking => exact ⟨(min_le_left 16777215 x).trans (by decide), by simp [Oven.load], by simp [Oven.load]⟩
  | _ => simp [Oven.ProgressLawful, Oven.load, loadedProgress, full]

theorem steady_ovenLoad (n p : Byte) (x m : Word) (k : Half) (s : State) : Steady s (ovenLoad n p x m k s).state := by
  unfold ovenLoad
  dsimp only
  split_ifs
  · exact .refl s
  · exact .refl s
  · split
    · exact .refl s
    · next loads =>
      exact .after (State.steady_evalValve _ _) (.setOven fun _ => Oven.load_lawful (Phase.ofLoad_phase loads) _ _ _ _)

theorem steady_start (s : State) : Steady s (start s).state := by
  unfold start
  split
  · exact .refl s
  · exact .after (State.steady_evalMain _) (.after (State.steady_evalValves _ _) (.after (State.steady_startDoors _) (.of_ovens rfl)))

theorem steady_stop (s : State) : Steady s (stop s).state := by
  unfold stop
  split_ifs
  · exact .refl s
  · exact .refl s
  · exact .after (State.steady_evalMain _) (.after (State.steady_evalValves _ _) (.of_ovens rfl))

/-! ### The push unit's requests -/

theorem progresses_pushNow (oven : Byte) (s : State) : Progresses s (pushNow oven s).state := by
  intro sound
  unfold pushNow
  dsimp only
  split
  · exact .refl s
  · next passes =>
    split
    · exact .refl s
    · exact State.steady_startPush .manual _ (State.pushRefusal_none passes |>.2.2.2)

theorem progresses_abortPushRequest (number : Half) (s : State) : Progresses s (abortPush number s).state := by
  unfold abortPush
  split_ifs
  · exact (Steady.refl s).progresses
  · split
    · exact (Steady.refl s).progresses
    · split_ifs
      · exact (Steady.refl s).progresses
      · exact (Steady.refl s).progresses
      · exact s.progresses_abortPush .host

theorem State.releaseStalled_ovens (s : State) (r : StallRecord) : (s.releaseStalled r).ovens = s.ovens := by
  unfold State.releaseStalled
  split_ifs <;> simp

/-- An oven READY after a stall was STALLED before, and a STALLED oven needs the same P (R19, R78). -/
theorem Oven.unstall_lawful {o : Oven} (l : o.ProgressLawful) (stalled : o.phase = .stalled) (pushed : Bool) (number : Half) :
    (o.unstall pushed number).ProgressLawful := by
  cases pushed with
  | true => exact ⟨Nat.zero_le _, fun _ => rfl, by simp [Oven.unstall]⟩
  | false => exact ⟨l.1, by simp [Oven.unstall], fun _ => l.2.2 (.inr (.inr (.inr stalled)))⟩

theorem State.steady_clearStall {s : State} {r : StallRecord} (stalled : (s.oven r.oven).phase = .stalled) (pushed : Bool) :
    Steady s (s.clearStall r pushed) := by
  unfold State.clearStall
  dsimp only
  refine .after (State.steady_evalValve _ _) (.after (t := s.setOven r.oven ((s.oven r.oven).unstall pushed r.number)) ?_
    (.setOven fun l => Oven.unstall_lawful l stalled pushed _))
  exact .of_ovens (by simp only [State.raise_ovens, State.withPu_ovens, State.releaseStalled_ovens, State.issueAll_ovens])

theorem progresses_clearStall (result : Byte) (s : State) : Progresses s (clearStall result s).state := by
  intro sound
  unfold clearStall
  split_ifs
  · exact .refl s
  · split
    · exact .refl s
    · split
      · exact .refl s
      · next r present =>
        exact State.steady_clearStall ((s.oven_phase _).trans (sound.stalled _ (by simp [State.roster, present])).2) _

/-! ### Requests that leave the oven records alone -/

section
variable (s : State)

theorem ovens_setTime (m : Word) : (setTime m s).state.ovens = s.ovens := by unfold setTime; split_ifs <;> rfl

theorem ovens_setHeat (x : Byte) (v : Half) : (setHeat x v s).state.ovens = s.ovens := by unfold setHeat; split_ifs <;> rfl

theorem ovens_selectHeat (x : Byte) : (selectHeat x s).state.ovens = s.ovens := by unfold selectHeat; split_ifs <;> rfl

theorem ovens_queryOven (n : Byte) : (queryOven n s).state.ovens = s.ovens := by unfold queryOven; dsimp only; split_ifs <;> rfl

theorem ovens_setSeries (k j n : Byte) : (setSeries k j n s).state.ovens = s.ovens := by unfold setSeries; split_ifs <;> rfl

theorem ovens_setScheduleMode (m : Byte) : (setScheduleMode m s).state.ovens = s.ovens := by
  unfold setScheduleMode
  split
  · rfl
  · split <;> rfl

theorem ovens_queueOutOfTurn (n : Byte) : (queueOutOfTurn n s).state.ovens = s.ovens := by
  unfold queueOutOfTurn
  dsimp only
  split <;> rfl

theorem ovens_withdraw (n : Byte) : (withdraw n s).state.ovens = s.ovens := by
  unfold withdraw
  dsimp only
  split_ifs <;> rfl

theorem ovens_setExclusionFrame (g n : Byte) : (setExclusionFrame g n s).state.ovens = s.ovens := by
  unfold setExclusionFrame State.afterExclusion
  split_ifs <;> simp [State.refuse, State.reply]

theorem ovens_writeExclusionWord (i : Byte) (w : Half) : (writeExclusionWord i w s).state.ovens = s.ovens := by
  unfold writeExclusionWord State.afterExclusion
  split_ifs <;> simp [State.refuse, State.reply]

theorem ovens_queryDoors (n : Byte) : (queryDoors n s).state.ovens = s.ovens := by unfold queryDoors; dsimp only; split_ifs <;> rfl

theorem ovens_setProfilePoint (i : Byte) (v : Half) : (setProfilePoint i v s).state.ovens = s.ovens := by
  unfold setProfilePoint
  split_ifs <;> rfl

theorem ovens_setMain (a : Half) (b c d e : Byte) (f : Half) : (setMain a b c d e f s).state.ovens = s.ovens := by
  unfold setMain State.evalMainManual
  split
  · rfl
  · dsimp only
    split_ifs <;> rfl

theorem ovens_queryPressure (n : Byte) : (queryPressure n s).state.ovens = s.ovens := by
  unfold queryPressure
  split_ifs <;> rfl

theorem ovens_setZones (z : Byte) (es : List (Byte × Byte)) : (setZones z es s).state.ovens = s.ovens := by
  unfold setZones
  split
  · rfl
  · split
    · rfl
    · split <;> rfl

theorem steady_carServiceIn (car : Byte) : Steady s (carServiceIn car s).state := by
  unfold carServiceIn
  split
  · exact .refl s
  · split_ifs
    · exact .refl s
    · exact .refl s
    · exact .after (State.steady_evaluate _) (.of_ovens rfl)

theorem State.ovens_endReservation (c : Car) : (s.endReservation c).ovens = s.ovens := by
  unfold State.endReservation
  split
  · rfl
  · dsimp only
    split_ifs
    · rfl
    · simp

theorem State.ovens_recoverCar (c : Car) : (s.recoverCar c).ovens = s.ovens := by
  have left : (s.leaveTower c).ovens = s.ovens := by
    unfold State.leaveTower
    split_ifs <;> simp
  have claim (t : State) : (t.clearStallClaim c).ovens = t.ovens := by
    unfold State.clearStallClaim
    split_ifs <;> rfl
  simp [State.recoverCar, claim, State.ovens_endReservation, left]

theorem ovens_carServiceOut (car : Byte) : (carServiceOut car s).state.ovens = s.ovens := by
  unfold carServiceOut
  split
  · rfl
  · dsimp only
    split
    case h_3 => exact s.ovens_recoverCar _
    all_goals rfl

theorem ovens_setBattery (n : Byte) : (setBattery n s).state.ovens = s.ovens := by
  unfold setBattery
  split_ifs <;> rfl

/-! ### The supervisory link -/

theorem progresses_ownerOf (c : Instr) : Progresses s (ownerOf c s).state := by
  cases c with
  | chargeBegin => exact (steady_chargeBegin _ s).progresses
  | chargeEnd => exact (steady_chargeEnd _ s).progresses
  | setTrim => exact (steady_setTrim _ _ _ _ s).progresses
  | setPlan => exact (steady_setPlan _ _ s).progresses
  | doorService => exact (steady_doorService _ _ _ s).progresses
  | setValveManual => exact (steady_setValveManual _ _ s).progresses
  | releaseValve => exact (steady_releaseValve _ s).progresses
  | hold => exact (steady_hold _ _ _ s).progresses
  | collect => exact (steady_collect s).progresses
  | releaseHolds => exact (steady_releaseHolds s).progresses
  | ovenLoad => exact (steady_ovenLoad _ _ _ _ _ s).progresses
  | start => exact (steady_start s).progresses
  | stop => exact (steady_stop s).progresses
  | pushNow => exact progresses_pushNow _ s
  | abortPush => exact progresses_abortPushRequest _ s
  | clearStall => exact progresses_clearStall _ s
  | carServiceIn => exact (steady_carServiceIn s _).progresses
  | setTime => exact (Steady.of_ovens (ovens_setTime s _)).progresses
  | setHeat => exact (Steady.of_ovens (ovens_setHeat s _ _)).progresses
  | selectHeat => exact (Steady.of_ovens (ovens_selectHeat s _)).progresses
  | queryOven => exact (Steady.of_ovens (ovens_queryOven s _)).progresses
  | setSeries => exact (Steady.of_ovens (ovens_setSeries s _ _ _)).progresses
  | setScheduleMode => exact (Steady.of_ovens (ovens_setScheduleMode s _)).progresses
  | queueOutOfTurn => exact (Steady.of_ovens (ovens_queueOutOfTurn s _)).progresses
  | withdraw => exact (Steady.of_ovens (ovens_withdraw s _)).progresses
  | setExclusionFrame => exact (Steady.of_ovens (ovens_setExclusionFrame s _ _)).progresses
  | writeExclusionWord => exact (Steady.of_ovens (ovens_writeExclusionWord s _ _)).progresses
  | queryDoors => exact (Steady.of_ovens (ovens_queryDoors s _)).progresses
  | setProfilePoint => exact (Steady.of_ovens (ovens_setProfilePoint s _ _)).progresses
  | setMain => exact (Steady.of_ovens (ovens_setMain s _ _ _ _ _ _)).progresses
  | queryPressure => exact (Steady.of_ovens (ovens_queryPressure s _)).progresses
  | setZones => exact (Steady.of_ovens (ovens_setZones s _ _)).progresses
  | carServiceOut => exact (Steady.of_ovens (ovens_carServiceOut s _)).progresses
  | setBattery => exact (Steady.of_ovens (ovens_setBattery s _)).progresses
  | _ => exact (Steady.refl s).progresses

theorem progresses_ownerOfFrame (f : Frame) : Progresses s (ownerOfFrame f s).state := by
  unfold ownerOfFrame
  cases decodeRequest f with
  | request c => exact progresses_ownerOf s c
  | badValue | badLength | unknownKind => exact (Steady.refl s).progresses

end

section
variable {owner : State → Answer} (f : Frame) (owned : ∀ s, Progresses s (owner s).state) (s : State)
include owned

theorem progresses_takeRequest : Progresses s (takeRequest f owner s) := by
  unfold takeRequest
  split_ifs
  · exact (Steady.of_ovens rfl).progresses
  · exact owned (s.withSl { s.sl with inService := some f })

theorem progresses_acceptFrame : Progresses s (acceptFrame f owner s) := by
  unfold acceptFrame
  split
  · exact progresses_takeRequest f owned s
  · exact (Steady.of_ovens rfl).progresses
  · exact (Steady.of_ovens rfl).progresses

end

theorem progresses_supFrameComplete (f : Frame) (received : Half) (s : State) : Progresses s (supFrameComplete f received s) := by
  unfold supFrameComplete
  split_ifs
  · exact progresses_acceptFrame f (fun s => progresses_ownerOfFrame s f) (s.supReceive .hunt)
  · exact (Steady.of_ovens rfl).progresses

theorem progresses_supervisoryByteReceived (b : Byte) (s : State) : Progresses s (supervisoryByteReceived b s) := by
  unfold supervisoryByteReceived State.supCollect
  split
  · exact (Steady.of_ovens rfl).progresses
  · exact (Steady.refl s).progresses
  · split_ifs
    · exact (Steady.of_ovens rfl).progresses
    · split
      · exact progresses_supFrameComplete _ _ s
      · exact (Steady.of_ovens rfl).progresses

theorem progresses_replySent (s : State) : Progresses s (replySent s) := by
  have taken (t : State) : Progresses t t.takeSpare := by
    unfold State.takeSpare
    split
    · next f _ => exact progresses_takeRequest f (fun s => progresses_ownerOfFrame s f) (t.withSl { t.sl with spare := none })
    · exact (Steady.refl t).progresses
  unfold replySent
  split_ifs
  · intro sound
    exact .after (.of_ovens rfl) (taken (s.withSl { s.sl with transmitter := .idle, replySlot := none, inService := none }) sound)
  · exact (Steady.refl s).progresses

/-! ### Events -/

section
variable (s : State)

theorem ovens_supSilence : (supSilence s).ovens = s.ovens := by unfold supSilence; split <;> rfl

theorem ovens_noticeSent : (noticeSent s).ovens = s.ovens := by unfold noticeSent; split <;> rfl

theorem ovens_silenceWindowExpiry (x : Node) : (silenceWindowExpiry x s).ovens = s.ovens := by
  unfold silenceWindowExpiry
  split_ifs <;> rfl

theorem ovens_fieldFrameReceived (id kind : Byte) (body : List Byte) (received : Half) :
    (fieldFrameReceived id kind body received s).ovens = s.ovens := by
  have refreshed (t : State) (x : Node) : (t.refresh x).ovens = t.ovens := by
    unfold State.refresh
    dsimp only
    split <;> rfl
  unfold fieldFrameReceived State.takeFieldFrame
  split_ifs
  · rfl
  · rfl
  · split
    · rfl
    · split_ifs
      · split
        · simp [State.takeReport, State.fieldReceive, refreshed, ovens_silenceWindowExpiry]
        · rfl
      · rfl

theorem ovens_fieldByteReceived (b : Byte) : (fieldByteReceived b s).ovens = s.ovens := by
  unfold fieldByteReceived State.fieldCollect
  split
  · rfl
  · split
    · rfl
    · rfl
    · split
      · rfl
      · split
        · exact ovens_fieldFrameReceived s _ _ _ _
        · rfl

theorem ovens_fieldLineIdle : (fieldLineIdle s).ovens = s.ovens := by unfold fieldLineIdle; split_ifs <;> rfl

theorem ovens_fieldFrameSent : (fieldFrameSent s).ovens = s.ovens := by unfold fieldFrameSent; split_ifs <;> rfl

theorem ovens_towerReport (x : TowerReport) : (towerReport x s).ovens = s.ovens := by
  unfold towerReport
  dsimp only
  split
  · split_ifs <;> rfl
  · rfl

theorem ovens_runMainLoop : s.runMainLoop.ovens = s.ovens := by unfold State.runMainLoop; dsimp only; split <;> rfl

theorem ovens_mainReport (x : MainReport) : (mainReport x s).ovens = s.ovens := by
  unfold mainReport
  dsimp only
  rw [ovens_runMainLoop]
  split_ifs <;> simp

theorem ovens_quenchTimerExpiry (c : Car) : (quenchTimerExpiry c s).ovens = s.ovens := by
  unfold quenchTimerExpiry
  dsimp only
  split_ifs <;> rfl

theorem ovens_drainTimerExpiry (c : Car) : (drainTimerExpiry c s).ovens = s.ovens := by
  have left (t : State) : (t.leaveTower c).ovens = t.ovens := by
    unfold State.leaveTower
    split_ifs <;> simp
  have sought (t : State) : (t.seekBay c).ovens = t.ovens := by
    unfold State.seekBay
    split <;> simp
  unfold drainTimerExpiry
  dsimp only
  split_ifs <;> simp [left, sought]

theorem ovens_bayHoldTimerExpiry (b : Nat) : (bayHoldTimerExpiry b s).ovens = s.ovens := by
  unfold bayHoldTimerExpiry
  split_ifs <;> simp

theorem ovens_hotCokeTimerExpiry (c : Car) : (hotCokeTimerExpiry c s).ovens = s.ovens := by
  unfold hotCokeTimerExpiry
  dsimp only
  split_ifs <;> rfl

theorem ovens_silenceAtSu (x : Node) : (silenceAtSu x s).ovens = s.ovens := by
  unfold silenceAtSu
  split_ifs <;> simp

theorem ovens_mainNodeSilence : (mainNodeSilence s).ovens = s.ovens := by simp [mainNodeSilence, State.setFloor]

theorem ovens_mainNodeReturn : (mainNodeReturn s).ovens = s.ovens := by simp [mainNodeReturn, State.setFloor]

theorem ovens_estopAssertion : (estopAssertion s).ovens = s.ovens := by unfold estopAssertion; split_ifs <;> rfl

theorem ovens_estopRelease : (estopRelease s).ovens = s.ovens := by unfold estopRelease; split_ifs <;> rfl

theorem ovens_estopAtQu : (estopAtQu s).ovens = s.ovens := by
  have halted (t : State) (c : Car) : (t.haltCar c).ovens = t.ovens := by
    unfold State.haltCar
    split_ifs <;> rfl
  rw [estopAtQu, halted, halted]

theorem ovens_estopReleaseAtQu : (estopReleaseAtQu s).ovens = s.ovens := by
  have resumed (t : State) (c : Car) : (t.resumeCar c).ovens = t.ovens := by
    unfold State.resumeCar
    split <;> rfl
  rw [estopReleaseAtQu, resumed, resumed]

theorem steady_batterySecond : Steady s (batterySecond s) := by
  have counted (t : State) : Steady t t.tickRun :=
    .map_numbered rfl fun x => by split <;> exact ⟨rfl, rfl⟩
  unfold batterySecond
  dsimp only
  refine .after (.of_ovens (State.bringOwed_ovens ..)) ?_
  split_ifs
  · exact .after (counted _) (.of_ovens rfl)
  · exact .of_ovens rfl

theorem steady_cokeMinuteExpiry : Steady s (cokeMinuteExpiry s) := by
  unfold cokeMinuteExpiry
  split_ifs
  · exact .after (State.steady_evaluate _) s.steady_stepMinute
  · exact .refl s

theorem steady_slotCarry : Steady s (slotCarry s) := by
  unfold slotCarry
  dsimp only
  split_ifs
  · exact .of_ovens rfl
  · exact .after (State.steady_evaluate _) (.of_ovens rfl)
  · exact .refl s

theorem State.steady_takeReset (baud : Baud) (estop : Bool) : Steady s (s.takeReset baud estop) := by
  intro _ o ho
  have fresh : o = Oven.reset := List.eq_of_mem_replicate (show o ∈ List.replicate 96 Oven.reset from ho)
  rw [fresh]
  exact ⟨Nat.zero_le _, fun _ => rfl, by simp [Oven.reset]⟩

theorem steady_resetReleased (b1 b0 low : Bool) : Steady s (resetReleased b1 b0 low s) := by
  unfold resetReleased
  split_ifs
  · exact s.steady_takeReset _ _
  · exact .refl s

theorem steady_powerUp (high b1 b0 low : Bool) : Steady s (powerUp high b1 b0 low s) := by
  unfold powerUp
  dsimp only
  split_ifs
  · exact s.steady_takeReset _ _
  · exact .after (t := s.takeReset (baudOf b1 b0) low) (.of_ovens rfl) (s.steady_takeReset _ _)

end

/-! ### The step -/

section
variable {s t : State} {c : Instr} {f : State → State}

theorem State.progresses_event (acts : ∀ s, Progresses s (f s)) (h : s.event c f = .next t) : Progresses s t := by
  unfold State.event at h
  cases h
  split_ifs
  · exact (Steady.refl s).progresses
  · exact acts (s.withDue (s.due.erase c))

theorem State.progresses_checked (acts : ∀ s, Progresses s (f s)) (h : s.checked c f = .next t) : Progresses s t := by
  unfold State.checked at h
  split_ifs at h
  exact State.progresses_event acts h

theorem State.steady_event (acts : ∀ s, Steady s (f s)) (h : s.event c f = .next t) : Progresses s t :=
  State.progresses_event (fun s => (acts s).progresses) h

theorem State.steady_checked (acts : ∀ s, Steady s (f s)) (h : s.checked c f = .next t) : Progresses s t :=
  State.progresses_checked (fun s => (acts s).progresses) h

theorem State.event_of_ovens (keeps : ∀ s, (f s).ovens = s.ovens) (h : s.event c f = .next t) : Progresses s t :=
  State.steady_event (fun s => .of_ovens (keeps s)) h

theorem State.checked_of_ovens (keeps : ∀ s, (f s).ovens = s.ovens) (h : s.checked c f = .next t) : Progresses s t :=
  State.steady_checked (fun s => .of_ovens (keeps s)) h

theorem progresses_hostRequest (h : hostRequest c (ownerOf c) s = .next t) : Progresses s t := by
  unfold hostRequest at h
  split at h
  · next f _ => exact State.progresses_checked (progresses_acceptFrame f fun s => progresses_ownerOf s c) h
  · cases h

/-- Every command keeps the law of R19 where the records name ovens PUSHING and STALLED. -/
theorem progresses_exec (h : exec c s = .next t) : Progresses s t := by
  have request : hostRequest c (ownerOf c) s = .next t → Progresses s t := progresses_hostRequest
  cases c with
  | supFrameComplete => exact State.progresses_checked (progresses_supFrameComplete _ _) h
  | supSilence => exact State.event_of_ovens ovens_supSilence h
  | replySent => exact State.progresses_event progresses_replySent h
  | noticeSent => exact State.event_of_ovens ovens_noticeSent h
  | sRtsAsserted =>
    change (if s.pins.inReset then _ else _) = _ at h
    split_ifs at h
    · cases h; exact (Steady.of_ovens rfl).progresses
    · exact State.event_of_ovens (f := sRtsAsserted) (fun _ => rfl) h
  | sRtsDeasserted =>
    change (if s.pins.inReset then _ else _) = _ at h
    split_ifs at h
    · cases h; exact (Steady.of_ovens rfl).progresses
    · exact State.event_of_ovens (f := sRtsDeasserted) (fun _ => rfl) h
  | fieldFrameReceived => exact State.checked_of_ovens (fun s => ovens_fieldFrameReceived s _ _ _ _) h
  | fieldByteReceived => exact State.event_of_ovens (fun s => ovens_fieldByteReceived s _) h
  | fieldLineIdle => exact State.event_of_ovens ovens_fieldLineIdle h
  | fieldFrameSent => exact State.event_of_ovens ovens_fieldFrameSent h
  | pusherReport => exact State.steady_checked (steady_pusherReport _) h
  | guideReport => exact State.steady_checked (steady_guideReport _) h
  | carReport => exact State.progresses_checked (progresses_carReport _ _) h
  | towerReport => exact State.event_of_ovens (fun s => ovens_towerReport s _) h
  | mainReport => exact State.event_of_ovens (fun s => ovens_mainReport s _) h
  | ovenReport => exact State.steady_checked (steady_ovenReport _ _) h
  | ovenSample => exact State.steady_checked (steady_ovenSample _ _) h
  | stageConfirmation => exact State.progresses_checked (progresses_stageConfirmation _ _) h
  | batterySecond => exact State.steady_event steady_batterySecond h
  | slotCarry => exact State.steady_event steady_slotCarry h
  | cokeMinuteExpiry => exact State.steady_event steady_cokeMinuteExpiry h
  | chargeTimerExpiry => exact State.steady_checked (steady_chargeTimerExpiry _) h
  | stageTimerExpiry => exact State.progresses_event progresses_stageTimerExpiry h
  | settleTimerExpiry => exact State.steady_checked (steady_settleTimerExpiry _ _) h
  | doorOffTimerExpiry => exact State.steady_checked (steady_doorOffTimerExpiry _ _) h
  | quenchTimerExpiry => exact State.event_of_ovens (fun s => ovens_quenchTimerExpiry s _) h
  | drainTimerExpiry => exact State.event_of_ovens (fun s => ovens_drainTimerExpiry s _) h
  | dumpTimerExpiry => exact State.progresses_event (progresses_dumpTimerExpiry _) h
  | bayHoldTimerExpiry => exact State.checked_of_ovens (fun s => ovens_bayHoldTimerExpiry s _) h
  | travelTimerExpiry => exact State.progresses_event (progresses_travelTimerExpiry _) h
  | hotCokeTimerExpiry => exact State.event_of_ovens (fun s => ovens_hotCokeTimerExpiry s _) h
  | silenceWindowExpiry => exact State.event_of_ovens (fun s => ovens_silenceWindowExpiry s _) h
  | machineSilenceAtPu k => exact State.progresses_event (f := machineSilenceAtPu k) (fun s => s.progresses_abortPush _) h
  | silenceAtSu => exact State.checked_of_ovens (fun s => ovens_silenceAtSu s _) h
  | carNodeSilence => exact State.progresses_event (progresses_carNodeSilence _) h
  | towerNodeSilence => exact State.event_of_ovens (f := towerNodeSilence) (fun _ => rfl) h
  | mainNodeSilence => exact State.event_of_ovens ovens_mainNodeSilence h
  | ovenNodeSilence => exact State.steady_event (steady_ovenNodeSilence _) h
  | ovenNodeReturn => exact State.steady_event (f := ovenNodeReturn _) (fun s => s.steady_evalValves _) h
  | mainNodeReturn => exact State.event_of_ovens ovens_mainNodeReturn h
  | towerNodeReturn => exact State.event_of_ovens (f := towerNodeReturn) (fun _ => State.issueAll_ovens ..) h
  | estopAssertion => exact State.event_of_ovens ovens_estopAssertion h
  | estopAtPu => exact State.progresses_event (f := estopAtPu) (fun s => s.progresses_abortPush .estop) h
  | estopAtSu => exact State.event_of_ovens (f := estopAtSu) (fun _ => State.pauseSchedule_ovens ..) h
  | estopAtQu => exact State.event_of_ovens ovens_estopAtQu h
  | estopRelease => exact State.event_of_ovens ovens_estopRelease h
  | estopReleaseAtQu => exact State.event_of_ovens ovens_estopReleaseAtQu h
  | resetAsserted => cases h; exact (Steady.of_ovens rfl).progresses
  | resetReleased => cases h; exact (steady_resetReleased s _ _ _).progresses
  | powerUp => cases h; exact (steady_powerUp s _ _ _ _).progresses
  | supervisoryByteReceived => exact State.progresses_event (progresses_supervisoryByteReceived _) h
  | _ => exact request h

theorem progresses_step (h : step s = .next t) : Progresses s t := by
  unfold step at h
  split at h
  · next _ rest _ => exact progresses_exec (s := s.withPending rest) h
  · exact progresses_exec h
  · cases h; exact (Steady.refl s).progresses

end

/-- Settles O10: the records and phases by the moves of the roster, P by what every step writes. -/
theorem everyStepKeepsThePushLaw : Obligations.EveryStepKeepsThePushLaw := by
  intro s t shape push h
  have sound := roster_sound shape push
  have both : t.roster.Sound ∧ t.roster.Named :=
    (reach_step h).keeps (law := fun r => r.Sound ∧ r.Named)
      (fun step _ both => ⟨step.keeps_sound both.1, step.keeps_named both.1 both.2⟩) sound ⟨sound, roster_named shape push⟩
  exact pushLaw_of_roster both.1 both.2 (progresses_step h sound push.progress)

end Sys2Proof.Machine

/-!
SUPPORT. What an operation on one oven does to the whole part, as a deed: the oven's record, SU, PU and QU as it leaves them, its
commands and its notices. One rule per state operation; the operations of a push are read off them.
-/

namespace Sys2Proof.Machine

/-- What an operation leaves: the record of its oven and the units, with the commands it issues and the notices it raises. -/
structure Deed where
  oven : Oven
  su : ScheduleUnit
  pu : PushUnit
  qu : QuenchUnit
  commands : List Outgoing
  notices : List NoticeBody

/-- Nothing done yet. -/
def State.idle (s : State) (n : Nat) : Deed := ⟨s.oven n, s.su, s.pu, s.qu, [], []⟩

/-- From s to t exactly the deed d is done, to the records of oven n and of the units. What the links show of it is said with room
for its commands. -/
structure Does (n : Nat) (s t : State) (d : Deed) : Prop where
  keeps : Keeps [.ovens, .su, .pu, .qu, .fl, .sl] s t
  ovens : t.ovens = s.ovens.set (n - 1) d.oven
  su : t.su = d.su
  pu : t.pu = d.pu
  qu : t.qu = d.qu
  nodes : t.fl.nodes = s.fl.nodes
  links : s.FieldRoom d.commands.length → Issued s t d.commands ∧ t.sl = (s.raiseAll d.notices).sl

namespace Deed

variable (d : Deed)

def issue (cs : List Outgoing) : Deed := { d with commands := d.commands ++ cs }

def raise (b : NoticeBody) : Deed := { d with notices := d.notices ++ [b] }

/-- The valve of oven n turns to mode m (R112, R113). -/
def turn (n : Nat) (m : ValveMode) : Deed :=
  { d with oven := d.oven.setValve (turnTo n m d.oven.valve).1, commands := d.commands ++ (turnTo n m d.oven.valve).2 }

end Deed

section
variable {n : Nat} {s t u : State} {d e : Deed}

theorem State.does_idle (s : State) (n : Nat) : Does n s s (s.idle n) where
  keeps := .refl _ s
  ovens := by
    refine (List.ext_getElem (by simp) fun i hi _ => ?_).symm
    rw [List.getElem_set]
    split_ifs with h
    · subst h
      simp only [List.length_set] at hi
      simp [State.idle, State.oven, hi]
    · rfl
  su := rfl
  pu := rfl
  qu := rfl
  nodes := rfl
  links _ := ⟨⟨by simp [State.idle], rfl, rfl⟩, rfl⟩

theorem Does.bk (h : Does n s t d) : t.bk = s.bk := h.keeps .bk (by simp)

theorem Does.pins (h : Does n s t d) : t.pins = s.pins := h.keeps .pins (by simp)

/-! ### One rule per state operation -/

theorem Does.issueAll (h : Does n s t d) (cs : List Outgoing) : Does n s (t.issueAll cs) (d.issue cs) where
  keeps := h.keeps.trans fun b hb => by
    cases b with
    | fl | sl => simp at hb
    | _ => rfl
  ovens := h.ovens
  su := h.su
  pu := h.pu
  qu := h.qu
  nodes := (t.issueAll_nodes cs).trans h.nodes
  links room := by
    simp only [State.FieldRoom, Deed.issue, List.length_append] at room
    obtain ⟨issued, sl⟩ := h.links (Nat.le_trans (by omega) room)
    obtain ⟨issued', sl'⟩ := t.issueAll_of_room cs (by rw [State.FieldRoom, issued.1, List.length_append]; omega)
    exact ⟨issued.trans issued', sl'.trans sl⟩

theorem Does.raise (h : Does n s t d) (b : NoticeBody) : Does n s (t.raise b) (d.raise b) where
  keeps := h.keeps.trans ((t.keeps_withSl _).mono (by simp))
  ovens := h.ovens
  su := h.su
  pu := h.pu
  qu := h.qu
  nodes := h.nodes
  links room := by
    obtain ⟨issued, sl⟩ := h.links room
    refine ⟨issued, ?_⟩
    rw [Deed.raise, ← State.raiseAll_append]
    exact State.raiseAll_sl_congr [b] sl (h.keeps .bk (by simp))

theorem Does.withPu (h : Does n s t d) (p : PushUnit) : Does n s (t.withPu p) { d with pu := p } :=
  { h with keeps := h.keeps.trans fun b hb => by cases b with | pu => simp at hb | _ => rfl, pu := rfl }

theorem Does.withSu (h : Does n s t d) (u : ScheduleUnit) : Does n s (t.withSu u) { d with su := u } :=
  { h with keeps := h.keeps.trans fun b hb => by cases b with | su => simp at hb | _ => rfl, su := rfl }

theorem Does.withQu (h : Does n s t d) (q : QuenchUnit) : Does n s (t.withQu q) { d with qu := q } :=
  { h with keeps := h.keeps.trans fun b hb => by cases b with | qu => simp at hb | _ => rfl, qu := rfl }

theorem Does.setPush (h : Does n s t d) (r : Option PushRecord) : Does n s (t.setPush r) { d with pu := { d.pu with push := r } } := by
  rw [← h.pu]
  exact h.withPu _

theorem Does.setCar (h : Does n s t d) (c : Car) (r : CarRecord) : Does n s (t.setCar c r) { d with qu := d.qu.setCar c r } := by
  rw [← h.qu]
  exact h.withQu _

theorem Does.setOven (h : Does n s t d) (o : Oven) : Does n s (t.setOven n o) { d with oven := o } where
  keeps := h.keeps.trans ((t.keeps_setOven n o).mono (by simp))
  ovens := by simp [State.setOven, h.ovens]
  su := h.su
  pu := h.pu
  qu := h.qu
  nodes := h.nodes
  links := h.links

section
variable (place : n - 1 < s.ovens.length)
include place

theorem Does.oven_self (h : Does n s t d) : t.oven n = d.oven := by
  simp [State.oven, h.ovens, place]

theorem Does.length (h : Does n s t d) : n - 1 < t.ovens.length := by
  simpa [h.ovens] using place

/-- The mode an evaluation gives is read from PU, the oven's record and what the deed leaves alone (R111). -/
theorem Does.valveMode_eq (h : Does n s t d) (k : Does n s u e) (pu : d.pu = e.pu)
    (inputs : d.oven.modeInputs = e.oven.modeInputs) : t.valveMode n = u.valveMode n := by
  refine State.valveMode_congr (congrArg BatteryClock.mode (h.bk.trans k.bk.symm)) ?_ (h.nodes.trans k.nodes.symm) ?_
  · rw [h.pu, k.pu, pu]
  · rw [h.oven_self place, k.oven_self place, inputs]

/-- An evaluation turns the valve to the mode it gives, which is still what an evaluation gives after it (R112). -/
theorem Does.evalValve (h : Does n s t d) : Does n s (t.evalValve n) (d.turn n ((t.evalValve n).valveMode n)) := by
  have turned (m : ValveMode) : Does n s (t.applyValve n (turnTo n m (t.oven n).valve)) (d.turn n m) := by
    rw [State.applyValve, h.oven_self place]
    exact (h.setOven _).issueAll _
  have mode : (t.evalValve n).valveMode n = t.valveMode n :=
    (turned (t.valveMode n)).valveMode_eq place h rfl (Oven.modeInputs_turnTo _ _ _)
  rw [mode]
  exact turned _

theorem Does.setPhase (h : Does n s t d) (p : Phase) : Does n s (t.setPhase n p) { d with oven := { d.oven with phase := p } } := by
  rw [State.setPhase, h.oven_self place]
  exact h.setOven _

end

theorem Does.car (h : Does n s t d) (c : Car) : t.car c = d.qu.car c := by rw [State.car, h.qu]

theorem Does.inService (h : Does n s t d) (room : s.FieldRoom d.commands.length) : t.sl.inService = s.sl.inService := by
  rw [(h.links room).2, State.raiseAll_inService]

/-! ### What a deed shows of itself -/

theorem Does.othersKept (h : Does n s t d) (low : 1 ≤ n) : OthersKept s t n := by
  intro m _ hm ne
  simp [State.oven, h.ovens, List.getD_eq_getElem?_getD, List.getElem?_set_ne (show n - 1 ≠ m - 1 by omega)]

theorem Does.issued (h : Does n s t d) (room : s.FieldRoom d.commands.length) : Issued s t d.commands := (h.links room).1

theorem Does.noticesOnly (h : Does n s t d) (field : s.FieldRoom d.commands.length) (room : s.NoticeRoom d.notices.length)
    (wait : s.NoticesWait) : NoticesOnly s t d.notices := by
  have raised := s.raiseAll_noticesOnly d.notices room wait
  rw [NoticesOnly, ← (h.links field).2] at *
  exact raised

/-- A deed that raises nothing leaves SL. -/
theorem Does.sl_of_quiet (h : Does n s t d) (field : s.FieldRoom d.commands.length) (quiet : d.notices = []) : t.sl = s.sl := by
  rw [(h.links field).2, quiet]
  rfl

theorem Does.ovens_of_same (h : Does n s t d) (same : d.oven = s.oven n) : t.ovens = s.ovens := by
  rw [h.ovens, same]
  exact (s.does_idle n).ovens.symm

/-- The frame of a deed done at an event: whatever part of it the deed leaves may be said to be kept. -/
theorem Does.frameOf {c : Instr} {l : List Block} (h : Does n (s.passed c) t d) (ovens : .ovens ∈ l ∨ d.oven = s.oven n)
    (su : .su ∈ l ∨ d.su = s.su) (pu : .pu ∈ l ∨ d.pu = s.pu) (qu : .qu ∈ l ∨ d.qu = s.qu) (fl : .fl ∈ l)
    (sl : .sl ∈ l ∨ t.sl = s.sl) : FrameOf c l s t := by
  refine ⟨fun b hb => ?_, h.keeps .due (by simp)⟩
  simp only [List.mem_cons, not_or] at hb
  obtain ⟨notDue, out⟩ := hb
  by_cases touched : b ∈ [Block.ovens, .su, .pu, .qu, .fl, .sl]
  · simp only [List.mem_cons, List.not_mem_nil, or_false] at touched
    rcases touched with rfl | rfl | rfl | rfl | rfl | rfl
    · exact h.ovens_of_same (s := s.passed c) (ovens.resolve_left out)
    · exact h.su.trans (su.resolve_left out)
    · exact h.pu.trans (pu.resolve_left out)
    · exact h.qu.trans (qu.resolve_left out)
    · exact absurd fl out
    · exact sl.resolve_left out
  · exact ((s.keeps_withDue _) b (by simpa using notDue)).trans (h.keeps b touched)

end

end Sys2Proof.Machine

/-!
SUPPORT. SPOT and its completion into ISOLATE (R62, R63): the statement about guide reports.
-/

namespace Sys2Proof.Machine

section
variable {n : Nat} {s t : State} {d : Deed} {r : PushRecord}

/-! ### Valves that R111's first condition shuts -/

theorem State.valveMode_of_stalled (h : (s.oven n).phase = .stalled) : s.valveMode n = .closed := by
  simp [State.valveMode, State.valveModeBy, h]

theorem State.valveMode_of_pushed (phase : (s.oven n).phase = .pushing) (push : s.pu.push = some r) (oven : r.oven = n)
    (stage : r.stage ≠ .spot) : s.valveMode n = .closed := by
  have past : s.pastSpot n = true := by simp [State.pastSpot, push, oven, stage]
  simp [State.valveMode, State.valveModeBy, phase, past]

/-- The oven of the push record has its place in the table. -/
theorem ShapeLaw.place_of_push (shape : ShapeLaw s) (law : PushLaw s) (push : s.pu.push = some r) :
    1 ≤ r.oven ∧ r.oven - 1 < s.ovens.length := by
  obtain ⟨low, high⟩ : 1 ≤ r.oven ∧ r.oven ≤ s.ovenCount := by simpa [State.inRange] using (law.pushed r push).1
  have count := shape.countHigh
  have size := shape.ovens
  omega

/-! ### The three conditions (R62) -/

theorem State.spotComplete_iff (s : State) (r : PushRecord) : s.spotComplete r = true ↔
    s.pu.pusher.position = r.oven ∧ s.pu.guide.position = r.oven ∧ s.pu.guide.latched = true ∧ r.claimed = true ∧
      (s.car r.car).state = .spotted ∧ (s.car r.car).position = .oven r.oven := by
  simp [State.spotComplete, and_assoc]

theorem State.judgeSpot_of_complete (push : s.pu.push = some r) (stage : r.stage = .spot) (complete : s.spotComplete r = true) :
    s.judgeSpot = s.enterIsolate r := by
  simp [State.judgeSpot, push, stage, complete]

theorem State.judgeSpot_of_not (h : ∀ r, s.pu.push = some r → r.stage = .spot → s.spotComplete r = false) : s.judgeSpot = s := by
  unfold State.judgeSpot
  split
  · next r push => exact if_neg fun both => by simp [h r push both.1] at both
  · rfl

/-- The record of a push that has entered ISOLATE (R63). -/
def State.isolating (s : State) (r : PushRecord) : PushRecord :=
  { r with stage := .isolate, entered := s.bk.seconds, timer := s.pu.limits.isolate }

/-- SPOT completes: the valve is shut and CAP open sent (R63, R114). -/
theorem Does.enterIsolate (h : Does r.oven s t d) (place : r.oven - 1 < s.ovens.length) (pushed : d.oven.phase = .pushing) :
    Does r.oven s (t.enterIsolate r)
      ((Deed.turn { d with pu := { d.pu with push := some (t.isolating r) } } r.oven .closed).issue
        [toOven r.oven (.cap r.oven true)]) := by
  have entered := (h.setPush (some (t.isolating r))).evalValve place
  have shut : ((t.setPush (some (t.isolating r))).evalValve r.oven).valveMode r.oven = .closed := by
    refine State.valveMode_of_pushed (r := t.isolating r) ?_ (by simp [State.setPush]) rfl nofun
    rw [entered.oven_self place]
    exact pushed
  rw [shut] at entered
  exact entered.issueAll _

/-- An event that completes SPOT, having left the ovens, SU and the links alone (R63). -/
theorem Does.isolates {c : Instr} {l : List Block} (h : Does r.oven (s.passed c) t d) (shape : ShapeLaw s) (law : PushLaw s)
    (push : s.pu.push = some r) (oven : d.oven = s.oven r.oven) (su : d.su = s.su) (limits : d.pu.limits = s.pu.limits)
    (commands : d.commands = []) (notices : d.notices = []) (room : s.FieldRoom 3)
    (frame : .ovens ∈ l ∧ .pu ∈ l ∧ .fl ∈ l ∧ (.qu ∈ l ∨ d.qu = s.qu)) :
    FrameOf c l s (t.enterIsolate r) ∧ (t.enterIsolate r).qu = d.qu ∧
      (t.enterIsolate r).pu = { d.pu with
        push := some { r with stage := .isolate, entered := s.bk.seconds, timer := s.pu.limits.isolate } } ∧
      OthersKept s (t.enterIsolate r) r.oven ∧
      (t.enterIsolate r).oven r.oven = (s.oven r.oven).setValve (turnTo r.oven .closed (s.oven r.oven).valve).1 ∧
      Issued s (t.enterIsolate r) ((turnTo r.oven .closed (s.oven r.oven).valve).2 ++ [⟨servingNode r.oven, .cap r.oven true⟩]) := by
  obtain ⟨low, place⟩ := shape.place_of_push law push
  have pushed : d.oven.phase = .pushing := oven ▸ (law.pushed r push).2
  have record : t.isolating r = { r with stage := .isolate, entered := s.bk.seconds, timer := s.pu.limits.isolate } := by
    simp only [State.isolating, h.bk, h.pu, limits]
    rfl
  have done := h.enterIsolate place pushed
  rw [record] at done
  have short := turnTo_length r.oven .closed (s.oven r.oven).valve
  simp only [Deed.turn, Deed.issue, oven, commands, List.nil_append] at done
  have field : s.FieldRoom ((turnTo r.oven .closed (s.oven r.oven).valve).2 ++ [toOven r.oven (.cap r.oven true)]).length := by
    simp only [State.FieldRoom, List.length_append, List.length_singleton] at room ⊢
    omega
  exact ⟨done.frameOf (.inl frame.1) (.inr su) (.inl frame.2.1) frame.2.2.2 frame.2.2.1 (.inr (done.sl_of_quiet field notices)),
    done.qu, done.pu, done.othersKept low, done.oven_self (by exact place), done.issued field⟩

/-! ### Guide reports (R57, R62) -/

theorem frameOf_withPu (s : State) (c : Instr) (p : PushUnit) : FrameOf c [.pu] s ((s.passed c).withPu p) := by
  refine ⟨fun b hb => ?_, rfl⟩
  cases b with
  | pu | due => simp at hb
  | _ => rfl

theorem exec_guideReport (x : GuideReport) (run : s.pins.inReset = false) (range : x.position ≤ 96) :
    exec (.guideReport x) s = .next (guideReport x (s.passed (.guideReport x))) := by
  have wf : (Instr.guideReport x).wf = true := decide_eq_true range
  exact (s.checked_of_wf _ _ wf).trans (s.event_of_run _ _ run)

/-- The state with the guide's view replaced by what a report gives. -/
def State.seeGuide (s : State) (x : GuideReport) : State := s.withPu { s.pu with guide := .of x }

theorem guideReport_eq (x : GuideReport) (s : State) : guideReport x s = (s.seeGuide x).sendLatch.judgeSpot := rfl

theorem State.sendLatch_of_not
    (h : ∀ r, s.pu.push = some r → r.stage = .spot → s.pu.guide.latched = false → r.latchSent = true ∨ s.pu.guide.position ≠ r.oven) :
    s.sendLatch = s := by
  unfold State.sendLatch
  split
  · rfl
  · next r push =>
    refine if_neg ?_
    rintro ⟨stage, position, latched, sent⟩
    simp only [Bool.not_eq_true'] at latched sent
    rcases h r push stage latched with h | h
    · simp [h] at sent
    · exact h position

theorem State.sendLatch_of_here (push : s.pu.push = some r) (stage : r.stage = .spot) (position : s.pu.guide.position = r.oven)
    (latched : s.pu.guide.latched = false) (sent : r.latchSent = false) :
    s.sendLatch = (s.issueAll [⟨.guide, .latch⟩]).setPush (some { r with latchSent := true }) := by
  simp [State.sendLatch, push, stage, position, latched, sent]

/-- A guide not latched leaves SPOT incomplete (R62). -/
theorem State.judgeSpot_of_unlatched (h : s.pu.guide.latched = false) : s.judgeSpot = s :=
  State.judgeSpot_of_not fun r _ _ => by simp [State.spotComplete, h]

/-- A report that sends no LATCH and completes nothing replaces the view, and nothing else changes (R57). -/
theorem guideReport_of_idle (x : GuideReport) (run : s.pins.inReset = false) (range : x.position ≤ 96)
    (latch : ∀ r, s.pu.push = some r → r.stage = .spot → x.latched = false → r.latchSent = true ∨ x.position ≠ r.oven)
    (spot : ∀ r, s.pu.push = some r → r.stage = .spot → ((s.passed (.guideReport x)).seeGuide x).spotComplete r = false) :
    ∃ t, exec (.guideReport x) s = .next t ∧ FrameOf (.guideReport x) [.pu] s t ∧ t.pu = { s.pu with guide := .of x } := by
  rw [exec_guideReport x run range, guideReport_eq, State.sendLatch_of_not latch, State.judgeSpot_of_not spot]
  exact ⟨_, rfl, frameOf_withPu _ _ _, rfl⟩

/-- What is said of the push record is said of every one there is. -/
theorem of_push {p : PushRecord → Prop} (push : s.pu.push = some r) (h : p r) : ∀ r', s.pu.push = some r' → p r' := by
  intro r' push'
  cases push.symm.trans push'
  exact h

end

/-- Settles O38: the first report at the oven sends LATCH, a latched one can complete SPOT, and any other only replaces the view. -/
theorem guideReportsLatchAndCompleteSpot : Obligations.GuideReportsLatchAndCompleteSpot := by
  intro s x run range v hv
  subst hv
  refine ⟨fun out => guideReport_of_idle x run range (fun r push stage => absurd stage (out r push))
    fun r push stage => absurd stage (out r push), fun r push stage => ?_⟩
  have base := (((s.passed (.guideReport x)).does_idle r.oven).withPu { s.pu with guide := .of x })
  refine ⟨fun position latched sent room => ?latch, fun latched reason => ?quiet,
    fun shape law position latched pusher claimed state spot room => ?complete, fun latched missing => ?missing⟩
  case latch =>
    have done := (base.issueAll [⟨.guide, .latch⟩]).setPush (some { r with latchSent := true })
    rw [exec_guideReport x run range, guideReport_eq,
      State.sendLatch_of_here (s := (s.passed _).seeGuide x) push stage position latched sent,
      State.judgeSpot_of_unlatched (by exact latched)]
    exact ⟨_, rfl, done.frameOf (.inr rfl) (.inr rfl) (.inl (by simp)) (.inr rfl) (by simp) (.inr (done.sl_of_quiet room rfl)),
      done.pu, done.issued room⟩
  case quiet =>
    exact guideReport_of_idle x run range (of_push push fun _ _ => reason)
      (of_push push fun _ => by simp [State.spotComplete, State.seeGuide, GuideView.of, latched])
  case complete =>
    have whole : ((s.passed (.guideReport x)).seeGuide x).spotComplete r = true :=
      (State.spotComplete_iff _ r).mpr ⟨pusher, position, latched, claimed, state, spot⟩
    rw [exec_guideReport x run range, guideReport_eq, State.sendLatch_of_not (s := (s.passed _).seeGuide x)
      (fun _ _ _ unlatched => by simp [State.seeGuide, GuideView.of, latched] at unlatched), State.judgeSpot_of_complete (s := (s.passed _).seeGuide x) push stage whole]
    obtain ⟨frame, -, pu, others, oven, issued⟩ :=
      base.isolates (l := [.ovens, .pu, .fl]) shape law push rfl rfl rfl rfl rfl room ⟨by simp, by simp, by simp, .inr rfl⟩
    exact ⟨_, rfl, frame, pu, others, oven, issued⟩
  case missing =>
    refine guideReport_of_idle x run range (of_push push fun _ unlatched => by simp [latched] at unlatched) (of_push push fun _ => ?_)
    rw [Bool.eq_false_iff, Ne, State.spotComplete_iff]
    rintro ⟨pusher, position, -, claimed, state, spot⟩
    rcases missing with h | h | h | h | h
    · exact h position
    · exact h pusher
    · simp [claimed] at h
    · exact h state
    · exact h spot

end Sys2Proof.Machine

/-!
SUPPORT. The release and the dispatch of a claimed car as deeds (R147, R148, R150), and the stroke of a push: the statement about
pusher reports.
-/

namespace Sys2Proof.Machine

/-! ### Release (R147) -/

/-- The record of a car released: its move is cleared, and TO_SPOT and SPOTTED become PARKED. -/
def CarRecord.released (r : CarRecord) : CarRecord :=
  { r with
    state := if r.state = .toSpot ∨ r.state = .spotted then .parked else r.state
    target := none
    travelTimer := if r.target = none then r.travelTimer else none }

/-- HALT, for a car under way (R147, R159). -/
def haltOf (c : Car) (r : CarRecord) : List Outgoing := if r.target ≠ none ∧ r.travelTimer ≠ none then [⟨.car c, .halt⟩] else []

theorem haltOf_length (c : Car) (r : CarRecord) : (haltOf c r).length ≤ 1 := by
  unfold haltOf
  split_ifs <;> simp

theorem State.releaseCar_eq (s : State) (c : Car) :
    s.releaseCar c = (s.setCar c (s.car c).released).issueAll (haltOf c (s.car c)) := by
  have record (r : CarRecord) : (if r.state = .toSpot ∨ r.state = .spotted then
      { (if r.target.isSome then { r with target := none, travelTimer := none } else r) with state := .parked }
      else if r.target.isSome then { r with target := none, travelTimer := none } else r) = r.released := by
    obtain ⟨state, position, target, travel, load, hot, late, quench, drain, dump, bay, last, status, fault⟩ := r
    cases target <;> by_cases spot : state = .toSpot ∨ state = .spotted <;> simp [CarRecord.released, spot]
  have halt (r : CarRecord) : (if r.target.isSome && r.travelTimer.isSome then [toCar c .halt] else []) = haltOf c r := by
    simp [haltOf, toCar, Option.isSome_iff_ne_none]
  simp only [State.releaseCar, record, halt]

namespace Deed

variable (d : Deed)

def release (c : Car) : Deed :=
  { d with qu := d.qu.setCar c (d.qu.car c).released, commands := d.commands ++ haltOf c (d.qu.car c) }

end Deed

section
variable {n : Nat} {s t : State} {d : Deed} {r : PushRecord} {c : Car}

theorem Does.releaseCar (h : Does n s t d) (c : Car) : Does n s (t.releaseCar c) (d.release c) := by
  rw [State.releaseCar_eq, h.car]
  exact (h.setCar _ _).issueAll _

/-! ### Moves (R157, R161) -/

/-- The travel timer of a move begun now: under ESTOP# the move is held. -/
def State.moveTimer (s : State) : Timer := if s.pins.estop then none else some s.qu.limits.travel

/-- The command of a move begun now, for a car whose travel timer stands so; under ESTOP# a move still running is halted. -/
def State.moveCommands (s : State) (c : Car) (l : Location) (timer : Timer) : List Outgoing :=
  if s.pins.estop = false then [⟨.car c, .move l⟩] else if timer ≠ none then [⟨.car c, .halt⟩] else []

theorem State.moveCommands_length (s : State) (c : Car) (l : Location) (timer : Timer) : (s.moveCommands c l timer).length ≤ 1 := by
  unfold State.moveCommands
  split_ifs <;> simp

theorem State.moveCar_eq (s : State) (c : Car) (l : Location) (r : CarRecord) : s.moveCar c l r =
    (s.setCar c { r with target := some l, travelTimer := s.moveTimer }).issueAll (s.moveCommands c l r.travelTimer) := by
  cases estop : s.pins.estop with
  | false =>
    simp [State.moveCar, State.moveTimer, State.moveCommands, State.issue, estop]
  | true =>
    simp [State.moveCar, State.moveTimer, State.moveCommands, toCar, estop, Option.isSome_iff_ne_none]

theorem Does.moveCar (h : Does n s t d) (limits : d.qu.limits = s.qu.limits) (c : Car) (l : Location) (k : CarRecord) :
    Does n s (t.moveCar c l k) (Deed.issue { d with qu := d.qu.setCar c { k with target := some l, travelTimer := s.moveTimer } }
      (s.moveCommands c l k.travelTimer)) := by
  have timer : t.moveTimer = s.moveTimer := by simp only [State.moveTimer, h.pins, h.qu, limits]
  have commands : t.moveCommands c l k.travelTimer = s.moveCommands c l k.travelTimer := by
    simp only [State.moveCommands, h.pins]
  rw [State.moveCar_eq, timer, commands]
  exact (h.setCar c _).issueAll _

/-! ### Dispatch (R148, R150) -/

/-- The waiting list with car c joined stands in the order of load seconds (R150). -/
theorem State.joinWaiters_eq (s : State) (c : Car) (ws : List Car) : s.joinWaiters c ws =
    ws.takeWhile (fun w => !s.waitsBefore c w) ++ c :: ws.dropWhile (fun w => !s.waitsBefore c w) := by
  induction ws with
  | nil => rfl
  | cons w ws ih =>
    unfold State.joinWaiters
    cases before : s.waitsBefore c w with
    | false => simp [before, ih]
    | true => simp [before]

theorem State.joinWaiters_congr (qu : t.qu = s.qu) (bk : t.bk = s.bk) (c : Car) (ws : List Car) :
    t.joinWaiters c ws = s.joinWaiters c ws := by
  have age (k : Car) : t.loadAge k = s.loadAge k := by
    rw [State.loadAge, State.loadAge, State.car, qu, bk]
    rfl
  have order : t.waitsBefore = s.waitsBefore := by
    funext a b
    simp only [State.waitsBefore, age]
  simp only [State.joinWaiters_eq, order]

/-- A car in the waiting list that stands before c, as ages modulo 2^32 (R150; log 14). -/
theorem State.waits_eq (s : State) (c : Car) : (fun w => !s.waitsBefore c w) = fun w =>
    decide (¬(s.loadAge w < s.loadAge c ∨ (s.loadAge w = s.loadAge c ∧ c = .one))) := by
  funext w
  rw [Bool.eq_iff_iff]
  simp only [State.waitsBefore, Bool.not_eq_true', Bool.or_eq_false_iff, decide_eq_false_iff_not, decide_eq_true_eq, not_or,
    Bool.and_eq_false_iff, beq_eq_false_iff_ne, not_and, eq_comm (a := s.loadAge w)]
  tauto

theorem Does.dispatchCar_of_free (h : Does n s t d) (qu : d.qu = s.qu) (free : s.qu.holder = none ∧ s.qu.waiters = []) :
    Does n s (t.dispatchCar c) (Deed.issue { d with qu := (({ s.qu with holder := some c } : QuenchUnit).setCar c
      { s.car c with state := .toTower, target := some .tower, travelTimer := s.moveTimer }) }
      (s.moveCommands c .tower (s.car c).travelTimer)) := by
  have same : t.qu = s.qu := h.qu.trans qu
  rw [State.dispatchCar, State.grantTower, same, if_pos free, h.car, qu]
  exact (h.withQu { s.qu with holder := some c }).moveCar rfl c .tower { s.car c with state := .toTower }

theorem Does.dispatchCar_of_busy (h : Does n s t d) (qu : d.qu = s.qu) (busy : ¬(s.qu.holder = none ∧ s.qu.waiters = [])) :
    Does n s (t.dispatchCar c) (Deed.issue { d with qu := (({ s.qu with waiters := s.joinWaiters c s.qu.waiters } : QuenchUnit).setCar c
      { s.car c with state := .toTower, target := some .approachT, travelTimer := s.moveTimer }) }
      (s.moveCommands c .approachT (s.car c).travelTimer)) := by
  have same : t.qu = s.qu := h.qu.trans qu
  rw [State.dispatchCar, same, if_neg busy, h.car, qu, State.joinWaiters_congr same h.bk]
  exact (h.withQu { s.qu with waiters := s.joinWaiters c s.qu.waiters }).moveCar rfl c .approachT
    { s.car c with state := .toTower }

/-- What dispatching car c from s makes of QU, and the commands it takes (R148). -/
structure State.Dispatched (s : State) (c : Car) (q : QuenchUnit) (moves : List Outgoing) : Prop where
  free : s.qu.holder = none ∧ s.qu.waiters = [] →
    q = ({ s.qu with holder := some c } : QuenchUnit).setCar c
      { s.car c with state := .toTower, target := some .tower, travelTimer := s.moveTimer } ∧
    moves = s.moveCommands c .tower (s.car c).travelTimer
  busy : s.qu.holder ≠ none ∨ s.qu.waiters ≠ [] →
    q = ({ s.qu with waiters := s.joinWaiters c s.qu.waiters } : QuenchUnit).setCar c
      { s.car c with state := .toTower, target := some .approachT, travelTimer := s.moveTimer } ∧
    moves = s.moveCommands c .approachT (s.car c).travelTimer

/-- A dispatch reads QU, the battery second and ESTOP# alone. -/
theorem State.Dispatched.of_same {q : QuenchUnit} {moves : List Outgoing} (h : t.Dispatched c q moves) (qu : t.qu = s.qu)
    (bk : t.bk = s.bk) (pins : t.pins = s.pins) : s.Dispatched c q moves := by
  have car : t.car c = s.car c := by rw [State.car, qu]; rfl
  have timer : t.moveTimer = s.moveTimer := by rw [State.moveTimer, pins, qu]; rfl
  have commands (l : Location) (k : Timer) : t.moveCommands c l k = s.moveCommands c l k := by
    rw [State.moveCommands, pins]
    rfl
  obtain ⟨free, busy⟩ := h
  rw [qu, car, timer, commands] at free
  rw [qu, car, timer, commands, State.joinWaiters_congr qu bk] at busy
  exact ⟨free, busy⟩

theorem Does.dispatchCar (h : Does n s t d) (qu : d.qu = s.qu) (c : Car) : ∃ q moves, s.Dispatched c q moves ∧
    moves.length ≤ 1 ∧ Does n s (t.dispatchCar c) (Deed.issue { d with qu := q } moves) := by
  by_cases free : s.qu.holder = none ∧ s.qu.waiters = []
  · exact ⟨_, _, ⟨fun _ => ⟨rfl, rfl⟩, fun busy => absurd free (by tauto)⟩, s.moveCommands_length _ _ _,
      h.dispatchCar_of_free qu free⟩
  · exact ⟨_, _, ⟨fun f => absurd f free, fun _ => ⟨rfl, rfl⟩⟩, s.moveCommands_length _ _ _, h.dispatchCar_of_busy qu free⟩

/-- The order of the waiting list in the terms of the statements. -/
theorem State.joinWaiters_of_ages (s : State) (c : Car) {age : Car → Nat} {before : Car → Bool}
    (ages : age = fun k => match (s.car k).load with | some l => (s.bk.seconds - l.second).toNat | none => 0)
    (order : before = fun k => decide (¬(age k < age c ∨ (age k = age c ∧ c = .one)))) :
    s.joinWaiters c s.qu.waiters = s.qu.waiters.takeWhile before ++ c :: s.qu.waiters.dropWhile before := by
  subst ages order
  rw [s.joinWaiters_eq, s.waits_eq]
  rfl

/-! ### RAM completes (R67, R68) -/

namespace Deed

variable (d : Deed)

/-- The stroke judged: above the sticker threshold it is a hard push (R67). -/
def strike (r : PushRecord) : Deed :=
  if d.pu.limits.sticker < r.peakForce then
    { d with
      oven := { d.oven with hardPushCount := min 255 (d.oven.hardPushCount + 1), stickerPending := true }
      notices := d.notices ++ [.hardPush r.oven r.number r.peakForce] }
  else d

end Deed

theorem Does.judgeStroke (h : Does r.oven s t d) (place : r.oven - 1 < s.ovens.length) :
    Does r.oven s (t.judgeStroke r) (d.strike r) := by
  simp only [State.judgeStroke, Deed.strike, h.pu, h.oven_self place]
  split_ifs
  · exact (h.setOven _).raise _
  · exact h

theorem Deed.strike_of_hard (d : Deed) (hard : d.pu.limits.sticker < r.peakForce) : d.strike r = { d with
    oven := { d.oven with hardPushCount := min 255 (d.oven.hardPushCount + 1), stickerPending := true }
    notices := d.notices ++ [.hardPush r.oven r.number r.peakForce] } := if_pos hard

theorem Deed.strike_of_soft (d : Deed) (soft : r.peakForce ≤ d.pu.limits.sticker) : d.strike r = d := if_neg (by omega)

theorem Deed.strike_qu (d : Deed) (r : PushRecord) : (d.strike r).qu = d.qu := by
  unfold Deed.strike
  split_ifs <;> rfl

theorem Deed.strike_pu (d : Deed) (r : PushRecord) : (d.strike r).pu = d.pu := by
  unfold Deed.strike
  split_ifs <;> rfl

theorem Deed.strike_su (d : Deed) (r : PushRecord) : (d.strike r).su = d.su := by
  unfold Deed.strike
  split_ifs <;> rfl

theorem Deed.strike_commands (d : Deed) (r : PushRecord) : (d.strike r).commands = d.commands := by
  unfold Deed.strike
  split_ifs <;> rfl

/-- What handing over the car c of a push from s makes of QU, and the commands it takes: dispatched if LOADED, else released
(R68). -/
structure State.HandedOver (s : State) (c : Car) (q : QuenchUnit) (moves : List Outgoing) : Prop where
  short : moves.length ≤ 1
  empty : (s.car c).state ≠ .loaded → q = s.qu.setCar c (s.car c).released ∧ moves = haltOf c (s.car c)
  loaded : (s.car c).state = .loaded → s.Dispatched c q moves

theorem Does.handOver (h : Does n s t d) (qu : d.qu = s.qu) (r : PushRecord) : ∃ q moves, s.HandedOver r.car q moves ∧
    Does n s (t.handOver r) (Deed.issue { d with
      qu := q
      pu := { d.pu with
        push := some { r with claimed := false, emptyCar := r.emptyCar || (s.car r.car).state != .loaded } } } moves) := by
  have car : t.car r.car = s.car r.car := by rw [h.car, qu]; rfl
  unfold State.handOver
  rw [car]
  by_cases loaded : (s.car r.car).state = .loaded
  · rw [if_pos loaded]
    obtain ⟨q, moves, dispatched, short, done⟩ := (h.setPush (some { r with claimed := false })).dispatchCar qu r.car
    refine ⟨q, moves, ⟨short, fun out => absurd loaded out, fun _ => dispatched⟩, ?_⟩
    simpa [loaded] using done
  · rw [if_neg loaded]
    refine ⟨_, _, ⟨haltOf_length _ _, fun _ => ⟨rfl, rfl⟩, fun h => absurd h loaded⟩, ?_⟩
    have done := (h.setPush (some { r with claimed := false, emptyCar := true })).releaseCar r.car
    have flag : (r.emptyCar || (s.car r.car).state != .loaded) = true := by simp [loaded]
    simp only [Deed.release, qu] at done
    rw [flag]
    exact done

theorem Does.completeRam (h : Does r.oven s t d) (place : r.oven - 1 < s.ovens.length) (qu : d.qu = s.qu) :
    ∃ q moves, s.HandedOver r.car q moves ∧ Does r.oven s (t.completeRam r) (Deed.issue { d.strike r with
      qu := q
      pu := { d.pu with
        push := some { r with
          claimed := false, emptyCar := r.emptyCar || (s.car r.car).state != .loaded
          stage := .doorsOn, entered := s.bk.seconds, timer := d.pu.limits.doorsOn } } } (moves ++ toBoth .replace)) := by
  obtain ⟨q, moves, handed, given⟩ := (h.judgeStroke place).handOver ((d.strike_qu r).trans qu) r
  refine ⟨q, moves, handed, ?_⟩
  have push : ((t.judgeStroke r).handOver r).pu.push =
      some { r with claimed := false, emptyCar := r.emptyCar || (s.car r.car).state != .loaded } := by rw [given.pu]; rfl
  have limits : ((t.judgeStroke r).handOver r).pu.limits = d.pu.limits := by
    rw [given.pu, ← d.strike_pu r]
    rfl
  have entered : State.inStage ((t.judgeStroke r).handOver r)
      { r with claimed := false, emptyCar := r.emptyCar || (s.car r.car).state != .loaded } .doorsOn =
      { r with
        claimed := false, emptyCar := r.emptyCar || (s.car r.car).state != .loaded
        stage := .doorsOn, entered := s.bk.seconds, timer := d.pu.limits.doorsOn } := by
    rw [State.inStage, given.bk, limits]
    rfl
  have done := (given.setPush (some { r with
    claimed := false, emptyCar := r.emptyCar || (s.car r.car).state != .loaded
    stage := .doorsOn, entered := s.bk.seconds, timer := d.pu.limits.doorsOn })).issueAll (toBoth .replace)
  simp only [Deed.issue, List.append_assoc, d.strike_pu] at done
  simp only [State.completeRam, push, entered]
  exact done

/-! ### Pusher reports (R57, R62, R66) -/

theorem State.judgeRam_of_home (home : s.pu.pusher.ram = .home) (seen : r.forwardSeen = true) :
    s.judgeRam r = (s.setPush (some (r.stroke s.pu.pusher))).completeRam (r.stroke s.pu.pusher) := by
  simp [State.judgeRam, PushRecord.stroke, home, seen]

theorem State.judgeRam_of_moving (h : s.pu.pusher.ram ≠ .home ∨ r.forwardSeen = false) :
    s.judgeRam r = s.setPush (some (r.stroke s.pu.pusher)) := by
  refine if_neg ?_
  rintro ⟨home, seen⟩
  rcases h with h | h
  · exact h home
  · simp [PushRecord.stroke, h, home] at seen

theorem exec_pusherReport (x : PusherReport) (run : s.pins.inReset = false) (range : x.position ≤ 96) :
    exec (.pusherReport x) s = .next (pusherReport x (s.passed (.pusherReport x))) := by
  have wf : (Instr.pusherReport x).wf = true := decide_eq_true range
  exact (s.checked_of_wf _ _ wf).trans (s.event_of_run _ _ run)

/-- The state with the pusher's view replaced by what a report gives. -/
def State.seePusher (s : State) (x : PusherReport) : State := s.withPu { s.pu with pusher := .of x }

theorem pusherReport_of_none (x : PusherReport) (push : s.pu.push = none) : pusherReport x s = s.seePusher x := by
  simp [pusherReport, State.seePusher, push]

theorem pusherReport_of_idle (x : PusherReport) (push : s.pu.push = some r)
    (stage : r.stage = .isolate ∨ r.stage = .doorsOff ∨ r.stage = .doorsOn ∨ r.stage = .retreat) :
    pusherReport x s = s.seePusher x := by
  rcases stage with stage | stage | stage | stage <;> simp [pusherReport, State.seePusher, push, stage]

theorem pusherReport_of_spot (x : PusherReport) (push : s.pu.push = some r) (stage : r.stage = .spot) :
    pusherReport x s = (s.seePusher x).judgeSpot := by
  simp [pusherReport, State.seePusher, push, stage]

theorem pusherReport_of_ram (x : PusherReport) (push : s.pu.push = some r) (stage : r.stage = .ram) :
    pusherReport x s = (s.seePusher x).judgeRam r := by
  simp [pusherReport, State.seePusher, push, stage]

end

/-- Settles O37: SPOT judged by its three conditions, RAM by the stroke, and any other stage only sees the new view. -/
theorem pusherReportsDriveTheRam : Obligations.PusherReportsDriveTheRam := by
  intro s x run range v hv
  subst hv
  have view : PusherView.of x = ⟨x.position, x.ram, min 4000 x.force.toNat, x.holding, x.fault.toNat⟩ := rfl
  rw [exec_pusherReport x run range, ← view]
  refine ⟨fun push => ?_, fun r push => ⟨fun stage => ?_, fun stage => ⟨?complete, fun missing => ?_⟩, fun stage moving => ?_, ?home⟩⟩
  · exact ⟨_, congrArg _ (pusherReport_of_none x push), frameOf_withPu _ _ _, rfl⟩
  · exact ⟨_, congrArg _ (pusherReport_of_idle x push stage), frameOf_withPu _ _ _, rfl⟩
  case complete =>
    intro shape law position guide latched claimed state spot room
    have whole : ((s.passed (.pusherReport x)).seePusher x).spotComplete r = true :=
      (State.spotComplete_iff _ r).mpr ⟨position, guide, latched, claimed, state, spot⟩
    have base := ((s.passed (.pusherReport x)).does_idle r.oven).withPu { s.pu with pusher := .of x }
    obtain ⟨frame, -, pu, others, oven, issued⟩ :=
      base.isolates (l := [.ovens, .pu, .fl]) shape law push rfl rfl rfl rfl rfl room ⟨by simp, by simp, by simp, .inr rfl⟩
    rw [pusherReport_of_spot (s := s.passed _) x push stage, State.judgeSpot_of_complete (s := (s.passed _).seePusher x) push stage whole]
    exact ⟨_, rfl, frame, pu, others, oven, issued⟩
  · have part : ((s.passed (.pusherReport x)).seePusher x).spotComplete r = false := by
      rw [Bool.eq_false_iff, Ne, State.spotComplete_iff]
      rintro ⟨position, guide, latched, claimed, state, spot⟩
      rcases missing with h | h | h | h | h | h
      · exact h position
      · exact h guide
      · exact absurd latched (by rw [show ((s.passed (.pusherReport x)).seePusher x).pu.guide = s.pu.guide from rfl, h]; decide)
      · simp [claimed] at h
      · exact h state
      · exact h spot
    rw [pusherReport_of_spot (s := s.passed _) x push stage,
      State.judgeSpot_of_not (s := (s.passed _).seePusher x) (of_push push fun _ => part)]
    exact ⟨_, rfl, frameOf_withPu _ _ _, rfl⟩
  · rw [pusherReport_of_ram (s := s.passed _) x push stage]
    rw [State.judgeRam_of_moving (s := (s.passed _).seePusher x) moving]
    exact ⟨_, rfl, frameOf_withPu _ _ _, rfl⟩
  case home =>
    intro shape law stage home seen field notice wait
    obtain ⟨low, place⟩ := shape.place_of_push law push
    have base : Does r.oven (s.passed (.pusherReport x)) (((s.passed (.pusherReport x)).seePusher x).setPush (some (r.stroke (.of x))))
        { s.idle r.oven with pu := { s.pu with pusher := .of x, push := some (r.stroke (.of x)) } } :=
      (((s.passed (.pusherReport x)).does_idle r.oven).withPu { s.pu with pusher := .of x }).setPush _
    obtain ⟨q, moves, handed, done⟩ := base.completeRam (r := r.stroke (.of x)) place rfl
    have few := handed.short
    have short : s.FieldRoom (moves ++ toBoth .replace).length := by
      simp only [State.FieldRoom, List.length_append, toBoth, List.length_cons, List.length_nil] at field ⊢
      omega
    rw [pusherReport_of_ram (s := s.passed _) x push stage, State.judgeRam_of_home (s := (s.passed _).seePusher x) home seen]
    refine ⟨_, rfl, done.frameOf (.inl (by simp)) (.inr (Deed.strike_su _ _)) (.inl (by simp)) (.inl (by simp)) (by simp)
      (.inl (by simp)), ?pu, done.othersKept low, fun hard => ?hard, fun soft => ?soft, moves, ?issued, fun empty => ?empty,
      fun loaded => ?loaded⟩
    case pu =>
      refine done.pu.trans ?_
      simp only [Deed.issue, PushRecord.stroke, seen, Bool.true_or]
      rfl
    case hard =>
      rw [Deed.strike_of_hard _ (by exact hard)] at done
      exact ⟨done.oven_self (by exact place), done.noticesOnly short notice wait⟩
    case soft =>
      rw [Deed.strike_of_soft _ (by exact soft)] at done
      exact ⟨done.ovens_of_same rfl, done.sl_of_quiet short rfl⟩
    case issued =>
      have issued := done.issued
      simp only [Deed.issue, Deed.strike_commands] at issued
      exact issued short
    case empty =>
      obtain ⟨qu, released⟩ := handed.empty empty
      exact ⟨done.qu.trans qu, released⟩
    case loaded =>
      rintro age ages before order _ rfl _ rfl
      have dispatched : s.Dispatched r.car q moves := (handed.loaded loaded).of_same rfl rfl rfl
      have joined := s.joinWaiters_of_ages r.car ages order
      refine ⟨fun free => ?_, fun busy => ?_⟩
      · obtain ⟨qu, moved⟩ := dispatched.free free
        exact ⟨done.qu.trans qu, moved⟩
      · obtain ⟨qu, moved⟩ := dispatched.busy busy
        rw [← joined]
        exact ⟨done.qu.trans qu, moved⟩

end Sys2Proof.Machine

/-!
SUPPORT. The ends and the aborts of a push as deeds (R63 to R76).
-/

namespace Sys2Proof.Machine

/-! ### Deeds at a push's end -/

namespace Deed

variable (d : Deed) (r : PushRecord)

/-- QU releases the car of the record, if it still claims one (R71, R73, R147). -/
def releaseIf : Deed :=
  { d with
    qu := if r.claimed then d.qu.setCar r.car (d.qu.car r.car).released else d.qu
    commands := d.commands ++ if r.claimed then haltOf r.car (d.qu.car r.car) else [] }

/-- The record is removed and the valve turns to the mode m its evaluation gives (R112). -/
def close (n : Nat) (m : ValveMode) : Deed := Deed.turn { d with pu := { d.pu with push := none } } n m

/-- The oven is EMPTY and the push is done (R69). -/
def finish (m : ValveMode) : Deed :=
  ((Deed.issue { d with oven := { d.oven with phase := .empty, progress := 0, lastPushNumber := r.number } }
    [toOven r.oven (.cap r.oven false)]).raise (.pushDone r.number r.oven r.car r.peakForce r.emptyCar r.doorFault)).close r.oven m

/-- The oven is READY again and the push is aborted (R71, R73). -/
def abort (x : Stage) (y : AbortCause) (m : ValveMode) : Deed :=
  (Deed.raise { d with oven := { d.oven with phase := .ready } } (.pushAborted r.number r.oven x y)).close r.oven m

/-! How many commands they hold -/

variable {d r}

theorem releaseIf_of_claimed (h : r.claimed = true) : d.releaseIf r = d.release r.car := by
  simp [releaseIf, release, h]

theorem releaseIf_of_free (h : r.claimed = false) : d.releaseIf r = d := by
  simp [releaseIf, h]

theorem turn_length (n : Nat) (m : ValveMode) : (d.turn n m).commands.length ≤ d.commands.length + 2 := by
  have short := turnTo_length n m d.oven.valve
  simp only [turn, List.length_append]
  omega

theorem releaseIf_length : (d.releaseIf r).commands.length ≤ d.commands.length + 1 := by
  have short := haltOf_length r.car (d.qu.car r.car)
  simp only [releaseIf, List.length_append]
  split_ifs
  · omega
  · simp

theorem abort_length (x : Stage) (y : AbortCause) (m : ValveMode) : (d.abort r x y m).commands.length ≤ d.commands.length + 2 :=
  turn_length _ _

theorem finish_length (m : ValveMode) : (d.finish r m).commands.length ≤ d.commands.length + 3 := by
  refine (turn_length _ _).trans ?_
  simp [raise, issue]

end Deed

section
variable {n : Nat} {s t : State} {d : Deed} {r : PushRecord} {silent : Bool}

/-- Room for as many commands as a deed may hold is room for those it holds. -/
theorem Does.room (_ : Does n s t d) {k : Nat} (room : s.FieldRoom k) (le : d.commands.length ≤ k) : s.FieldRoom d.commands.length :=
  Nat.le_trans (Nat.add_le_add_left le _) room

theorem Does.releaseIf (h : Does n s t d) (r : PushRecord) : Does n s (t.releaseClaimed r) (d.releaseIf r) := by
  unfold State.releaseClaimed Deed.releaseIf
  split_ifs
  · exact h.releaseCar _
  · simpa using h

/-- A push exists in RUN only (R56). -/
theorem PushLaw.run_of_push (law : PushLaw s) (push : s.pu.push = some r) : s.bk.mode = .run :=
  law.running (.inl (by simp [push]))

/-! ### The end (R48, R112) -/

/-- Without a slot pending there is nothing to evaluate (R48). -/
theorem State.evaluate_of_clear (clear : s.su.slotFlag = false) : s.evaluate = s := by
  have idle : s.mayEvaluate = false := by simp [State.mayEvaluate, clear]
  simp [State.evaluate, idle]

theorem State.endPush_of_quiet (quiet : silent = true ∨ s.su.slotFlag = false) :
    s.endPush n silent = (s.setPush none).evalValve n := by
  cases silent with
  | true => rfl
  | false =>
    rw [State.endPush_heard]
    exact State.evaluate_of_clear (by simpa [State.setPush] using quiet)

section
variable (place : n - 1 < s.ovens.length)
include place

/-- The end of a push after which no candidate is taken. -/
theorem Does.endPush (h : Does n s t d) (quiet : silent = true ∨ d.su.slotFlag = false) :
    Does n s (t.endPush n silent) (d.close n ((t.endPush n silent).valveMode n)) := by
  rw [State.endPush_of_quiet (by rw [h.su]; exact quiet)]
  exact (h.setPush none).evalValve place

end

section
variable (place : r.oven - 1 < s.ovens.length)
include place

theorem Does.completePush (h : Does r.oven s t d) (quiet : silent = true ∨ d.su.slotFlag = false) :
    Does r.oven s (t.completePush r silent) (d.finish r ((t.completePush r silent).valveMode r.oven)) := by
  have emptied := (h.setOven { d.oven with phase := .empty, progress := 0, lastPushNumber := r.number })
  have done := ((emptied.issueAll [toOven r.oven (.cap r.oven false)]).raise
    (.pushDone r.number r.oven r.car r.peakForce r.emptyCar r.doorFault)).endPush place quiet
  unfold State.completePush
  rw [h.oven_self place]
  exact done

theorem Does.returnReady (h : Does r.oven s t d) (x : Stage) (y : AbortCause) (quiet : silent = true ∨ d.su.slotFlag = false) :
    Does r.oven s (t.returnReady r x y silent) (d.abort r x y ((t.returnReady r x y silent).valveMode r.oven)) :=
  ((h.setPhase place .ready).raise _).endPush place quiet

theorem Does.undoPush (h : Does r.oven s t d) (y : AbortCause) (quiet : y.bySilence = true ∨ d.su.slotFlag = false) :
    Does r.oven s (t.undoPush r y)
      (((d.issue (toBoth .halt ++ [toOven r.oven (.cap r.oven false)])).releaseIf r).abort r r.stage y
        ((t.undoPush r y).valveMode r.oven)) :=
  ((h.issueAll _).releaseIf r).returnReady place r.stage y quiet

theorem Does.completeRetreat (h : Does r.oven s t d) (clear : d.su.slotFlag = false) :
    Does r.oven s (t.completeRetreat r) (((d.issue [toOven r.oven (.cap r.oven false)]).releaseIf r).abort r .doorsOff
      (r.abortCause.getD .timeout) ((t.completeRetreat r).valveMode r.oven)) :=
  ((h.issueAll _).releaseIf r).returnReady place .doorsOff _ (.inr clear)

end

/-! ### RETREAT and the stall (R72, R76) -/

theorem Does.inStage (h : Does n s t d) (r : PushRecord) (x : Stage) :
    t.inStage r x = { r with stage := x, entered := s.bk.seconds, timer := d.pu.limits.of x } := by
  rw [State.inStage, h.bk, h.pu]

/-- RETREAT is entered; only a car's own fault ends its claim (R72). -/
theorem Does.enterRetreat (h : Does n s t d) (r : PushRecord) (y : AbortCause) {claimed : Bool}
    (left : (r.claimed && y != .car) = claimed) : Does n s (t.enterRetreat r y)
    (Deed.issue { d with pu := { d.pu with push := some { r with
      abortCause := some y, claimed := claimed, stage := .retreat, entered := s.bk.seconds
      timer := d.pu.limits.doorsOn } } } (toBoth .replace)) := by
  rw [State.enterRetreat, h.inStage, left]
  exact (h.issueAll _).setPush _

/-- The stall record a push leaves (R76). -/
def PushRecord.stall (r : PushRecord) (y : AbortCause) (first : Option AbortCause) (second : Word) : StallRecord :=
  { oven := r.oven, number := r.number, origin := r.origin, car := r.car, claimed := r.claimed, stage := r.stage
    cause := y, firstCause := first, peakForce := r.peakForce, second := second }

/-- SU after a stall in RUN: PAUSED, with the pacer cleared if it was in AUTO (R33, R36). -/
def ScheduleUnit.paused (u : ScheduleUnit) : ScheduleUnit :=
  if u.mode = .auto then { u with mode := .paused, accumulator := 0, carriesDue := 0, slotFlag := false }
  else { u with mode := .paused }

theorem ScheduleUnit.paused_of_paused {u : ScheduleUnit} (h : u.mode = .paused) : u.paused = u := by
  cases u
  cases h
  rfl

/-- A pause in RUN raises its notice unless the schedule is PAUSED already (R36). -/
theorem Does.pauseSchedule (h : Does n s t d) (run : s.bk.mode = .run) (a b : Nat) : Does n s (t.pauseSchedule a b)
    { d with
      su := d.su.paused
      notices := d.notices ++ if d.su.mode = .paused then [] else [.schedulePaused a b] } := by
  by_cases already : d.su.mode = .paused
  · rw [State.pauseSchedule_of_idle _ _ (.inr (h.su ▸ already)), ScheduleUnit.paused_of_paused already, if_pos already]
    simpa using h
  · rw [State.pauseSchedule_of_run _ _ (by rw [h.bk]; exact run) (h.su ▸ already), h.su, ScheduleUnit.turnTo_paused, if_neg already]
    exact (h.withSu _).raise _

namespace Deed

/-- The push becomes a stall: the record moves, the valve is shut, the schedule pauses (R76). -/
def stall (d : Deed) (r : PushRecord) (y : AbortCause) (first : Option AbortCause) (second : Word) : Deed :=
  { Deed.turn { d with oven := { d.oven with phase := .stalled } } r.oven .closed with
    su := d.su.paused
    pu := { d.pu with push := none, stall := some (r.stall y first second) }
    notices := d.notices ++ (.stalled r.number r.oven r.stage y first ::
      if d.su.mode = .paused then [] else [.schedulePaused 2 0]) }

theorem stall_length {d : Deed} {r : PushRecord} (y : AbortCause) (first : Option AbortCause) (second : Word) :
    (d.stall r y first second).commands.length ≤ d.commands.length + 2 :=
  turn_length (d := { d with oven := { d.oven with phase := .stalled } }) _ _

theorem stall_notices_length {d : Deed} {r : PushRecord} (y : AbortCause) (first : Option AbortCause) (second : Word) :
    (d.stall r y first second).notices.length ≤ d.notices.length + 2 := by
  simp only [stall, List.length_append, List.length_cons]
  split_ifs <;> simp

end Deed

theorem Does.makeStall (h : Does r.oven s t d) (place : r.oven - 1 < s.ovens.length) (run : s.bk.mode = .run) (y : AbortCause)
    (first : Option AbortCause) : Does r.oven s (t.makeStall r y first) (d.stall r y first s.bk.seconds) := by
  have moved : Does r.oven s (t.withPu { t.pu with push := none, stall := some (r.stall y first t.bk.seconds) })
      { d with pu := { d.pu with push := none, stall := some (r.stall y first s.bk.seconds) } } := by
    rw [h.pu, h.bk]
    exact h.withPu _
  have turned := (moved.setPhase place .stalled).evalValve place
  have shut := State.valveMode_of_stalled (congrArg Oven.phase (turned.oven_self place))
  rw [shut] at turned
  have done := (turned.raise (.stalled r.number r.oven r.stage y first)).pauseSchedule run 2 0
  simp only [Deed.raise, Deed.turn, List.append_assoc, List.singleton_append] at done
  exact done

end

/-! ### An abort by its stage (R70 to R75, R79) -/

section
variable {s : State} {r : PushRecord} {y : AbortCause}

theorem State.abortPush_of_none (push : s.pu.push = none) : s.abortPush y = s := by
  simp [State.abortPush, push]

theorem State.abortPush_of_early (push : s.pu.push = some r) (stage : r.stage = .spot ∨ r.stage = .isolate) :
    s.abortPush y = s.undoPush r y := by
  rcases stage with stage | stage <;> simp [State.abortPush, push, stage]

theorem State.abortPush_of_doorsOff (push : s.pu.push = some r) (stage : r.stage = .doorsOff) (heard : y ≠ .estop) :
    s.abortPush y = s.enterRetreat r y := by
  simp [State.abortPush, push, stage, heard]

theorem State.abortPush_of_doorsOn (push : s.pu.push = some r) (stage : r.stage = .doorsOn) :
    s.abortPush y = (s.issueAll (toBoth .halt)).completePush { r with doorFault := true } y.bySilence := by
  simp [State.abortPush, push, stage, State.abortDoorsOn]

/-- The commands of an abort that stalls the push (R74, R79). -/
def stallCommands (x : Stage) (y : AbortCause) : List Outgoing :=
  if x = .ram then [⟨.pusher, .ramHalt⟩, ⟨.guide, .halt⟩] else if y = .estop then toBoth .halt else []

/-- RAM, a second failure in RETREAT but a car's, and ESTOP# in DOORS_OFF stall the push (R73, R74, R79). -/
theorem State.abortPush_of_late (push : s.pu.push = some r)
    (stage : r.stage = .ram ∨ (r.stage = .retreat ∧ y ≠ .car) ∨ (r.stage = .doorsOff ∧ y = .estop)) :
    s.abortPush y = (s.issueAll (stallCommands r.stage y)).makeStall r y (if r.stage = .retreat then r.abortCause else none) := by
  rcases stage with stage | ⟨stage, other⟩ | ⟨stage, rfl⟩
  · simp [State.abortPush, push, stage, stallCommands]
  · cases y with
    | car => exact absurd rfl other
    | estop => simp [State.abortPush, State.abortRetreat, push, stage, stallCommands]
    | _ => simp [State.abortPush, State.abortRetreat, push, stage, stallCommands]
  · simp [State.abortPush, push, stage, stallCommands]

theorem State.abortPush_of_detached (push : s.pu.push = some r) (stage : r.stage = .retreat) :
    s.abortPush .car = s.setPush (some { r with claimed := false }) := by
  simp [State.abortPush, State.abortRetreat, push, stage]

end

end Sys2Proof.Machine

/-!
SUPPORT. The statements about stage confirmations and about the events that abort a push.
-/

namespace Sys2Proof.Machine

theorem State.FieldRoom.of_le {s : State} {k j : Nat} (h : s.FieldRoom k) (le : j ≤ k) : s.FieldRoom j :=
  Nat.le_trans (Nat.add_le_add_left le _) h

theorem State.NoticeRoom.of_le {s : State} {k j : Nat} (h : s.NoticeRoom k) (le : j ≤ k) : s.NoticeRoom j :=
  Nat.le_trans (Nat.add_le_add_left le _) h

/-! ### Stage confirmations (R63 to R65, R69, R73) -/

section
variable {s t : State} {r : PushRecord} {m : Fin 12} {es : List OvenEntry} {e : OvenEntry}

theorem exec_stageConfirmation (run : s.pins.inReset = false) (length : es.length = 8) :
    exec (.stageConfirmation m es) s = .next (stageConfirmation m es (s.passed (.stageConfirmation m es))) := by
  have wf : (Instr.stageConfirmation m es).wf = true := decide_eq_true length
  exact (s.checked_of_wf _ _ wf).trans (s.event_of_run _ _ run)

theorem stageConfirmation_of_none (push : s.pu.push = none) : stageConfirmation m es s = s := by
  simp [stageConfirmation, push]

/-- A report of another node says nothing of the pushed oven (R173). -/
theorem stageConfirmation_of_other (push : s.pu.push = some r) (other : (r.oven - 1) / 8 % 12 ≠ m.val) :
    stageConfirmation m es s = s := by
  have apart : nodeNumber r.oven ≠ m := fun same => other (congrArg Fin.val same)
  simp [stageConfirmation, push, entryFor, apart]

/-- The state at the report with PU's note of it (log 21). -/
def State.noted (s : State) (c : Instr) (r : PushRecord) (es : List OvenEntry) : State :=
  (s.passed c).withPu { s.pu with taken := some ⟨r.oven, es, r.stage⟩ }

theorem State.does_noted (s : State) (c : Instr) (r : PushRecord) (es : List OvenEntry) :
    Does r.oven (s.passed c) (s.noted c r es) { s.idle r.oven with pu := { s.pu with taken := some ⟨r.oven, es, r.stage⟩ } } :=
  ((s.passed c).does_idle r.oven).withPu _

theorem stageConfirmation_of_entry (c : Instr) (push : s.pu.push = some r) (serves : (r.oven - 1) / 8 = m.val)
    (entry : es[(r.oven - 1) % 8]? = some e) : stageConfirmation m es (s.passed c) = (s.noted c r es).confirm r e := by
  have node : nodeNumber r.oven = m := by
    refine Fin.ext ?_
    have small := m.isLt
    change (r.oven - 1) / 8 % 12 = m.val
    omega
  simp [stageConfirmation, State.noted, State.passed, push, entryFor, node, entry]

/-! ### What each stage makes of the entry -/

theorem State.confirm_of_idle (h : r.stage = .spot ∨ r.stage = .ram ∨
      (r.stage = .isolate ∧ (16 < e.feedback.toNat ∨ e.capOpen = false)) ∨
      (r.stage = .doorsOff ∧ (e.presentP = true ∨ e.presentC = true)) ∨
      ((r.stage = .doorsOn ∨ r.stage = .retreat) ∧ (e.presentP = false ∨ e.presentC = false))) : s.confirm r e = s := by
  rcases h with h | h | ⟨h, open_ | shut⟩ | ⟨h, present | present⟩ | ⟨h | h, absent | absent⟩
  case inr.inr.inl.inl =>
    have far : ¬(e.feedback.toNat ≤ 16 ∧ e.capOpen = true) := fun both => by omega
    simp [State.confirm, h, far]
  all_goals simp [State.confirm, *]

theorem State.confirm_of_isolated (stage : r.stage = .isolate) (feedback : e.feedback.toNat ≤ 16) (cap : e.capOpen = true) :
    s.confirm r e = (s.issueAll (toBoth .extract)).setPush (some (s.inStage r .doorsOff)) := by
  simp [State.confirm, stage, feedback, cap]

theorem State.confirm_of_off (stage : r.stage = .doorsOff) (p : e.presentP = false) (c : e.presentC = false) :
    s.confirm r e = s.completeDoorsOff r := by
  simp [State.confirm, stage, p, c]

theorem State.confirm_of_on (stage : r.stage = .doorsOn) (p : e.presentP = true) (c : e.presentC = true) :
    s.confirm r e = s.completePush r false := by
  simp [State.confirm, stage, p, c]

theorem State.confirm_of_back (stage : r.stage = .retreat) (p : e.presentP = true) (c : e.presentC = true) :
    s.confirm r e = s.completeRetreat r := by
  simp [State.confirm, stage, p, c]

/-- The RAM entry re-check (R65). -/
theorem State.recheck_iff (s : State) (r : PushRecord) : s.recheck r = true ↔
    s.pu.guide.latched = true ∧ s.pu.pusher.holding = true ∧ s.pu.guide.holding = true ∧ r.claimed = true ∧
      (s.car r.car).state = .spotted ∧ (s.car r.car).position = .oven r.oven ∧ s.pins.estop = false := by
  simp [State.recheck, and_assoc]

theorem State.recheck_noted_iff (c : Instr) : (s.noted c r es).recheck r = true ↔
    s.pu.guide.latched = true ∧ s.pu.pusher.holding = true ∧ s.pu.guide.holding = true ∧ r.claimed = true ∧
      (s.car r.car).state = .spotted ∧ (s.car r.car).position = .oven r.oven ∧ s.pins.estop = false :=
  State.recheck_iff _ r

theorem State.completeDoorsOff_of_pass (h : s.recheck r = true) : s.completeDoorsOff r =
    (s.issueAll [⟨.pusher, .ramForward⟩]).setPush (some (s.inStage { r with forwardSeen := false, peakForce := 0 } .ram)) :=
  if_pos h

theorem State.completeDoorsOff_of_fail (h : s.recheck r = false) : s.completeDoorsOff r = s.enterRetreat r .recheck :=
  if_neg (by simp [h])

end

/-- Settles O39: each stage's condition on the entry of the pushed oven, and the deed of the stage it completes. -/
theorem stageConfirmationsAreJudgedByStage : Obligations.StageConfirmationsAreJudgedByStage := by
  intro s m es run length
  rw [exec_stageConfirmation run length]
  refine ⟨fun push => congrArg _ (stageConfirmation_of_none push), fun r push =>
    ⟨fun other => congrArg _ (stageConfirmation_of_other push other), ?_⟩⟩
  rintro e entry shape law serves p rfl
  obtain ⟨low, place⟩ := shape.place_of_push law push
  have place : r.oven - 1 < (s.passed (.stageConfirmation m es)).ovens.length := place
  rw [stageConfirmation_of_entry _ push serves entry]
  have base := s.does_noted (.stageConfirmation m es) r es
  refine ⟨fun idle => ?idle, fun stage feedback cap room => ?isolate, fun stage p c room => ?off,
    fun stage p c clear room notice wait => ?on, fun stage p c clear room notice wait => ?back⟩
  case idle =>
    rw [State.confirm_of_idle idle]
    exact ⟨_, rfl, frameOf_withPu _ _ _, rfl⟩
  case isolate =>
    have done := (base.issueAll (toBoth .extract)).setPush (some { r with
      stage := .doorsOff, entered := s.bk.seconds, timer := s.pu.limits.doorsOff })
    rw [State.confirm_of_isolated stage feedback cap, base.inStage]
    exact ⟨_, rfl, done.frameOf (.inr rfl) (.inr rfl) (.inl (by simp)) (.inr rfl) (by simp) (.inr (done.sl_of_quiet room rfl)),
      done.pu, done.issued room⟩
  case off =>
    have check := s.recheck_noted_iff (r := r) (es := es) (.stageConfirmation m es)
    rw [State.confirm_of_off stage p c]
    cases passes : (s.noted (.stageConfirmation m es) r es).recheck r with
    | true =>
      obtain ⟨latched, pusher, guide, claimed, state, position, estop⟩ := check.mp passes
      have done := (base.issueAll [⟨.pusher, .ramForward⟩]).setPush (some { r with
        stage := .ram, entered := s.bk.seconds, timer := s.pu.limits.ram, forwardSeen := false, peakForce := 0 })
      have field := room.of_le (show 1 ≤ 2 by omega)
      rw [State.completeDoorsOff_of_pass passes, base.inStage]
      refine ⟨_, rfl, done.frameOf (.inr rfl) (.inr rfl) (.inl (by simp)) (.inr rfl) (by simp) (.inr (done.sl_of_quiet field rfl)),
        fun _ _ _ _ _ _ _ => ⟨done.pu, done.issued field⟩, fun failing => ?_⟩
      simp [latched, pusher, guide, claimed, state, position, estop] at failing
    | false =>
      have done := base.enterRetreat r .recheck (Bool.and_true _)
      rw [State.completeDoorsOff_of_fail passes]
      refine ⟨_, rfl, done.frameOf (.inr rfl) (.inr rfl) (.inl (by simp)) (.inr rfl) (by simp) (.inr (done.sl_of_quiet room rfl)),
        fun latched pusher guide claimed state position estop => ?_, fun _ => ⟨done.pu, done.issued room⟩⟩
      have passed := check.mpr ⟨latched, pusher, guide, claimed, state, position, estop⟩
      simp [passes] at passed
  case on =>
    have done := base.completePush place (silent := false) (.inr clear)
    have field := done.room room (Deed.finish_length _)
    rw [State.confirm_of_on stage p c]
    exact ⟨_, rfl, done.frameOf (.inl (by simp)) (.inr rfl) (.inl (by simp)) (.inr rfl) (by simp) (.inl (by simp)), done.pu,
      done.othersKept low, done.oven_self place, done.issued field, done.noticesOnly field notice wait⟩
  case back =>
    have done := base.completeRetreat place clear
    have field := done.room room ((Deed.abort_length _ _ _).trans (Nat.add_le_add_right Deed.releaseIf_length 2))
    rw [State.confirm_of_back stage p c]
    refine ⟨_, rfl, done.frameOf (.inl (by simp)) (.inr rfl) (.inl (by simp)) (.inl (by simp)) (by simp) (.inl (by simp)), done.pu,
      done.othersKept low, done.oven_self place, fun free => ?_, fun claimed => ?_, fun y cause => ?_⟩
    · rw [Deed.releaseIf_of_free free] at done field
      exact ⟨done.qu, done.issued field⟩
    · rw [Deed.releaseIf_of_claimed claimed] at done field
      exact ⟨done.qu, done.issued field⟩
    · have raised := done.noticesOnly field notice wait
      rw [cause] at raised
      exact raised

/-! ### The events that abort a push (R61, R79, R81) -/

/-- An event of PU and the cause with which it aborts a push. -/
def AbortsWith (c : Instr) (y : AbortCause) : Prop :=
  (c = .stageTimerExpiry ∧ y = .timeout) ∨ (c = .machineSilenceAtPu .pusher ∧ y = .pusherSilent) ∨
    (c = .machineSilenceAtPu .guide ∧ y = .guideSilent) ∨ (c = .estopAtPu ∧ y = .estop)

section
variable {s : State} {r : PushRecord} {c : Instr} {y : AbortCause}

theorem AbortsWith.ne_car (h : AbortsWith c y) : y ≠ .car := by
  rcases h with ⟨-, rfl⟩ | ⟨-, rfl⟩ | ⟨-, rfl⟩ | ⟨-, rfl⟩ <;> decide

/-- The event acts as the abort, a stage timer only once it has run out. -/
theorem AbortsWith.exec_eq (h : AbortsWith c y) (run : s.pins.inReset = false) (push : s.pu.push = some r)
    (out : c = .stageTimerExpiry → r.timer = 0) : exec c s = .next ((s.passed c).abortPush y) := by
  rcases h with ⟨rfl, rfl⟩ | ⟨rfl, rfl⟩ | ⟨rfl, rfl⟩ | ⟨rfl, rfl⟩
  · have acts : stageTimerExpiry (s.passed .stageTimerExpiry) = (s.passed .stageTimerExpiry).abortPush .timeout := by
      have present : (s.passed .stageTimerExpiry).pu.push = some r := push
      simp [stageTimerExpiry, present, out rfl]
    exact (s.event_of_run _ _ run).trans (congrArg _ acts)
  all_goals exact s.event_of_run _ _ run

/-- With no push, or with time left, the event passes. -/
theorem AbortsWith.exec_of_none (h : AbortsWith c y) (run : s.pins.inReset = false) (push : s.pu.push = none) :
    exec c s = .next (s.passed c) := by
  have idle : (s.passed c).abortPush y = s.passed c := State.abortPush_of_none push
  rcases h with ⟨rfl, rfl⟩ | ⟨rfl, rfl⟩ | ⟨rfl, rfl⟩ | ⟨rfl, rfl⟩
  · have passes : stageTimerExpiry (s.passed .stageTimerExpiry) = s.passed .stageTimerExpiry := by
      have absent : (s.passed .stageTimerExpiry).pu.push = none := push
      simp [stageTimerExpiry, absent]
    exact (s.event_of_run _ _ run).trans (congrArg _ passes)
  all_goals exact (s.event_of_run _ _ run).trans (congrArg _ idle)

theorem exec_stageTimer_of_left (run : s.pins.inReset = false) (push : s.pu.push = some r) (left : r.timer ≠ 0) :
    exec .stageTimerExpiry s = .next (s.passed .stageTimerExpiry) := by
  have passes : stageTimerExpiry (s.passed .stageTimerExpiry) = s.passed .stageTimerExpiry := by
    have present : (s.passed .stageTimerExpiry).pu.push = some r := push
    simp [stageTimerExpiry, present, left]
  exact (s.event_of_run _ _ run).trans (congrArg _ passes)

end

theorem stallCommands_length (x : Stage) (y : AbortCause) : (stallCommands x y).length ≤ 2 := by
  unfold stallCommands
  split_ifs <;> simp [toBoth]

/-- Settles O40: the event acts as the abort, and the stage says which deed that is. -/
theorem abortEventsActByStage : Obligations.AbortEventsActByStage := by
  intro s c y shape law run event
  have event : AbortsWith c y := event
  refine ⟨event.exec_of_none run, fun r push => ⟨fun timer left => timer ▸ exec_stageTimer_of_left run push left, fun out => ?_⟩⟩
  rw [event.exec_eq run push out]
  obtain ⟨low, place⟩ := shape.place_of_push law push
  have place : r.oven - 1 < (s.passed c).ovens.length := place
  have push : (s.passed c).pu.push = some r := push
  have base := (s.passed c).does_idle r.oven
  refine ⟨fun stage quiet room notice wait => ?early, fun stage heard room => ?doorsOff, fun stage room notice wait => ?late,
    fun stage quiet room notice wait => ?doorsOn⟩
  case early =>
    have quiet : y.bySilence = true ∨ s.su.slotFlag = false := quiet.symm.imp_left y.bySilence_iff.mpr
    have done := base.undoPush place y quiet
    have field := done.room room ((Deed.abort_length _ _ _).trans (Nat.add_le_add_right Deed.releaseIf_length 2))
    rw [State.abortPush_of_early push stage]
    refine ⟨_, rfl, done.frameOf (.inl (by simp)) (.inr rfl) (.inl (by simp)) (.inl (by simp)) (by simp) (.inl (by simp)), done.pu,
      done.othersKept low, done.oven_self place, fun free => ?_, fun claimed => ?_, done.noticesOnly field notice wait⟩
    · rw [Deed.releaseIf_of_free free] at done field
      exact ⟨done.qu, done.issued field⟩
    · rw [Deed.releaseIf_of_claimed claimed] at done field
      exact ⟨done.qu, done.issued field⟩
  case doorsOff =>
    have done := base.enterRetreat r y (claimed := r.claimed) (by simp [event.ne_car])
    rw [State.abortPush_of_doorsOff push stage heard]
    exact ⟨_, rfl, done.frameOf (.inr rfl) (.inr rfl) (.inl (by simp)) (.inr rfl) (by simp) (.inr (done.sl_of_quiet room rfl)),
      done.pu, done.issued room⟩
  case late =>
    have stalls := State.abortPush_of_late push (stage.imp_right (Or.imp_left fun h => ⟨h, event.ne_car⟩))
    have done := (base.issueAll (stallCommands r.stage y)).makeStall place (law.run_of_push push) y
      (if r.stage = .retreat then r.abortCause else none)
    have field := done.room room ((Deed.stall_length _ _ _).trans (Nat.add_le_add_right (stallCommands_length _ _) 2))
    rw [stalls]
    refine ⟨_, rfl, done.frameOf (.inl (by simp)) (.inl (by simp)) (.inl (by simp)) (.inr rfl) (by simp) (.inl (by simp)), done.pu,
      done.othersKept low, done.oven_self place, done.issued field, done.su, done.noticesOnly field ?_ wait⟩
    exact notice.of_le (Deed.stall_notices_length _ _ _)
  case doorsOn =>
    have quiet : y.bySilence = true ∨ s.su.slotFlag = false := quiet.symm.imp_left y.bySilence_iff.mpr
    have done := (base.issueAll (toBoth .halt)).completePush (r := { r with doorFault := true }) place quiet
    have field := done.room room (Deed.finish_length _)
    rw [State.abortPush_of_doorsOn push stage]
    exact ⟨_, rfl, done.frameOf (.inl (by simp)) (.inr rfl) (.inl (by simp)) (.inr rfl) (by simp) (.inl (by simp)), done.pu,
      done.othersKept low, done.oven_self place, done.issued field, done.noticesOnly field notice wait⟩

end Sys2Proof.Machine

/-!
SUPPORT. Deeds done at a request: the statements about ABORT_PUSH and CLEAR_STALL.
-/

namespace Sys2Proof.Machine

/-- A request taken and answered, with its deed: the record of its oven, the units, the links and the reply. -/
structure Serves (n : Nat) (s t : State) (f : Frame) (fields : List Byte) (d : Deed) : Prop where
  oven : t.oven n = d.oven
  others : OthersKept s t n
  su : t.su = d.su
  pu : t.pu = d.pu
  qu : t.qu = d.qu
  issued : Issued s t d.commands
  noticed : s.NoticeRoom d.notices.length → Noticed s t d.notices
  replied : Replied t f .ok fields

section
variable {n : Nat} {s u : State} {d : Deed} {c : Instr} {f : Frame} {owner : State → Answer} {fields : List Byte} {l : List Block}

theorem Does.serves (h : Does n (s.taking c f) u d) (taken : owner (s.taking c f) = u.reply fields) (low : 1 ≤ n)
    (place : n - 1 < s.ovens.length) (field : s.FieldRoom d.commands.length) :
    Serves n s (s.afterRequest c f owner) f fields d := by
  obtain ⟨issued, sl⟩ := h.links field
  have same : s.afterRequest c f owner = u.withSl (u.sl.answer (replyFrame f (u.reply fields))) := by
    rw [State.afterRequest, serve_eq, taken]
    rfl
  have kept : u.sl.inService = some f := h.inService field
  have oven := h.oven_self (by exact place)
  refine ⟨?_, ?_, ?_, ?_, ?_, ?_, fun notice => ?_, ?_⟩
  case refine_8 =>
    have replied := replied_serve c f owner s (by rw [taken]; exact kept)
    rw [taken] at replied
    exact replied
  case refine_7 =>
    have raised := (s.taking c f).raiseAll_noticed d.notices rfl notice
    rw [same, Noticed, State.withSl_sl, SupLink.answer_eq, sl]
    exact raised
  all_goals rw [same]
  · exact oven
  · exact h.othersKept low
  · exact h.su
  · exact h.pu
  · exact h.qu
  · exact issued

/-- The frame of a request's deed: whatever unit the deed leaves may be said to be kept. -/
theorem Does.frameOf_request (h : Does n (s.taking c f) u d) (taken : owner (s.taking c f) = u.reply fields)
    (ovens : .ovens ∈ l ∨ d.oven = s.oven n) (su : .su ∈ l ∨ d.su = s.su) (pu : .pu ∈ l ∨ d.pu = s.pu)
    (qu : .qu ∈ l ∨ d.qu = s.qu) (fl : .fl ∈ l) (sl : .sl ∈ l) (due : .due ∉ l) : FrameOf c l s (s.afterRequest c f owner) := by
  refine frameOf_serve c f owner s (fun b out => ?_) sl due
  rw [taken]
  by_cases touched : b ∈ [Block.ovens, .su, .pu, .qu, .fl, .sl]
  · simp only [List.mem_cons, List.not_mem_nil, or_false] at touched
    rcases touched with rfl | rfl | rfl | rfl | rfl | rfl
    · exact h.ovens_of_same (ovens.resolve_left out)
    · exact h.su.trans (su.resolve_left out)
    · exact h.pu.trans (pu.resolve_left out)
    · exact h.qu.trans (qu.resolve_left out)
    · exact absurd fl out
    · exact absurd sl out
  · exact h.keeps b touched

/-- The reply leaves the mode that an evaluation gives. -/
theorem afterRequest_valveMode (taken : owner (s.taking c f) = u.reply fields) (n : Nat) :
    u.valveMode n = (s.afterRequest c f owner).valveMode n := by
  have same := (s.keeps_afterRequest c f owner).valveMode_eq n
  rw [taken] at same
  exact same.symm

end

/-! ### ABORT_PUSH (R80) -/

section
variable {s : State} {r : PushRecord} {tag : Byte} {k : Half}

/-- The state ABORT_PUSH leaves. -/
def State.afterAbort (s : State) (tag : Byte) (k : Half) : State :=
  s.afterRequest (.abortPush tag k) ⟨0x31, tag, halfBytes k⟩ (Machine.abortPush k)

/-- The state PU judges ABORT_PUSH on. -/
def State.aborting (s : State) (tag : Byte) (k : Half) : State := s.taking (.abortPush tag k) ⟨0x31, tag, halfBytes k⟩

theorem exec_abortPush (free : s.Free) (ht : tag ≠ 0) : exec (.abortPush tag k) s = .next (s.afterAbort tag k) :=
  exec_of_free rfl rfl rfl free ht

theorem abortPush_refused {x : Status} (h : Machine.abortPush k (s.aborting tag k) = (s.aborting tag k).refuse x) :
    FrameOf (.abortPush tag k) [.sl] s (s.afterAbort tag k) ∧ Answered s (s.afterAbort tag k) ⟨0x31, tag, halfBytes k⟩ x [] :=
  serve_of_refuse _ _ _ s x h

theorem abortPush_of_stall (stall : s.pu.stall ≠ none) : Machine.abortPush k s = s.refuse .wrongPhase := by
  simp [Machine.abortPush, Option.isSome_iff_ne_none, stall]

theorem abortPush_of_absent (stall : s.pu.stall = none) (absent : ∀ r, s.pu.push = some r → r.number ≠ k) :
    Machine.abortPush k s = s.refuse .notFound := by
  unfold Machine.abortPush
  split
  · next present => simp [stall] at present
  · split
    · rfl
    · next r push => exact if_pos (absent r push)

theorem abortPush_of_retreat (push : s.pu.push = some r) (stall : s.pu.stall = none) (number : r.number = k)
    (stage : r.stage = .retreat) : Machine.abortPush k s = s.refuse .wrongPhase := by
  simp [Machine.abortPush, push, stall, number, stage]

theorem abortPush_of_push (push : s.pu.push = some r) (stall : s.pu.stall = none) (number : r.number = k)
    (stage : r.stage ≠ .retreat) :
    Machine.abortPush k s = (s.abortPush .host).reply [byteOf r.stage.code, byteOf r.stage.abortOutcome] := by
  simp [Machine.abortPush, push, stall, number, stage]

end

/-- Settles O35: the checks, then the abort with cause HOST as the stage makes it. -/
theorem abortPushActsByStage : Obligations.AbortPushActsByStage := by
  intro s tag k shape law free ht
  rw [exec_abortPush free ht]
  refine ⟨fun stall => ⟨_, rfl, abortPush_refused (abortPush_of_stall stall)⟩,
    fun stall absent => ⟨_, rfl, abortPush_refused (abortPush_of_absent stall absent)⟩, fun r push stall number => ?_⟩
  subst number
  refine ⟨fun stage => ⟨_, rfl, abortPush_refused (abortPush_of_retreat push stall rfl stage)⟩, ?_⟩
  obtain ⟨low, place⟩ := shape.place_of_push law push
  have taken (stage : r.stage ≠ .retreat) : Machine.abortPush r.number (s.aborting tag r.number) = _ :=
    abortPush_of_push push stall rfl stage
  have base := (s.aborting tag r.number).does_idle r.oven
  have push : (s.aborting tag r.number).pu.push = some r := push
  have place' : r.oven - 1 < (s.aborting tag r.number).ovens.length := place
  refine ⟨fun stage clear room notice => ?early, fun stage room => ?doorsOff, fun stage room notice => ?ram,
    fun stage clear room notice => ?doorsOn⟩
  case early =>
    have code : byteOf r.stage.abortOutcome = 1 := by rcases stage with stage | stage <;> rw [stage] <;> rfl
    have taken := taken (by rcases stage with stage | stage <;> simp [stage])
    rw [State.abortPush_of_early push stage, code] at taken
    have done := base.undoPush place' .host (.inr clear)
    rw [afterRequest_valveMode taken] at done
    have field := done.room room ((Deed.abort_length _ _ _).trans (Nat.add_le_add_right Deed.releaseIf_length 2))
    have served := done.serves taken low place field
    refine ⟨_, rfl, done.frameOf_request taken (.inl (by simp)) (.inr rfl) (.inl (by simp)) (.inl (by simp)) (by simp) (by simp)
      (by simp), served.pu, served.others, served.oven, served.noticed notice, fun free => ?_, fun claimed => ?_, served.replied⟩
    · rw [Deed.releaseIf_of_free free] at served
      exact ⟨served.qu, served.issued⟩
    · rw [Deed.releaseIf_of_claimed claimed] at served
      exact ⟨served.qu, served.issued⟩
  case doorsOff =>
    have code : [byteOf r.stage.code, byteOf r.stage.abortOutcome] = [3, 2] := by rw [stage]; rfl
    have taken := taken (by simp [stage])
    rw [State.abortPush_of_doorsOff push stage (by decide), code] at taken
    have done := base.enterRetreat r .host (Bool.and_true _)
    have served := done.serves taken low place room
    exact ⟨_, rfl, done.frameOf_request taken (.inr rfl) (.inr rfl) (.inl (by simp)) (.inr rfl) (by simp) (by simp) (by simp),
      served.pu, served.issued, answered_of_sl taken (done.sl_of_quiet room rfl)⟩
  case ram =>
    have code : [byteOf r.stage.code, byteOf r.stage.abortOutcome] = [4, 3] := by rw [stage]; rfl
    have taken := taken (by simp [stage])
    rw [State.abortPush_of_late push (.inl stage), code] at taken
    have done := (base.issueAll (stallCommands r.stage .host)).makeStall place' (law.run_of_push push) .host
      (if r.stage = .retreat then r.abortCause else none)
    have field := done.room room ((Deed.stall_length _ _ _).trans (Nat.add_le_add_right (stallCommands_length _ _) 2))
    have served := done.serves taken low place field
    cases r
    cases stage
    exact ⟨_, rfl, done.frameOf_request taken (.inl (by simp)) (.inl (by simp)) (.inl (by simp)) (.inr rfl) (by simp) (by simp)
      (by simp), served.pu, served.others, served.oven, served.issued, served.su,
      served.noticed (notice.of_le (Deed.stall_notices_length _ _ _)), served.replied⟩
  case doorsOn =>
    have code : [byteOf r.stage.code, byteOf r.stage.abortOutcome] = [5, 4] := by rw [stage]; rfl
    have taken := taken (by simp [stage])
    rw [State.abortPush_of_doorsOn push stage, code] at taken
    have done := (base.issueAll (toBoth .halt)).completePush (r := { r with doorFault := true })
      (silent := AbortCause.host.bySilence) place' (.inr clear)
    rw [afterRequest_valveMode taken] at done
    have field := done.room room (Deed.finish_length _)
    have served := done.serves taken low place field
    exact ⟨_, rfl, done.frameOf_request taken (.inl (by simp)) (.inr rfl) (.inl (by simp)) (.inr rfl) (by simp) (by simp)
      (by simp), served.pu, served.others, served.oven, served.issued, served.noticed notice, served.replied⟩

/-! ### CLEAR_STALL (R78) -/

section
variable {n : Nat} {s t : State} {d : Deed} {r : StallRecord} {tag result : Byte}

/-- What releasing the car c of a stall record from s makes of QU, and the commands it takes (R78, step 3). -/
structure State.StallReleased (s : State) (r : StallRecord) (q : QuenchUnit) (moves : List Outgoing) : Prop where
  short : moves.length ≤ 1
  free : r.claimed = false → q = s.qu ∧ moves = []
  empty : r.claimed = true → (s.car r.car).state ≠ .loaded → q = s.qu.setCar r.car (s.car r.car).released ∧ moves = haltOf r.car (s.car r.car)
  loaded : r.claimed = true → (s.car r.car).state = .loaded → s.Dispatched r.car q moves

theorem Does.releaseStalled (h : Does n s t d) (qu : d.qu = s.qu) (r : StallRecord) :
    ∃ q moves, s.StallReleased r q moves ∧ Does n s (t.releaseStalled r) (Deed.issue { d with qu := q } moves) := by
  have car : t.car r.car = s.car r.car := by rw [h.car, qu]; rfl
  unfold State.releaseStalled
  rw [car]
  cases claimed : r.claimed with
  | false =>
    refine ⟨s.qu, [], ⟨Nat.zero_le 1, fun _ => ⟨rfl, rfl⟩, by simp [claimed], by simp [claimed]⟩, ?_⟩
    have done := h.issueAll []
    rw [← qu]
    exact done
  | true =>
    by_cases loaded : (s.car r.car).state = .loaded
    · obtain ⟨q, moves, dispatched, short, done⟩ := h.dispatchCar qu r.car
      rw [if_neg (by simp), if_pos loaded]
      exact ⟨q, moves, ⟨short, by simp [claimed], fun _ out => absurd loaded out, fun _ _ => dispatched⟩, done⟩
    · have done := h.releaseCar r.car
      simp only [Deed.release, qu] at done
      rw [if_neg (by simp), if_neg loaded]
      exact ⟨_, _, ⟨haltOf_length _ _, by simp [claimed], fun _ _ => ⟨rfl, rfl⟩, fun _ h => absurd h loaded⟩, done⟩

theorem ShapeLaw.place_of_stall (shape : ShapeLaw s) (law : PushLaw s) (stall : s.pu.stall = some r) :
    1 ≤ r.oven ∧ r.oven - 1 < s.ovens.length := by
  obtain ⟨low, high⟩ : 1 ≤ r.oven ∧ r.oven ≤ s.ovenCount := by simpa [State.inRange] using (law.stalled r stall).1
  have count := shape.countHigh
  have size := shape.ovens
  omega

@[simp] theorem Oven.unstall_valve (o : Oven) (pushed : Bool) (k : Half) : (o.unstall pushed k).valve = o.valve := by
  cases pushed <;> rfl

/-- The steps of R78 in order. -/
theorem Does.clearStall (h : Does r.oven s t d) (place : r.oven - 1 < s.ovens.length) (qu : d.qu = s.qu) (pushed : Bool) :
    ∃ q moves, s.StallReleased r q moves ∧ Does r.oven s (t.clearStall r pushed)
      (Deed.turn { Deed.issue (d.issue [toOven r.oven (.cap r.oven false)]) moves with
        oven := d.oven.unstall pushed r.number
        qu := q
        pu := { d.pu with stall := none }
        notices := d.notices ++ [.stallCleared r.number r.oven (boolCode pushed)] } r.oven
        ((t.clearStall r pushed).valveMode r.oven)) := by
  have cleared := (h.setOven (d.oven.unstall pushed r.number)).issueAll [toOven r.oven (.cap r.oven false)]
  obtain ⟨q, moves, released, done⟩ := cleared.releaseStalled qu r
  refine ⟨q, moves, released, ?_⟩
  unfold State.clearStall
  rw [h.oven_self place]
  dsimp only
  rw [done.pu]
  exact ((done.withPu _).raise _).evalValve place

/-- The state CLEAR_STALL leaves. -/
def State.afterClear (s : State) (tag result : Byte) : State :=
  s.afterRequest (.clearStall tag result) ⟨0x32, tag, [result]⟩ (Machine.clearStall result)

/-- The state PU judges CLEAR_STALL on. -/
def State.clearing (s : State) (tag result : Byte) : State := s.taking (.clearStall tag result) ⟨0x32, tag, [result]⟩

theorem exec_clearStall (free : s.Free) (ht : tag ≠ 0) : exec (.clearStall tag result) s = .next (s.afterClear tag result) :=
  exec_of_free rfl rfl rfl free ht

theorem clearStall_refused {x : Status} (h : Machine.clearStall result (s.clearing tag result) = (s.clearing tag result).refuse x) :
    FrameOf (.clearStall tag result) [.sl] s (s.afterClear tag result) ∧
      Answered s (s.afterClear tag result) ⟨0x32, tag, [result]⟩ x [] :=
  serve_of_refuse _ _ _ s x h

theorem clearStall_of_value (value : 1 < result.toNat) : Machine.clearStall result s = s.refuse .badValue := if_pos value

theorem clearStall_of_none (value : result.toNat ≤ 1) (stall : s.pu.stall = none) :
    Machine.clearStall result s = s.refuse .notFound := by
  simp [Machine.clearStall, State.clearRefusal, stall, Nat.not_lt.mpr value]

theorem clearStall_of_estop (value : result.toNat ≤ 1) (stall : s.pu.stall = some r) (estop : s.pins.estop = true) :
    Machine.clearStall result s = s.refuse .busy := by
  simp [Machine.clearStall, State.clearRefusal, stall, Nat.not_lt.mpr value, estop]

theorem clearStall_of_off (value : result.toNat ≤ 1) (stall : s.pu.stall = some r) (estop : s.pins.estop = false)
    (zero : result = 0) (off : (s.oven r.oven).doorP.state = .off ∨ (s.oven r.oven).doorC.state = .off) :
    Machine.clearStall result s = s.refuse .doorsNotSealed := by
  subst zero
  simp [Machine.clearStall, State.clearRefusal, stall, estop, off]

theorem clearStall_of_pass (value : result.toNat ≤ 1) (stall : s.pu.stall = some r) (estop : s.pins.estop = false)
    (doors : result = 1 ∨ ((s.oven r.oven).doorP.state ≠ .off ∧ (s.oven r.oven).doorC.state ≠ .off)) :
    Machine.clearStall result s = (s.clearStall r (result == 1)).reply [byteOf r.oven, result] := by
  have passes : ¬(result = 0 ∧ ((s.oven r.oven).doorP.state = .off ∨ (s.oven r.oven).doorC.state = .off)) := by
    rintro ⟨rfl, off⟩
    rcases doors with h | ⟨p, c⟩
    · exact absurd h (by decide)
    · exact off.elim p c
  have none : s.clearRefusal result = none := by
    simp only [State.clearRefusal, stall, estop, if_neg passes, Bool.false_eq_true, if_false]
  simp only [Machine.clearStall, if_neg (Nat.not_lt.mpr value), none, stall]

/-- The result code as STALL_CLEARED gives it (R78). -/
theorem boolCode_result (value : result.toNat ≤ 1) : boolCode (result == 1) = result.toNat := by
  have two : result = 0 ∨ result = 1 := by
    have one : (1 : Byte).toNat = 1 := rfl
    by_cases h : result.toNat = 0
    · exact .inl (BitVec.eq_of_toNat_eq h)
    · exact .inr (BitVec.eq_of_toNat_eq (by omega))
  rcases two with rfl | rfl <;> rfl

end

/-- Settles O36: the checks, then the steps of R78, the car dispatched or released as it stands. -/
theorem clearStallRemovesTheRecord : Obligations.ClearStallRemovesTheRecord := by
  intro s tag result shape law free ht
  rw [exec_clearStall free ht]
  refine ⟨fun value => ⟨_, rfl, clearStall_refused (clearStall_of_value value)⟩,
    fun value stall => ⟨_, rfl, clearStall_refused (clearStall_of_none value stall)⟩, fun r stall value =>
    ⟨fun estop => ⟨_, rfl, clearStall_refused (clearStall_of_estop value stall estop)⟩,
      fun estop zero off => ⟨_, rfl, clearStall_refused (clearStall_of_off value stall estop zero off)⟩,
      fun estop doors room notice => ?_⟩⟩
  obtain ⟨low, place⟩ := shape.place_of_stall law stall
  have taken : Machine.clearStall result (s.clearing tag result) = _ := clearStall_of_pass value stall estop doors
  obtain ⟨q, moves, released, done⟩ := ((s.clearing tag result).does_idle r.oven).clearStall (by exact place) rfl (result == 1)
  rw [afterRequest_valveMode taken] at done
  have few := released.short
  have field := done.room room ((Deed.turn_length _ _).trans (by simp [Deed.issue, State.idle]; omega))
  have served := done.serves taken low place field
  have issued := served.issued
  have oven := served.oven
  have notices := served.noticed notice
  simp only [Deed.turn, Oven.unstall_valve] at issued oven
  rw [boolCode_result value] at notices
  refine ⟨_, rfl, done.frameOf_request taken (.inl (by simp)) (.inr rfl) (.inl (by simp)) (.inl (by simp)) (by simp) (by simp)
    (by simp), served.pu, served.others, ?_, ⟨moves, issued, fun free => ?_, fun claimed out => ?_, ?_⟩, notices, served.replied⟩
  · rintro v rfl
    refine oven.trans ?_
    by_cases pushed : result = 1
    · subst pushed
      rfl
    · rw [if_neg pushed, beq_false_of_ne pushed]
      rfl
  · obtain ⟨qu, none⟩ := released.free free
    exact ⟨served.qu.trans qu, none⟩
  · obtain ⟨qu, halted⟩ := released.empty claimed out
    exact ⟨served.qu.trans qu, halted⟩
  · rintro claimed loaded age ages before order
    have dispatched : s.Dispatched r.car q moves := (released.loaded claimed loaded).of_same rfl rfl rfl
    have joined := s.joinWaiters_of_ages r.car ages order
    have timer : s.moveTimer = some s.qu.limits.travel := by simp [State.moveTimer, estop]
    have sent (l : Location) (k : Timer) : s.moveCommands r.car l k = [⟨.car r.car, .move l⟩] := by
      simp [State.moveCommands, estop]
    refine ⟨fun free => ?_, fun busy => ?_⟩
    · obtain ⟨qu, moved⟩ := dispatched.free free
      rw [timer] at qu
      exact ⟨served.qu.trans qu, moved.trans (sent _ _)⟩
    · obtain ⟨qu, moved⟩ := dispatched.busy busy
      rw [timer, joined] at qu
      exact ⟨served.qu.trans qu, moved.trans (sent _ _)⟩

end Sys2Proof.Machine

/-!
SUPPORT. What QU makes of a recorded car report (R139), case by case: the statement about car reports.
-/

namespace Sys2Proof.Machine

/-! ### Car records written over -/

@[simp] theorem QuenchUnit.setCar_setCar (q : QuenchUnit) (c : Car) (k j : CarRecord) : (q.setCar c k).setCar c j = q.setCar c j := by
  cases c <;> rfl

@[simp] theorem State.setCar_setCar (s : State) (c : Car) (k j : CarRecord) : (s.setCar c k).setCar c j = s.setCar c j := by
  cases c <;> rfl

@[simp] theorem State.setCar_qu (s : State) (c : Car) (k : CarRecord) : (s.setCar c k).qu = s.qu.setCar c k := rfl

theorem QuenchUnit.setBay_setCar (q : QuenchUnit) (c : Car) (k : CarRecord) (b : Nat) (y : Bay) :
    (q.setBay b y).setCar c k = (q.setCar c k).setBay b y := by
  cases c <;> rfl

theorem frameOf_withQu (s : State) (i : Instr) (q : QuenchUnit) : FrameOf i [.qu] s ((s.passed i).withQu q) := by
  refine ⟨fun b hb => ?_, rfl⟩
  cases b with
  | qu | due => simp at hb
  | _ => rfl

section
variable {s : State} {c : Car} {x : CarReport}

/-- The state with a car report recorded (R139). -/
def State.recorded (s : State) (c : Car) (x : CarReport) : State :=
  (s.passed (.carReport c x)).setCar c ((s.car c).record x)

theorem exec_carReport (run : s.pins.inReset = false) (wf : x.position.wf = true) :
    exec (.carReport c x) s = .next ((s.recorded c x).judgeCar c) :=
  (s.checked_of_wf (.carReport c x) _ wf).trans (s.event_of_run _ _ run)

@[simp] theorem State.recorded_car : (s.recorded c x).car c = (s.car c).record x := State.car_setCar_self _ c _

@[simp] theorem State.recorded_qu : (s.recorded c x).qu = s.qu.setCar c ((s.car c).record x) := rfl

theorem State.frameOf_recorded (k : CarRecord) : FrameOf (.carReport c x) [.qu] s ((s.recorded c x).setCar c k) := by
  rw [State.recorded, State.setCar_setCar]
  exact frameOf_withQu _ _ _

theorem State.recorded_setCar_qu (k : CarRecord) : ((s.recorded c x).setCar c k).qu = s.qu.setCar c k :=
  s.qu.setCar_setCar c _ k

theorem State.does_recorded (n : Nat) (k : CarRecord) : Does n (s.passed (.carReport c x)) ((s.recorded c x).setCar c k)
    { (s.passed (.carReport c x)).idle n with qu := s.qu.setCar c k } := by
  rw [State.recorded, State.setCar_setCar]
  exact ((s.passed _).does_idle n).setCar c k

/-! ### The claim of a car (R136) -/

theorem PushUnit.claim_of_push {p : PushUnit} {r : PushRecord} (push : p.push = some r) :
    p.claim c = if r.car = c ∧ r.claimed then some ⟨r.oven, r.number, r.stage == .ram⟩ else none := by
  simp [PushUnit.claim, push]

theorem PushUnit.claim_of_stall {p : PushUnit} {r : StallRecord} (push : p.push = none) (stall : p.stall = some r) :
    p.claim c = if r.car = c ∧ r.claimed then some ⟨r.oven, r.number, r.stage == .ram⟩ else none := by
  simp [PushUnit.claim, push, stall]

/-- What holds of the claims of the push, and of the stall's with no push, holds of the claim of the car. -/
theorem PushUnit.claim_holds {p : PushUnit} {P : Claim → Prop}
    (pushed : ∀ r, p.push = some r → r.car = c → r.claimed = true → P ⟨r.oven, r.number, r.stage == .ram⟩)
    (stalled : p.push = none → ∀ r, p.stall = some r → r.car = c → r.claimed = true → P ⟨r.oven, r.number, r.stage == .ram⟩) :
    ∀ k, p.claim c = some k → P k := by
  intro k claim
  cases push : p.push with
  | some r =>
    rw [PushUnit.claim_of_push push, Option.ite_none_right_eq_some, Option.some.injEq] at claim
    obtain ⟨⟨car, claimed⟩, rfl⟩ := claim
    exact pushed r push car claimed
  | none =>
    cases stall : p.stall with
    | some r =>
      rw [PushUnit.claim_of_stall push stall, Option.ite_none_right_eq_some, Option.some.injEq] at claim
      obtain ⟨⟨car, claimed⟩, rfl⟩ := claim
      exact stalled push r stall car claimed
    | none => simp [PushUnit.claim, push, stall] at claim

/-! ### The first step of R139 that applies -/

theorem State.judgeCar_of_out (h : (s.car c).state = .outOfService ∨ (s.car c).state = .faulted) : s.judgeCar c = s := by
  refine if_pos ?_
  rcases h with h | h <;> simp [CarRecord.inService, CarRecord.faulted, h]

/-- A car that acts on its reports: in service and not FAULTED, with no fault code and not off its spot. -/
structure State.Acts (s : State) (c : Car) : Prop where
  inService : (s.car c).state ≠ .outOfService
  sound : (s.car c).state ≠ .faulted
  code : (s.car c).fault = 0
  onSpot : s.offSpot c = false

theorem State.Acts.judgeCar_of_arrival (h : s.Acts c) (arrives : (s.car c).arrives = true) :
    s.judgeCar c = s.arrive c (s.car c).position := by
  simp [State.judgeCar, CarRecord.inService, CarRecord.faulted, h.inService, h.sound, h.code, h.onSpot, arrives]

theorem State.Acts.judgeCar_of_status (h : s.Acts c) (away : (s.car c).arrives = false) : s.judgeCar c = s.judgeStatus c := by
  simp [State.judgeCar, CarRecord.inService, CarRecord.faulted, h.inService, h.sound, h.code, h.onSpot, away]

theorem State.onSpot_of_state (spot : (s.car c).state ≠ .spotted) (loaded : (s.car c).state ≠ .loaded) : s.offSpot c = false := by
  simp [State.offSpot, spot, loaded]

theorem State.onSpot_of_claim (h : ∀ k, s.pu.claim c = some k → (s.car c).position = .oven k.oven) : s.offSpot c = false := by
  cases claim : s.pu.claim c with
  | none => simp [State.offSpot, claim]
  | some k => simp [State.offSpot, claim, h k claim]

theorem State.recorded_acts (inService : (s.car c).state ≠ .outOfService) (sound : (s.car c).state ≠ .faulted)
    (code : x.fault = 0) (onSpot : (s.recorded c x).offSpot c = false) : (s.recorded c x).Acts c := by
  refine ⟨?_, ?_, ?_, onSpot⟩ <;> rw [State.recorded_car]
  · exact inService
  · exact sound
  · exact congrArg BitVec.toNat code

/-- A car neither SPOTTED nor LOADED has no spot to be off. -/
theorem State.recorded_acts_of_state {p : CarState} (state : (s.car c).state = p)
    (away : p ≠ .outOfService ∧ p ≠ .faulted ∧ p ≠ .spotted ∧ p ≠ .loaded) (code : x.fault = 0) : (s.recorded c x).Acts c := by
  obtain ⟨inService, sound, spotted, loaded⟩ := away
  subst state
  refine State.recorded_acts inService sound code (State.onSpot_of_state ?_ ?_) <;> rw [State.recorded_car]
  · exact spotted
  · exact loaded

theorem CarRecord.arrives_iff {k : CarRecord} {l : Location} (target : k.target = some l) :
    k.arrives = true ↔ k.position = l ∧ (Location.atOven l = true → k.status = .ready) := by
  cases at_ : Location.atOven l <;> simp [CarRecord.arrives, target, at_]

theorem Location.atOven_iff (l : Location) : Location.atOven l = true ↔ ∃ n, l = .oven n := by
  cases l <;> simp [Location.atOven]

theorem CarRecord.not_arrives_of_none {k : CarRecord} (target : k.target = none) : k.arrives = false := by
  simp [CarRecord.arrives, target]

/-! ### Arrivals (R144, R149, R152, R155) -/

theorem State.arrive_toSpot (state : (s.car c).state = .toSpot) (l : Location) : s.arrive c l =
    (s.setCar c { s.car c with state := .spotted, target := none, travelTimer := none }).judgeSpot := by
  simp [State.arrive, state]

theorem State.arrive_approachT (state : (s.car c).state = .toTower) (waits : c ∈ s.qu.waiters) : s.arrive c .approachT =
    s.setCar c { s.car c with state := .waitingTower, target := none, travelTimer := none } := by
  simp [State.arrive, State.arriveTower, state, waits]

theorem State.arrive_tower (state : (s.car c).state = .toTower) (holds : s.qu.holder = some c) : s.arrive c .tower =
    (s.setCar c { s.car c with target := none, travelTimer := none }).issueAll [⟨.tower, .spray true⟩] := by
  simp [State.arrive, State.arriveTower, state, holds, State.issue]

theorem State.arrive_bay (state : (s.car c).state = .toWharf) {b : Nat} (bay : (s.car c).reservedBay = some b) (l : Location) :
    s.arrive c l = (s.setCar c { s.car c with
      state := .dumping, target := none, travelTimer := none, dumpTimer := some s.qu.limits.dump }).issueAll
        [⟨.tower, .gate b true⟩] := by
  simp [State.arrive, State.beginDump, state, bay, State.issue]

theorem State.arrive_approachW (state : (s.car c).state = .waitingBay) (l : Location) :
    s.arrive c l = s.setCar c { s.car c with target := none, travelTimer := none } := by
  simp [State.arrive, state]

/-! ### Loading and the end of a dump (R146, R155) -/

theorem State.loadCar_of_ram (state : (s.car c).state = .spotted) {k : Claim} (claim : s.pu.claim c = some k)
    (ram : k.atRam = true) : s.loadCar c = s.setCar c { s.car c with
      state := .loaded, load := some ⟨k.number, k.oven, s.bk.seconds⟩, hotTimer := some s.qu.limits.hotCoke } := by
  simp [State.loadCar, state, claim, ram]

theorem State.loadCar_of_not (h : (s.car c).state = .spotted → ∀ k, s.pu.claim c = some k → k.atRam = false) :
    s.loadCar c = s := by
  unfold State.loadCar
  dsimp only
  split
  · next k state claim => simp [h state k claim]
  · rfl

theorem State.endDump_of_not (h : (s.car c).state = .dumping → (s.car c).reservedBay = none) : s.endDump c = s := by
  unfold State.endDump
  dsimp only
  split
  · next b state bay => simp [h state] at bay
  · rfl

/-- The end of a dump, with no slot pending (R155). -/
theorem Does.endDump {n : Nat} {t : State} {d : Deed} {b : Nat} {l : Load} (h : Does n s t d)
    (state : (d.qu.car c).state = .dumping) (bay : (d.qu.car c).reservedBay = some b) (load : (d.qu.car c).load = some l)
    (clear : d.su.slotFlag = false) :
    Does n s (t.endDump c) { d with
      qu := (d.qu.setCar c { d.qu.car c with state := .parked, dumpTimer := none, load := none, reservedBay := none }).setBay b
        ⟨.occupied, none, some d.qu.limits.bayHold⟩
      commands := d.commands ++ [⟨.tower, .gate b false⟩]
      notices := d.notices ++ [.loadDumped c b l.oven l.number] } := by
  have filled := ((h.withQu (d.qu.occupy b)).issueAll [⟨.tower, .gate b false⟩]).raise (.loadDumped c b l.oven l.number)
  have done := filled.setCar c { d.qu.car c with state := .parked, dumpTimer := none, load := none, reservedBay := none }
  have step : t.endDump c = State.evaluate ((((t.withQu (d.qu.occupy b)).issueAll [⟨.tower, .gate b false⟩]).raise
      (.loadDumped c b l.oven l.number)).setCar c
        { d.qu.car c with state := .parked, dumpTimer := none, load := none, reservedBay := none }) := by
    have car := h.car c
    have after := filled.car c
    simp only [Deed.raise, Deed.issue, QuenchUnit.occupy, QuenchUnit.setBay_car] at after
    unfold State.endDump
    simp only [car, state, bay, load, State.fillBay, h.qu]
    rw [← after]
    rfl
  rw [step, State.evaluate_of_clear (by rw [done.su]; exact clear)]
  rw [Deed.raise, Deed.issue, QuenchUnit.occupy] at done
  simp only [QuenchUnit.setBay_setCar] at done
  exact done

/-! ### A recorded report -/

theorem State.Acts.judge_recorded_arrival (h : (s.recorded c x).Acts c) {l : Location} (target : (s.car c).target = some l)
    (position : x.position = l) (ready : Location.atOven l = true → x.status = .ready) :
    (s.recorded c x).judgeCar c = (s.recorded c x).arrive c l := by
  have arrives : ((s.recorded c x).car c).arrives = true := by
    rw [State.recorded_car]
    exact (CarRecord.arrives_iff (by exact target)).mpr ⟨position, ready⟩
  rw [h.judgeCar_of_arrival arrives, State.recorded_car]
  exact congrArg _ position

theorem State.Acts.judge_recorded_status (h : (s.recorded c x).Acts c) (away : ((s.car c).record x).arrives = false) :
    (s.recorded c x).judgeCar c = (match x.status with
      | .loaded => (s.recorded c x).loadCar c
      | .empty => (s.recorded c x).endDump c
      | .ready => s.recorded c x
      | .dumping => s.recorded c x) := by
  rw [h.judgeCar_of_status (by rw [State.recorded_car]; exact away), State.judgeStatus, State.recorded_car]
  rfl

/-- A loaded report at RAM makes a SPOTTED claimed car LOADED (R146). -/
theorem State.judge_recorded_loaded {k : Claim} (code : x.fault = 0) (state : (s.car c).state = .spotted)
    (target : (s.car c).target = none) (claim : s.pu.claim c = some k) (ram : k.atRam = true) (position : x.position = .oven k.oven)
    (loaded : x.status = .loaded) :
    (s.recorded c x).judgeCar c = (s.recorded c x).setCar c { (s.car c).record x with
      state := .loaded, load := some ⟨k.number, k.oven, s.bk.seconds⟩, hotTimer := some s.qu.limits.hotCoke } := by
  have onSpot : (s.recorded c x).offSpot c = false := by
    refine State.onSpot_of_claim fun j claim' => ?_
    cases claim.symm.trans claim'
    rw [State.recorded_car]
    exact position
  have acts := State.recorded_acts (by simp [state]) (by simp [state]) code onSpot
  rw [acts.judge_recorded_status (CarRecord.not_arrives_of_none target), loaded]
  have step := State.loadCar_of_ram (s := s.recorded c x) (by rw [State.recorded_car]; exact state) claim ram
  rw [State.recorded_car] at step
  rw [State.recorded_qu, QuenchUnit.setCar_limits] at step
  exact step

/-- No push and no stall that claims the car finds it off its spot. -/
theorem State.recorded_onSpot (claims : (s.car c).state = .spotted ∨ (s.car c).state = .loaded →
    (∀ r, s.pu.push = some r → r.car = c → r.claimed = true → x.position = .oven r.oven) ∧
    (s.pu.push = none → ∀ r, s.pu.stall = some r → r.car = c → r.claimed = true → x.position = .oven r.oven)) :
    (s.recorded c x).offSpot c = false := by
  by_cases state : (s.car c).state = .spotted ∨ (s.car c).state = .loaded
  · obtain ⟨push, stall⟩ := claims state
    refine State.onSpot_of_claim (PushUnit.claim_holds (fun r at_ car claimed => ?_) fun none r at_ car claimed => ?_) <;>
      rw [State.recorded_car]
    · exact push r at_ car claimed
    · exact stall none r at_ car claimed
  · obtain ⟨spotted, loaded⟩ := not_or.mp state
    refine State.onSpot_of_state ?_ ?_ <;> rw [State.recorded_car]
    · exact spotted
    · exact loaded

theorem CarRecord.record_not_arrives {k : CarRecord}
    (away : ∀ l, k.target = some l → x.position ≠ l ∨ ((∃ n, l = .oven n) ∧ x.status ≠ .ready)) :
    (k.record x).arrives = false := by
  cases target : k.target with
  | none => exact CarRecord.not_arrives_of_none target
  | some l =>
    rw [Bool.eq_false_iff, Ne, CarRecord.arrives_iff (k := k.record x) (l := l) target, Location.atOven_iff]
    rintro ⟨position, ready⟩
    rcases away l target with h | ⟨oven, h⟩
    · exact h position
    · exact h (ready oven)

/-- A report that is no arrival, no loading and no end of a dump is recorded and nothing else. -/
theorem State.Acts.judge_recorded_idle (h : (s.recorded c x).Acts c) (away : ((s.car c).record x).arrives = false)
    (ram : (s.car c).state = .spotted → x.status = .loaded →
      (∀ r, s.pu.push = some r → r.car = c → r.claimed = true → r.stage ≠ .ram) ∧
      (s.pu.push = none → ∀ r, s.pu.stall = some r → r.car = c → r.claimed = true → r.stage ≠ .ram))
    (dump : (s.car c).state = .dumping → x.status = .empty → (s.car c).reservedBay = none) :
    (s.recorded c x).judgeCar c = s.recorded c x := by
  rw [h.judge_recorded_status away]
  cases status : x.status with
  | loaded =>
    refine State.loadCar_of_not fun state => ?_
    rw [State.recorded_car] at state
    obtain ⟨push, stall⟩ := ram state status
    exact PushUnit.claim_holds (fun r at_ car claimed => beq_false_of_ne (push r at_ car claimed))
      fun none r at_ car claimed => beq_false_of_ne (stall none r at_ car claimed)
  | empty =>
    refine State.endDump_of_not fun state => ?_
    rw [State.recorded_car] at state ⊢
    exact dump state status
  | ready => rfl
  | dumping => rfl

end

/-- Settles O49: the report is recorded, and the first step of R139 that applies says the deed. -/
theorem carReportsMoveTheCycle : Obligations.CarReportsMoveTheCycle := by
  intro s c x shape run wf k hk field notice wait
  replace hk : k = (s.car c).record x := hk
  subst hk
  rw [exec_carReport run wf]
  refine ⟨fun out => ?_, fun code => ⟨fun state target oven ready missing => ?spot, fun inService sound claims away ram dump => ?idle,
    fun r push law stage car claimed pusher guide latched state target position ready room => ?isolate,
    fun state waits target position => ?approachT, fun state holds target position => ?tower,
    fun b bay state target position => ?bay, fun state target position => ?approachW,
    fun r push state target car claimed ram position loaded => ?loadPush,
    fun push r stall state target car claimed ram position loaded => ?loadStall,
    fun b bay l load state target empty clear => ?dumped⟩⟩
  · rw [State.judgeCar_of_out (by rw [State.recorded_car]; exact out)]
    exact ⟨_, rfl, frameOf_withQu _ _ _, rfl⟩
  case spot =>
    have acts := State.recorded_acts_of_state state (by simp) code
    have spotted := State.arrive_toSpot (s := s.recorded c x) (c := c) (by rw [State.recorded_car]; exact state) x.position
    rw [acts.judge_recorded_arrival target rfl fun _ => ready, spotted, State.recorded_car, State.judgeSpot_of_not]
    · exact ⟨_, rfl, State.frameOf_recorded _, State.recorded_setCar_qu _⟩
    · intro r push stage
      rw [Bool.eq_false_iff, Ne, State.spotComplete_iff]
      rintro ⟨pusher, guide, latched, claimed, state', position⟩
      rcases missing r push with h | h | h | h | h | ⟨rfl, h⟩
      · exact h stage
      · exact h pusher
      · exact h guide
      · exact Bool.false_ne_true (h.symm.trans latched)
      · exact Bool.false_ne_true (h.symm.trans claimed)
      · rw [State.car_setCar_self] at position
        exact h position
  case approachT =>
    have acts := State.recorded_acts_of_state state (by simp) code
    have arrived := State.arrive_approachT (s := s.recorded c x) (c := c) (by rw [State.recorded_car]; exact state)
      (by simpa using waits)
    rw [acts.judge_recorded_arrival target position nofun, arrived, State.recorded_car]
    exact ⟨_, rfl, State.frameOf_recorded _, State.recorded_setCar_qu _⟩
  case approachW =>
    have acts := State.recorded_acts_of_state state (by simp) code
    have arrived := State.arrive_approachW (s := s.recorded c x) (c := c) (by rw [State.recorded_car]; exact state) .approachW
    rw [acts.judge_recorded_arrival target position nofun, arrived, State.recorded_car]
    exact ⟨_, rfl, State.frameOf_recorded _, State.recorded_setCar_qu _⟩
  case tower =>
    have acts := State.recorded_acts_of_state state (by simp) code
    have arrived := State.arrive_tower (s := s.recorded c x) (c := c) (by rw [State.recorded_car]; exact state)
      (by simpa using holds)
    have done := (State.does_recorded (s := s) (c := c) (x := x) 1 { (s.car c).record x with
      target := none, travelTimer := none }).issueAll [⟨.tower, .spray true⟩]
    rw [acts.judge_recorded_arrival target position nofun, arrived, State.recorded_car]
    exact ⟨_, rfl, done.frameOf (.inr rfl) (.inr rfl) (.inr rfl) (.inl (by simp)) (by simp) (.inr (done.sl_of_quiet field rfl)),
      done.qu, done.issued field⟩
  case bay =>
    have acts := State.recorded_acts_of_state state (by simp) code
    have arrived := State.arrive_bay (s := s.recorded c x) (c := c) (by rw [State.recorded_car]; exact state)
      (by rw [State.recorded_car]; exact bay) (.bay b)
    have limits : (s.recorded c x).qu.limits = s.qu.limits := by simp
    have done := (State.does_recorded (s := s) (c := c) (x := x) 1 { (s.car c).record x with
      state := .dumping, target := none, travelTimer := none, dumpTimer := some s.qu.limits.dump }).issueAll [⟨.tower, .gate b true⟩]
    rw [acts.judge_recorded_arrival target position nofun, arrived, State.recorded_car, limits]
    exact ⟨_, rfl, done.frameOf (.inr rfl) (.inr rfl) (.inr rfl) (.inl (by simp)) (by simp) (.inr (done.sl_of_quiet field rfl)),
      done.qu, done.issued field⟩
  case isolate =>
    subst car
    have acts := State.recorded_acts_of_state state (by simp) code
    have spotted := State.arrive_toSpot (s := s.recorded r.car x) (c := r.car) (by rw [State.recorded_car]; exact state) (.oven r.oven)
    have base := State.does_recorded (s := s) (c := r.car) (x := x) r.oven { (s.car r.car).record x with
      state := .spotted, target := none, travelTimer := none }
    have whole : ((s.recorded r.car x).setCar r.car { (s.car r.car).record x with
        state := .spotted, target := none, travelTimer := none }).spotComplete r = true := by
      rw [State.spotComplete_iff, State.car_setCar_self]
      exact ⟨pusher, guide, latched, claimed, rfl, position⟩
    rw [acts.judge_recorded_arrival target position fun _ => ready, spotted, State.recorded_car,
      State.judgeSpot_of_complete (by exact push) stage whole]
    obtain ⟨frame, qu, pu, others, oven, issued⟩ := base.isolates (l := [.ovens, .pu, .qu, .fl]) shape law push rfl rfl rfl rfl rfl room
      ⟨by simp, by simp, by simp, .inl (by simp)⟩
    exact ⟨_, rfl, frame, qu, pu, others, oven, issued⟩
  case idle =>
    have acts := State.recorded_acts inService sound code (State.recorded_onSpot claims)
    rw [acts.judge_recorded_idle (CarRecord.record_not_arrives away) ram dump]
    exact ⟨_, rfl, frameOf_withQu _ _ _, rfl⟩
  case loadPush =>
    have claim : s.pu.claim c = some ⟨r.oven, r.number, r.stage == .ram⟩ := by
      rw [PushUnit.claim_of_push push, if_pos ⟨car, claimed⟩]
    rw [State.judge_recorded_loaded code state target claim (by simp [ram]) position loaded]
    exact ⟨_, rfl, State.frameOf_recorded _, State.recorded_setCar_qu _⟩
  case loadStall =>
    have claim : s.pu.claim c = some ⟨r.oven, r.number, r.stage == .ram⟩ := by
      rw [PushUnit.claim_of_stall push stall, if_pos ⟨car, claimed⟩]
    rw [State.judge_recorded_loaded code state target claim (by simp [ram]) position loaded]
    exact ⟨_, rfl, State.frameOf_recorded _, State.recorded_setCar_qu _⟩
  case dumped =>
    have acts := State.recorded_acts_of_state state (by simp) code
    have done := (State.does_recorded (s := s) (c := c) (x := x) 1 ((s.car c).record x)).endDump (c := c) (b := b) (l := l)
      (by rw [QuenchUnit.car_setCar_self]; exact state) (by rw [QuenchUnit.car_setCar_self]; exact bay)
      (by rw [QuenchUnit.car_setCar_self]; exact load) clear
    have same : (s.recorded c x).setCar c ((s.car c).record x) = s.recorded c x := State.setCar_setCar _ _ _ _
    rw [same] at done
    rw [acts.judge_recorded_status (CarRecord.not_arrives_of_none target), empty]
    have qu := done.qu
    simp only [QuenchUnit.setCar_setCar, QuenchUnit.car_setCar_self, QuenchUnit.setCar_limits] at qu
    exact ⟨_, rfl, done.frameOf (.inr rfl) (.inr rfl) (.inr rfl) (.inl (by simp)) (by simp) (.inl (by simp)), qu, done.issued field,
      done.noticesOnly field notice wait⟩

end Sys2Proof.Machine

/-!
SUPPORT. The statement about car faults presumes the claim law without saying so: R68 ends the claim before DOORS_ON, and a record
that claims its car there still, which `ShapeLaw` and `PushLaw` admit, lets the fault end the push, and with a slot pending the next
push starts at once (R48, R75).
-/

namespace Sys2Proof.Machine

/-- A push of oven 5 at DOORS_ON whose record claims car 1 still. -/
def claimedAtDoorsOn : PushRecord :=
  { number := 7, oven := 5, origin := .manual, car := .one, claimed := true, stage := .doorsOn, entered := 900, timer := 90,
    latchSent := false, forwardSeen := true, peakForce := 900, emptyCar := false, doorFault := false, abortCause := none }

/-- The part with that push and a slot pending for oven 20, between READY ovens, with car 2 PARKED. -/
def State.lateClaim : State :=
  let filled : Oven := { Oven.reset with progress := Config.fullProgress }
  { State.reset with
    bk := ⟨1000, 500, .run⟩
    ovens := ((State.reset.ovens.set 4 { filled with phase := .pushing }).take 18) ++
      List.replicate 3 { filled with phase := .ready } ++ State.reset.ovens.drop 21
    su := { ScheduleUnit.reset with mode := .auto, slotFlag := true, outOfTurn := [20] }
    pu := { PushUnit.reset with counter := 7, push := some claimedAtDoorsOn }
    qu := { QuenchUnit.reset with
      car1 := { CarRecord.reset with state := .spotted, position := .oven 5 }
      car2 := { CarRecord.reset with state := .parked } } }

theorem State.lateClaim_shape : ShapeLaw .lateClaim := shapeLaw_of_check _ (by decide +kernel)

theorem State.lateClaim_push : PushLaw .lateClaim := pushLaw_of_check _ (by decide +kernel)

/-- The silence of car 1 there ends the push of oven 5 and starts that of oven 20. -/
theorem State.lateClaim_starts :
    ((carNodeSilence .one (State.lateClaim.passed (.carNodeSilence .one))).oven 20).phase = .pushing ∧
      (State.lateClaim.oven 20).phase = .ready := by decide +kernel

/-- Refutes O50: of a record that claims its car at DOORS_ON the fault does not keep the other ovens. -/
theorem not_carFaultsHaltTheCar : ¬ Obligations.CarFaultsHaltTheCar := by
  intro h
  obtain ⟨t, step, -, -, -, -, acts⟩ := h.1 .lateClaim .one (.carNodeSilence .one) .silent (State.lateClaim.car .one)
    State.lateClaim_shape State.lateClaim_push rfl nofun nofun (.inr (.inr (.inr ⟨rfl, rfl, rfl⟩)))
  have event : exec (.carNodeSilence .one) .lateClaim = .next _ := State.lateClaim.event_of_run _ _ rfl
  cases step.symm.trans event
  obtain ⟨-, others, -⟩ := (acts _ rfl).2 claimedAtDoorsOn rfl rfl rfl (by simp [claimedAtDoorsOn])
    (by decide +kernel) (by decide +kernel) (by decide +kernel) _ rfl
  have kept := congrArg Oven.phase (others 20 (by omega) (by omega) (by decide))
  obtain ⟨started, ready⟩ := State.lateClaim_starts
  exact absurd (started.symm.trans (kept.trans ready)) (by decide)

end Sys2Proof.Machine

/-!
SUPPORT. A push start as one record of writes with its commands and its notice (R59), and candidate evaluation step by step
(R48 to R51).
-/

namespace Sys2Proof.Machine

section
variable {s : State} {n : Nat} {o : Origin} {c : Car}

/-! ### A push start (R51, R59, R144) -/

/-- Oven n at its push start, before its valve is evaluated. -/
def State.pushedOven (s : State) (n : Nat) (o : Origin) (c : Car) : State :=
  (s.withPu { s.pu with counter := s.pu.counter + 1, push := some (s.newPush n o c) }).setOven n
    { s.oven n with phase := .pushing, late := false }

/-- What the evaluation makes of its valve. -/
def State.pushTurn (s : State) (n : Nat) (o : Origin) (c : Car) : Valve × List Outgoing :=
  turnTo n ((s.pushedOven n o c).valveMode n) ((s.pushedOven n o c).oven n).valve

/-- The state of a push start but for its commands and its notice. -/
def State.pushWritten (s : State) (n : Nat) (o : Origin) (c : Car) : State :=
  ((((s.pushedOven n o c).setOven n (((s.pushedOven n o c).oven n).setValve (s.pushTurn n o c).1)).trimSchedule n o).setCar c
    { s.car c with state := .toSpot, target := some (.oven n), travelTimer := s.moveTimer })

/-- The commands of a push start. -/
def State.startCommands (s : State) (n : Nat) (o : Origin) (c : Car) : List Outgoing :=
  (s.pushTurn n o c).2 ++ s.moveCommands c (.oven n) (s.car c).travelTimer ++ toBoth (.travel n)

theorem State.issueAll_append (s : State) (cs ds : List Outgoing) : (s.issueAll cs).issueAll ds = s.issueAll (cs ++ ds) := by
  simp only [State.issueAll, List.foldl_append]
  rfl

theorem State.raise_sl_congr {t : State} (b : NoticeBody) (sl : t.sl = s.sl) (bk : t.bk = s.bk) : (t.raise b).sl = (s.raise b).sl := by
  simp only [State.raise, State.withSl_sl, sl, bk]

theorem State.startPush_eq (s : State) (n : Nat) (o : Origin) (c : Car) : s.startPush n o c =
    ((s.pushWritten n o c).issueAll (s.startCommands n o c)).raise (.pushStarted (s.pu.counter + 1) n o c) := by
  rw [State.startCommands, ← State.issueAll_append, ← State.issueAll_append, State.startPush, State.claimCar, State.moveCar_eq]
  rfl

/-- A push at SPOT keeps the mode of a READY oven's valve (R111). -/
theorem State.pushedOven_valveMode (place : n - 1 < s.ovens.length) (ready : (s.oven n).phase = .ready) (push : s.pu.push = none) :
    (s.pushedOven n o c).valveMode n = s.valveMode n := by
  have oven : (s.pushedOven n o c).oven n = { s.oven n with phase := .pushing, late := false } :=
    State.oven_setOven_self _ n _ place
  have live : (s.pushedOven n o c).live (servingNode n) = s.live (servingNode n) := rfl
  have mode : (s.pushedOven n o c).bk = s.bk := rfl
  have pastBefore : s.pastSpot n = false := by simp [State.pastSpot, push]
  have pastAfter : (s.pushedOven n o c).pastSpot n = false := by
    simp [State.pastSpot, State.pushedOven, State.newPush]
  simp only [State.valveMode, State.valveModeBy, oven, live, mode, pastBefore, pastAfter, ready]
  simp

/-- With its valve in the mode its evaluation gives, the oven of a push start is written once and sends nothing (R112). -/
theorem State.pushTurn_of_mode (place : n - 1 < s.ovens.length) (ready : (s.oven n).phase = .ready) (push : s.pu.push = none)
    (mode : (s.oven n).valve.mode = s.valveMode n) : s.pushTurn n o c = ((s.oven n).valve, []) := by
  have oven : (s.pushedOven n o c).oven n = { s.oven n with phase := .pushing, late := false } :=
    State.oven_setOven_self _ n _ place
  rw [State.pushTurn, State.pushedOven_valveMode place ready push, oven, ← mode]
  exact turnTo_same n (s.oven n).valve

theorem State.pushWritten_ovens (place : n - 1 < s.ovens.length) (turn : s.pushTurn n o c = ((s.oven n).valve, [])) :
    (s.pushWritten n o c).ovens = s.ovens.set (n - 1) { s.oven n with phase := .pushing, late := false } := by
  have oven : (s.pushedOven n o c).oven n = { s.oven n with phase := .pushing, late := false } :=
    State.oven_setOven_self _ n _ place
  have written : (s.pushWritten n o c).ovens =
      (s.pushedOven n o c).ovens.set (n - 1) (((s.pushedOven n o c).oven n).setValve (s.pushTurn n o c).1) := rfl
  rw [written, turn, oven]
  simp [State.pushedOven, State.setOven, Oven.setValve]

theorem State.pushWritten_qu : (s.pushWritten n o c).qu =
    s.qu.setCar c { s.car c with state := .toSpot, target := some (.oven n), travelTimer := s.moveTimer } := rfl

theorem State.pushWritten_sl : (s.pushWritten n o c).sl = s.sl := rfl

theorem State.pushWritten_bk : (s.pushWritten n o c).bk = s.bk := rfl

theorem State.pushWritten_withSl (l : SupLink) : (s.withSl l).pushWritten n o c = (s.pushWritten n o c).withSl l := rfl

theorem State.startCommands_withSl (l : SupLink) : (s.withSl l).startCommands n o c = s.startCommands n o c := rfl

theorem State.keeps_pushWritten : Keeps [.ovens, .su, .pu, .qu] s (s.pushWritten n o c) := by
  intro b hb
  cases b with
  | ovens | su | pu | qu => simp at hb
  | _ => rfl

theorem State.keeps_startPush : Keeps [.ovens, .su, .pu, .qu, .fl, .sl] s (s.startPush n o c) := by
  rw [State.startPush_eq]
  refine ((State.keeps_pushWritten (n := n) (o := o) (c := c)).mono (by simp)).trans fun b hb => ?_
  cases b with
  | fl | sl => simp at hb
  | _ => rfl

/-! ### What may be pushed (R47 to R49) -/

theorem State.evaluate_of_idle (h : s.bk.mode = .config ∨ s.su.mode ≠ .auto ∨ s.su.slotFlag = false ∨ s.pu.push ≠ none ∨
    s.pu.stall ≠ none ∨ s.pins.estop = true) : s.evaluate = s := by
  have idle : ¬ s.mayEvaluate = true := by
    rw [State.mayEvaluate_iff]
    rintro ⟨run, auto, flag, push, stall, estop⟩
    simp [run, auto, flag, push, stall, estop] at h
  simp [State.evaluate, idle]

theorem State.braces_iff (m : Nat) : s.braces m = true ↔ (s.oven m).Holds ∨ s.excluded m = true := by
  simp [State.braces]

theorem State.braced_iff (low : 1 ≤ n) : s.braced n = true ↔
    ∀ m, (m + 1 = n ∨ m = n + 1) → 1 ≤ m ∧ m ≤ s.ovenCount → (s.oven m).Holds ∨ s.excluded m = true := by
  simp only [State.braced, State.failing, State.neighbours, List.isEmpty_iff, List.filter_eq_nil_iff, List.mem_filter,
    List.mem_cons, List.not_mem_nil, or_false, Bool.not_eq_true', Bool.not_eq_false, State.braces_iff, and_imp]
  have near (m : Nat) : m = n - 1 ∨ m = n + 1 ↔ m + 1 = n ∨ m = n + 1 := by omega
  have range (m : Nat) : s.inRange m = true ↔ 1 ≤ m ∧ m ≤ s.ovenCount := by simp [State.inRange]
  simp only [near, range, and_imp]

theorem State.pushable_iff_braced (n : Nat) : s.pushable n = true ↔ (1 ≤ n ∧ n ≤ s.ovenCount) ∧ (s.oven n).phase = .ready ∧
    ∀ m, (m + 1 = n ∨ m = n + 1) → 1 ≤ m ∧ m ≤ s.ovenCount → (s.oven m).Holds ∨ s.excluded m = true := by
  by_cases low : 1 ≤ n
  · simp [State.pushable, State.inRange, State.braced_iff low, and_assoc]
  · simp [State.pushable, State.inRange, low]

/-! ### Candidate evaluation, step by step (R48 to R51) -/

theorem State.evaluate_of_head (may : s.mayEvaluate = true) (head : s.su.outOfTurn.head? = some n) (pushable : s.pushable n = true) :
    s.evaluate = s.tryPush n .outOfTurn := by
  have candidate : s.headCandidate = some n := by simp [State.headCandidate, head, pushable]
  simp [State.evaluate, may, candidate]

theorem State.headCandidate_none (head : ∀ n, s.su.outOfTurn.head? = some n → s.pushable n = false) : s.headCandidate = none := by
  rw [State.headCandidate, Option.filter_eq_none_iff]
  exact fun n first => by simp [head n first]

theorem State.evaluate_of_deferred (may : s.mayEvaluate = true) (head : s.headCandidate = none)
    (deferred : s.su.deferred.find? s.pushable = some n) : s.evaluate = s.tryPush n .deferred := by
  simp [State.evaluate, may, head, State.deferredCandidate, deferred]

theorem State.evaluate_of_series (may : s.mayEvaluate = true) (head : s.headCandidate = none)
    (deferred : s.su.deferred.find? s.pushable = none) : s.evaluate = s.trySeries := by
  simp [State.evaluate, may, head, State.deferredCandidate, deferred]

/-- With j excluded ovens ahead of it the cursor passes over them all (R50). -/
theorem State.skipExcluded_of_leading (s : State) : ∀ (j fuel p : Nat),
    (∀ i < j, s.excluded (s.ovenAt ((s.nextPosition)^[i] p)) = true) →
    s.skipExcluded (j + fuel) p = s.skipExcluded fuel ((s.nextPosition)^[j] p) := by
  intro j
  induction j with
  | zero => intro fuel p _; simp
  | succ j ih =>
    intro fuel p skipped
    have first : s.excluded (s.ovenAt p) = true := skipped 0 (by omega)
    rw [show j + 1 + fuel = (j + fuel) + 1 by omega, State.skipExcluded, if_pos first, Function.iterate_succ_apply]
    exact ih fuel _ fun i below => skipped (i + 1) (by omega)

/-- At an oven not excluded it stays. -/
theorem State.skipExcluded_of_included {fuel p : Nat} (included : s.excluded (s.ovenAt p) = false) : s.skipExcluded fuel p = p := by
  cases fuel with
  | zero => rfl
  | succ fuel => simp [State.skipExcluded, included]

/-- The cursor runs round the series (R30). -/
theorem State.nextPosition_iterate {p : Nat} (within : p < s.ovenCount) (i : Nat) :
    (s.nextPosition)^[i] p = (p + i) % s.ovenCount := by
  induction i with
  | zero => simp [Nat.mod_eq_of_lt within]
  | succ i ih =>
    have bound := Nat.mod_lt (p + i) (Nat.zero_lt_of_lt within)
    rw [Function.iterate_succ_apply', ih, State.nextPosition, ← Nat.add_assoc, ← Nat.mod_add_mod (p + i) s.ovenCount 1]
    split_ifs with last
    · exact (Nat.mod_eq_of_lt last).symm
    · rw [show (p + i) % s.ovenCount + 1 = s.ovenCount by omega, Nat.mod_self]

/-- The series' step at the oven n of position p, the first not excluded from the cursor on (R50). -/
theorem State.trySeries_of_included {j p : Nat} (below : j < s.ovenCount)
    (skipped : ∀ i < j, s.excluded (s.ovenAt ((s.nextPosition)^[i] s.su.cursor)) = true)
    (position : p = (s.nextPosition)^[j] s.su.cursor) (included : s.excluded (s.ovenAt p) = false) :
    s.trySeries = (s.withSu { s.su with cursor := p }).judgeCursor (s.ovenAt p) := by
  have landed : s.skipExcluded s.ovenCount s.su.cursor = p := by
    have skip := s.skipExcluded_of_leading j (s.ovenCount - j) s.su.cursor skipped
    rw [show j + (s.ovenCount - j) = s.ovenCount by omega, ← position] at skip
    rw [skip, State.skipExcluded_of_included included]
  rw [State.trySeries, landed]
  rfl

/-- With every oven of the series excluded the cursor comes round to where it stood, and nothing changes (R50). -/
theorem State.trySeries_of_all (within : s.su.cursor < s.ovenCount)
    (all : ∀ i < s.ovenCount, s.excluded (s.ovenAt ((s.nextPosition)^[i] s.su.cursor)) = true) : s.trySeries = s := by
  have landed : s.skipExcluded s.ovenCount s.su.cursor = s.su.cursor := by
    have skip := s.skipExcluded_of_leading s.ovenCount 0 s.su.cursor all
    rw [Nat.add_zero] at skip
    rw [skip, State.skipExcluded, State.nextPosition_iterate within, Nat.add_mod_right, Nat.mod_eq_of_lt within]
  have here : s.excluded (s.ovenAt s.su.cursor) = true := all 0 (by omega)
  have stays : s.judgeCursor (s.ovenAt s.su.cursor) = s := by simp [State.judgeCursor, here]
  rw [State.trySeries, landed]
  exact stays

theorem State.judgeCursor_of_pushable (range : s.inRange n = true) (included : s.excluded n = false) (pushable : s.pushable n = true) :
    s.judgeCursor n = s.tryPush n .series := by
  simp [State.judgeCursor, range, included, pushable]

theorem State.judgeCursor_of_empty (range : s.inRange n = true) (included : s.excluded n = false)
    (phase : (s.oven n).phase = .empty ∨ (s.oven n).phase = .charging) :
    s.judgeCursor n = s.withSu { s.su with cursor := s.nextPosition s.su.cursor } := by
  rcases phase with phase | phase <;> simp [State.judgeCursor, range, included, State.pushable, phase]

theorem State.judgeCursor_of_holds (range : s.inRange n = true) (included : s.excluded n = false) (holds : (s.oven n).Holds)
    (notYet : s.pushable n = false) : s.judgeCursor n = s.passOver n := by
  rcases holds with phase | phase | phase <;> simp [State.judgeCursor, range, included, notYet, phase]

/-! ### The parts of the statement about slot carries -/

theorem exec_slotCarry (run : s.pins.inReset = false) : exec .slotCarry s = .next (slotCarry (s.passed .slotCarry)) :=
  s.event_of_run _ _ run

theorem slotCarry_of_idle (h : s.bk.mode = .config ∨ s.su.mode ≠ .auto ∨ s.su.carriesDue = 0) : slotCarry s = s := by
  refine if_neg fun owed => ?_
  simp only [State.running, Bool.and_eq_true, beq_iff_eq, decide_eq_true_eq] at owed
  obtain ⟨⟨run, auto⟩, due⟩ := owed
  rcases h with h | h | h
  · simp [run] at h
  · exact h auto
  · omega

theorem slotCarry_of_owed (run : s.bk.mode = .run) (auto : s.su.mode = .auto) (due : 0 < s.su.carriesDue) :
    slotCarry s = if s.su.slotFlag then (s.withSu { s.su with carriesDue := s.su.carriesDue - 1 }).raise .slotOverrun
      else State.evaluate (s.withSu { s.su with carriesDue := s.su.carriesDue - 1, slotFlag := true }) := by
  simp [slotCarry, State.running, run, auto, due]

/-- A slot carry sets the flag and evaluates, overruns, or passes (R32, R52). -/
theorem slotCarry_acts (s : State) (reset : s.pins.inReset = false) :
    (s.bk.mode = .run → s.su.mode = .auto → 0 < s.su.carriesDue →
      (s.su.slotFlag = true → s.NoticeRoom 1 → s.NoticesWait →
        ∃ t, exec .slotCarry s = .next t ∧ FrameOf .slotCarry [.su, .sl] s t ∧
          t.su = { s.su with carriesDue := s.su.carriesDue - 1 } ∧ NoticesOnly s t [.slotOverrun]) ∧
      (s.su.slotFlag = false →
        ∃ t, exec .slotCarry s = .next t ∧ ∀ u : State,
          u = (s.passed .slotCarry).withSu { s.su with carriesDue := s.su.carriesDue - 1, slotFlag := true } → t = u.evaluate)) ∧
    (s.bk.mode = .config ∨ s.su.mode ≠ .auto ∨ s.su.carriesDue = 0 →
      exec .slotCarry s = .next (s.passed .slotCarry)) := by
  rw [exec_slotCarry reset]
  refine ⟨fun run auto due => ?_, fun idle => congrArg _ (slotCarry_of_idle (by exact idle))⟩
  rw [slotCarry_of_owed (s := s.passed .slotCarry) run auto due]
  refine ⟨fun flag room wait => ?_, fun flag => ?_⟩
  · rw [if_pos (by exact flag)]
    refine ⟨_, rfl, ⟨fun b hb => ?_, rfl⟩, rfl, State.raise_noticesOnly ((s.passed .slotCarry).withSu _) .slotOverrun room wait⟩
    cases b with
    | su | sl | due => simp at hb
    | _ => rfl
  · rw [if_neg (by simpa [State.passed] using flag)]
    exact ⟨_, rfl, fun u hu => congrArg State.evaluate hu.symm⟩

/-- The series' step in the terms of the statement (R50). -/
theorem State.trySeries_acts {j p : Nat} (below : j < s.ovenCount)
    (skipped : ∀ i < j, s.excluded (s.ovenAt ((s.nextPosition)^[i] s.su.cursor)) = true)
    (position : p = (s.nextPosition)^[j] s.su.cursor) (oven : n = s.ovenAt p) (range : s.inRange n = true)
    (included : s.excluded n = false) {u : State} (hu : u = s.withSu { s.su with cursor := p }) :
    (s.pushable n = true → s.trySeries = (match s.offerCar n with | some c => u.startPush n .series c | none => u)) ∧
    ((s.oven n).phase = .empty ∨ (s.oven n).phase = .charging →
      s.trySeries = s.withSu { s.su with cursor := s.nextPosition p }) ∧
    ((s.oven n).Holds → s.pushable n = false →
      (n ∈ s.su.outOfTurn ∨ n ∈ s.su.deferred → s.trySeries = s.withSu { s.su with cursor := s.nextPosition p }) ∧
      (n ∉ s.su.outOfTurn → n ∉ s.su.deferred → s.su.deferred.length < 8 →
        s.trySeries = s.withSu { s.su with cursor := s.nextPosition p, deferred := s.su.deferred ++ [n] }) ∧
      (n ∉ s.su.outOfTurn → n ∉ s.su.deferred → 8 ≤ s.su.deferred.length → s.trySeries = u)) := by
  subst hu
  rw [State.trySeries_of_included below skipped position (oven ▸ included), ← oven]
  refine ⟨fun pushable => ?_, fun phase => ?_, fun holds notYet => ?_⟩
  · exact State.judgeCursor_of_pushable (by exact range) (by exact included) (by exact pushable)
  · exact State.judgeCursor_of_empty (by exact range) (by exact included) (by exact phase)
  · rw [State.judgeCursor_of_holds (by exact range) (by exact included) (by exact holds) (by exact notYet)]
    refine ⟨fun listed => if_pos listed, fun turn later room => ?_, fun turn later full => ?_⟩
    · exact (if_neg (not_or.mpr ⟨turn, later⟩)).trans (if_pos room)
    · exact (if_neg (not_or.mpr ⟨turn, later⟩)).trans (if_neg (Nat.not_lt.mpr full))

/-- Candidate evaluation by queue, deferred list and series (R48 to R51). -/
theorem State.evaluate_acts (s : State) (run : s.bk.mode = .run) (auto : s.su.mode = .auto) (flag : s.su.slotFlag = true)
    (push : s.pu.push = none) (stall : s.pu.stall = none) (estop : s.pins.estop = false) :
    (∀ n, s.su.outOfTurn.head? = some n → s.pushable n = true →
      s.evaluate = (match s.offerCar n with | some c => s.startPush n .outOfTurn c | none => s)) ∧
    ((∀ n, s.su.outOfTurn.head? = some n → s.pushable n = false) →
      (∀ n, s.su.deferred.find? s.pushable = some n →
        s.evaluate = (match s.offerCar n with | some c => s.startPush n .deferred c | none => s)) ∧
      (s.su.deferred.find? s.pushable = none → s.evaluate = s.trySeries)) := by
  have may : s.mayEvaluate = true := s.mayEvaluate_iff.mpr ⟨run, auto, flag, push, stall, estop⟩
  refine ⟨fun n head pushable => State.evaluate_of_head may head pushable, fun head => ?_⟩
  have none := State.headCandidate_none head
  exact ⟨fun n deferred => State.evaluate_of_deferred may none deferred, fun deferred => State.evaluate_of_series may none deferred⟩

/-- A push start in the terms of the statement (R51, R55, R59, R144). -/
theorem State.startPush_acts {t : State} (place : n - 1 < s.ovens.length) (ready : (s.oven n).phase = .ready)
    (push : s.pu.push = none) (estop : s.pins.estop = false) (mode : (s.oven n).valve.mode = s.valveMode n)
    (field : s.FieldRoom 3) (notice : s.NoticeRoom 1) (ht : t = s.startPush n o c) :
    Keeps [.ovens, .su, .pu, .qu, .fl, .sl] s t ∧
      t.pu = { s.pu with counter := s.pu.counter + 1, push := some (s.newPush n o c) } ∧
      t.ovens = s.ovens.set (n - 1) { s.oven n with phase := .pushing, late := false } ∧
      t.su = (s.trimSchedule n o).su ∧
      t.qu = s.qu.setCar c { s.car c with
        state := .toSpot, target := some (.oven n), travelTimer := some s.qu.limits.travel } ∧
      Issued s t [⟨.car c, .move (.oven n)⟩, ⟨.pusher, .travel n⟩, ⟨.guide, .travel n⟩] ∧
      (s.NoticesWait → NoticesOnly s t [.pushStarted (s.pu.counter + 1) n o c]) := by
  subst ht
  have turn := State.pushTurn_of_mode (o := o) (c := c) place ready push mode
  have ovens := State.pushWritten_ovens place turn
  have commands : s.startCommands n o c = [⟨.car c, .move (.oven n)⟩, ⟨.pusher, .travel n⟩, ⟨.guide, .travel n⟩] := by
    simp [State.startCommands, turn, State.moveCommands, estop, toBoth]
  have timer : s.moveTimer = some s.qu.limits.travel := by simp [State.moveTimer, estop]
  have qu := State.pushWritten_qu (s := s) (n := n) (o := o) (c := c)
  rw [timer] at qu
  refine ⟨State.keeps_startPush, ?_⟩
  rw [State.startPush_eq, commands]
  obtain ⟨issued, sl⟩ := (s.pushWritten n o c).issueAll_of_room
    [⟨.car c, .move (.oven n)⟩, ⟨.pusher, .travel n⟩, ⟨.guide, .travel n⟩] field
  refine ⟨rfl, ovens, rfl, qu, issued, fun wait => ?_⟩
  have raised := s.raise_noticesOnly (.pushStarted (s.pu.counter + 1) n o c) notice wait
  have same := State.raise_sl_congr (.pushStarted (s.pu.counter + 1) n o c) (sl.trans State.pushWritten_sl)
    ((State.issueAll_bk _ _).trans State.pushWritten_bk)
  rw [NoticesOnly, same]
  exact raised

end

end Sys2Proof.Machine

/-!
SUPPORT. The events that end a push or park a car, with a slot pending: the event acts as it does with none, and then evaluates
(R48; log 13).
-/

namespace Sys2Proof.Machine

/-! ### The slot flag apart from an event -/

/-- The state with the slot flag as given. -/
def State.slot (s : State) (b : Bool) : State := s.withSu { s.su with slotFlag := b }

/-- The event evaluates last, in v as the event leaves it, whatever the slot flag. -/
def Closes (f : State → State) (s v : State) : Prop := ∀ b, f (s.slot b) = (v.slot b).evaluate

/-- From s to t no push ends but into a stall, and no car is parked. -/
structure Quiet (s t : State) : Prop where
  busy : s.pu.push ≠ none ∨ s.pu.stall ≠ none → t.pu.push ≠ none ∨ t.pu.stall ≠ none
  parked : ∀ k, (t.car k).state = .parked → (s.car k).state = .parked

/-- A push ended, or a dump. -/
def Ended (s t : State) : Prop :=
  (s.pu.push ≠ none ∧ t.pu.push = none ∧ t.pu.stall = none) ∨ ∃ k, (s.car k).state = .dumping ∧ (t.car k).state = .parked

/-- The event ends nothing, or evaluates last. -/
def Settles (f : State → State) (s : State) : Prop := (∃ v, Closes f s v) ∨ Quiet s (f (s.slot false))

section
variable {s t u : State} {f g : State → State} {r : PushRecord} {c : Car}

theorem Quiet.of_same (pu : t.pu = s.pu) (qu : t.qu = s.qu) : Quiet s t :=
  ⟨fun h => by rwa [pu], fun k h => by rwa [State.car, qu] at h⟩

theorem Quiet.of_busy (busy : t.pu.push ≠ none ∨ t.pu.stall ≠ none) (qu : t.qu = s.qu) : Quiet s t :=
  ⟨fun _ => busy, fun k h => by rwa [State.car, qu] at h⟩

theorem Quiet.trans (h : Quiet s t) (k : Quiet t u) : Quiet s u :=
  ⟨fun b => k.busy (h.busy b), fun c p => h.parked c (k.parked c p)⟩

theorem Quiet.not_ended (h : Quiet s t) : ¬ Ended s t := by
  rintro (⟨push, gone, clear⟩ | ⟨k, dumping, parked⟩)
  · rcases h.busy (.inl push) with h | h
    · exact h gone
    · exact h clear
  · have same := h.parked k parked
    simp [dumping] at same

/-- A record not PARKED written for one car. -/
theorem Quiet.of_car {k : CarRecord} (pu : t.pu = s.pu) (qu : t.qu = s.qu.setCar c k)
    (h : k.state = .parked → (s.car c).state = .parked) : Quiet s t := by
  refine ⟨fun busy => by rwa [pu], fun j parked => ?_⟩
  rw [State.car, qu] at parked
  by_cases same : j = c
  · subst same
    rw [QuenchUnit.car_setCar_self] at parked
    exact h parked
  · rwa [QuenchUnit.car_setCar_ne _ _ _ _ same] at parked

/-- An event that ended something did as it does with no slot pending, and then evaluated. -/
theorem Settles.evaluates (h : Settles f s) (ended : Ended s (f (s.slot false))) :
    f s = State.evaluate ((f (s.slot false)).slot s.su.slotFlag) := by
  rcases h with ⟨v, closes⟩ | quiet
  · have before : f (s.slot false) = v.slot false := (closes false).trans (State.evaluate_of_clear rfl)
    rw [before]
    exact closes s.su.slotFlag
  · exact absurd ended quiet.not_ended

theorem Settles.quiet (same : f (s.slot false) = t) (quiet : Quiet s t) : Settles f s := .inr (by rwa [same])

theorem Settles.closes {v : State} (closes : Closes f s v) : Settles f s := .inl ⟨v, closes⟩

/-- An event that ends nothing itself and then acts as g on u. -/
theorem Settles.of_then (acts : ∀ b, f (s.slot b) = g (u.slot b)) (before : Quiet s u) (h : Settles g u) : Settles f s := by
  rcases h with ⟨v, closes⟩ | quiet
  · exact .closes fun b => (acts b).trans (closes b)
  · exact .quiet (acts false) (before.trans quiet)

/-! ### A push's end and its aborts -/

theorem State.completePush_closes : Closes (State.completePush · r false) s (s.completePush r true) := fun _ => rfl

theorem State.releaseClaimed_slot (b : Bool) : (s.slot b).releaseClaimed r = (s.releaseClaimed r).slot b := by
  unfold State.releaseClaimed
  split_ifs <;> rfl

theorem State.returnReady_closes (x : Stage) (y : AbortCause) :
    Closes (State.returnReady · r x y false) s (s.returnReady r x y true) := fun _ => rfl

theorem State.undoPush_closes {y : AbortCause} (heard : y.bySilence = false) : Closes (State.undoPush · r y) s
    (((s.issueAll (toBoth .halt ++ [toOven r.oven (.cap r.oven false)])).releaseClaimed r).returnReady r r.stage y true) := by
  intro b
  have step : (s.slot b).undoPush r y = (((s.slot b).issueAll
      (toBoth .halt ++ [toOven r.oven (.cap r.oven false)])).releaseClaimed r).returnReady r r.stage y false := by
    rw [State.undoPush, heard]
  have released := State.releaseClaimed_slot (s := s.issueAll (toBoth .halt ++ [toOven r.oven (.cap r.oven false)])) (r := r) b
  exact step.trans ((congrArg (State.returnReady · r r.stage y false) released).trans (State.returnReady_closes _ _ b))

theorem State.completeRetreat_closes : Closes (State.completeRetreat · r) s
    (((s.issueAll [toOven r.oven (.cap r.oven false)]).releaseClaimed r).returnReady r .doorsOff
      (r.abortCause.getD .timeout) true) := by
  intro b
  have released := State.releaseClaimed_slot (s := s.issueAll [toOven r.oven (.cap r.oven false)]) (r := r) b
  exact (congrArg (State.returnReady · r .doorsOff (r.abortCause.getD .timeout) false) released).trans (State.returnReady_closes _ _ b)

theorem State.makeStall_quiet (qu : t.qu = s.qu) (y : AbortCause) (first : Option AbortCause) : Quiet s (t.makeStall r y first) :=
  .of_busy (.inr (by simp [State.makeStall])) (by simp [State.makeStall, qu])

theorem State.enterRetreat_quiet (qu : t.qu = s.qu) (y : AbortCause) : Quiet s (t.enterRetreat r y) := .of_busy (.inl nofun) qu

/-- An abort but for a machine's silence. -/
theorem State.abortPush_settles {y : AbortCause} (heard : y.bySilence = false) : Settles (State.abortPush · y) s := by
  cases push : s.pu.push with
  | none => exact .quiet (State.abortPush_of_none (by exact push)) (.of_same rfl rfl)
  | some r =>
    have stalls (stage : r.stage = .ram ∨ (r.stage = .retreat ∧ y ≠ .car) ∨ (r.stage = .doorsOff ∧ y = .estop)) :
        Settles (State.abortPush · y) s := by
      have late := State.abortPush_of_late (s := s.slot false) (y := y) push stage
      exact .quiet late (State.makeStall_quiet (by rfl) _ _)
    have undone (stage : r.stage = .spot ∨ r.stage = .isolate) : Settles (State.abortPush · y) s :=
      .closes fun b => (State.abortPush_of_early (by exact push) stage).trans (State.undoPush_closes heard b)
    cases stage : r.stage with
    | spot => exact undone (.inl stage)
    | isolate => exact undone (.inr stage)
    | doorsOff =>
      by_cases estop : y = .estop
      · exact stalls (.inr (.inr ⟨stage, estop⟩))
      · exact .quiet (State.abortPush_of_doorsOff (by exact push) stage estop) (State.enterRetreat_quiet (by rfl) _)
    | ram => exact stalls (.inl stage)
    | doorsOn =>
      refine .closes (v := (s.issueAll (toBoth .halt)).completePush { r with doorFault := true } true) fun b => ?_
      refine (State.abortPush_of_doorsOn (by exact push) stage).trans ?_
      rw [heard]
      exact State.completePush_closes (s := s.issueAll (toBoth .halt)) b
    | retreat =>
      by_cases car : y = .car
      · subst car
        exact .quiet (State.abortPush_of_detached (by exact push) stage) (.of_busy (.inl nofun) rfl)
      · exact stalls (.inr (.inl ⟨stage, car⟩))

/-! ### The events of PU (R48) -/

theorem stageTimerExpiry_settles : Settles stageTimerExpiry s := by
  cases push : s.pu.push with
  | none => exact .quiet (t := s.slot false) (by simp [stageTimerExpiry, State.slot, push]) (.of_same rfl rfl)
  | some r =>
    by_cases out : r.timer = 0
    · exact .of_then (u := s) (fun b => by simp [stageTimerExpiry, State.slot, push, out]) (.of_same rfl rfl)
        (State.abortPush_settles (y := .timeout) rfl)
    · exact .quiet (t := s.slot false) (by simp [stageTimerExpiry, State.slot, push, out]) (.of_same rfl rfl)

theorem estopAtPu_settles : Settles estopAtPu s := State.abortPush_settles (y := .estop) rfl

theorem State.completeDoorsOff_quiet (qu : t.qu = s.qu) : Quiet s (t.completeDoorsOff r) := by
  unfold State.completeDoorsOff
  split_ifs
  · exact .of_busy (.inl nofun) qu
  · exact State.enterRetreat_quiet qu _

theorem State.confirm_settles (push : s.pu.push = some r) (e : OvenEntry) : Settles (State.confirm · r e) s := by
  have busy : s.pu.push ≠ none := by simp [push]
  cases stage : r.stage with
  | spot => exact .quiet (State.confirm_of_idle (.inl stage)) (.of_same rfl rfl)
  | ram => exact .quiet (State.confirm_of_idle (.inr (.inl stage))) (.of_same rfl rfl)
  | isolate =>
    refine .quiet rfl ?_
    simp only [State.confirm, stage]
    split_ifs
    · exact .of_busy (.inl nofun) rfl
    · exact .of_same rfl rfl
  | doorsOff =>
    refine .quiet rfl ?_
    simp only [State.confirm, stage]
    split_ifs
    · exact State.completeDoorsOff_quiet rfl
    · exact .of_same rfl rfl
  | doorsOn =>
    by_cases on : e.presentP = true ∧ e.presentC = true
    · exact .closes fun b => (State.confirm_of_on stage on.1 on.2).trans (State.completePush_closes b)
    · exact .quiet (t := s.slot false) (by simp [State.confirm, stage, on]) (.of_same rfl rfl)
  | retreat =>
    by_cases on : e.presentP = true ∧ e.presentC = true
    · exact .closes fun b => (State.confirm_of_back stage on.1 on.2).trans (State.completeRetreat_closes b)
    · exact .quiet (t := s.slot false) (by simp [State.confirm, stage, on]) (.of_same rfl rfl)

theorem stageConfirmation_settles (m : Fin 12) (es : List OvenEntry) : Settles (stageConfirmation m es) s := by
  cases push : s.pu.push with
  | none => exact .quiet (t := s.slot false) (by simp [stageConfirmation, State.slot, push]) (.of_same rfl rfl)
  | some r =>
    cases entry : entryFor m es r.oven with
    | none => exact .quiet (t := s.slot false) (by simp [stageConfirmation, State.slot, push, entry]) (.of_same rfl rfl)
    | some e =>
      refine .of_then (g := (State.confirm · r e)) (u := s.withPu { s.pu with taken := some ⟨r.oven, es, r.stage⟩ })
        (fun b => ?_) ⟨id, fun _ => id⟩ (State.confirm_settles (by exact push) e)
      simp only [stageConfirmation, State.slot, State.withSu_pu, push, entry]
      rfl

/-! ### The events of QU (R48, R139, R157, R159) -/

theorem State.enterFaulted_quiet (c : Car) (y : FaultCause) : Quiet s (s.enterFaulted c y) := by
  refine ⟨id, fun k parked => ?_⟩
  have qu : (s.enterFaulted c y).qu = (s.qu.setCar c { s.car c with
    state := .faulted, lastFault := some y, target := none, travelTimer := none, quenchTimer := none
    drainTimer := none, dumpTimer := none }).unlist c := rfl
  have car : (s.enterFaulted c y).car k = (s.qu.setCar c { s.car c with
    state := .faulted, lastFault := some y, target := none, travelTimer := none, quenchTimer := none
    drainTimer := none, dumpTimer := none }).car k := by
    rw [State.car, qu]
    cases k <;> rfl
  rw [car] at parked
  by_cases same : k = c
  · subst same
    simp at parked
  · rwa [QuenchUnit.car_setCar_ne _ _ _ _ same] at parked

theorem State.faultCar_settles (c : Car) (y : FaultCause) : Settles (State.faultCar · c y) s := by
  have entered := State.enterFaulted_quiet (s := s) c y
  by_cases claims : s.pushClaims c = true
  · exact .of_then (g := (State.abortPush · .car)) (u := s.enterFaulted c y) (fun b => by
      unfold State.faultCar
      exact if_pos claims) entered (State.abortPush_settles rfl)
  · exact .quiet (t := (s.enterFaulted c y).slot false) (by
      unfold State.faultCar
      exact if_neg claims) (entered.trans (.of_same rfl rfl))

theorem dumpTimerExpiry_settles (c : Car) : Settles (dumpTimerExpiry c) s := by
  by_cases out : (s.running && ranOut (s.car c).dumpTimer) = true
  · by_cases state : (s.car c).state = .dumping
    · exact .of_then (g := (State.faultCar · c .dump)) (u := s) (fun b => (if_pos (by exact out)).trans (if_pos (by exact state)))
        (.of_same rfl rfl) (State.faultCar_settles c .dump)
    · exact .quiet (t := (s.slot false).setCar c { s.car c with dumpTimer := none })
        ((if_pos (by exact out)).trans (if_neg (by exact state))) (.of_car (c := c) rfl rfl id)
  · exact .quiet (t := s.slot false) (if_neg (by exact out)) (.of_same rfl rfl)

theorem travelTimerExpiry_settles (c : Car) : Settles (travelTimerExpiry c) s := by
  by_cases out : (s.running && ranOut (s.car c).travelTimer) = true
  · by_cases faults : ((s.car c).target.isSome && (s.car c).inService && !(s.car c).faulted) = true
    · exact .of_then (g := (State.faultCar · c .travel)) (u := s) (fun b => (if_pos (by exact out)).trans (if_pos (by exact faults)))
        (.of_same rfl rfl) (State.faultCar_settles c .travel)
    · exact .quiet (t := (s.slot false).setCar c { s.car c with travelTimer := none })
        ((if_pos (by exact out)).trans (if_neg (by exact faults))) (.of_car (c := c) rfl rfl id)
  · exact .quiet (t := s.slot false) (if_neg (by exact out)) (.of_same rfl rfl)

theorem carNodeSilence_settles (c : Car) : Settles (carNodeSilence c) s := by
  by_cases faults : ((s.car c).inService && !(s.car c).faulted) = true
  · exact .of_then (g := (State.faultCar · c .silent)) (u := s) (fun b => if_pos (by exact faults)) (.of_same rfl rfl)
      (State.faultCar_settles c .silent)
  · exact .quiet (t := s.slot false) (if_neg (by exact faults)) (.of_same rfl rfl)

/-! ### Car reports -/

theorem State.judgeSpot_quiet : Quiet s s.judgeSpot := by
  unfold State.judgeSpot
  split
  · split_ifs
    · exact .of_busy (.inl (by simp [State.enterIsolate, State.setPush])) (by simp [State.enterIsolate])
    · exact .of_same rfl rfl
  · exact .of_same rfl rfl

theorem State.arriveTower_quiet (c : Car) (l : Location) : Quiet s (s.arriveTower c l) := by
  unfold State.arriveTower
  split_ifs
  · exact .of_car (c := c) rfl rfl nofun
  · exact .of_same rfl rfl
  · exact .of_same rfl rfl

theorem State.beginDump_quiet (c : Car) : Quiet s (s.beginDump c) := by
  unfold State.beginDump
  cases (s.car c).reservedBay with
  | some b => exact .of_car (c := c) rfl rfl nofun
  | none => exact .of_same rfl rfl

theorem State.arrive_quiet (c : Car) (l : Location) : Quiet s (s.arrive c l) := by
  have cleared : Quiet s (s.setCar c { s.car c with target := none, travelTimer := none }) := .of_car (c := c) rfl rfl id
  cases state : (s.car c).state with
  | toSpot =>
    have spotted : Quiet s (s.setCar c { s.car c with state := .spotted, target := none, travelTimer := none }) :=
      .of_car (c := c) rfl rfl nofun
    rw [State.arrive_toSpot state]
    exact spotted.trans State.judgeSpot_quiet
  | toTower =>
    have step : s.arrive c l = (s.setCar c { s.car c with target := none, travelTimer := none }).arriveTower c l := by
      simp [State.arrive, state]
    rw [step]
    exact cleared.trans (State.arriveTower_quiet c l)
  | toWharf =>
    have step : s.arrive c l = (s.setCar c { s.car c with target := none, travelTimer := none }).beginDump c := by
      simp [State.arrive, state]
    rw [step]
    exact cleared.trans (State.beginDump_quiet c)
  | _ =>
    have step : s.arrive c l = s.setCar c { s.car c with target := none, travelTimer := none } := by
      simp [State.arrive, state]
    rw [step]
    exact cleared

theorem State.loadCar_quiet (c : Car) : Quiet s (s.loadCar c) := by
  unfold State.loadCar
  dsimp only
  split
  · split_ifs
    · exact .of_car (c := c) rfl rfl nofun
    · exact .of_same rfl rfl
  · exact .of_same rfl rfl

theorem State.endDump_settles (c : Car) : Settles (State.endDump · c) s := by
  by_cases dumps : (s.car c).state = .dumping → (s.car c).reservedBay = none
  · exact .quiet (State.endDump_of_not (by exact dumps)) (.of_same rfl rfl)
  · rw [Classical.not_imp] at dumps
    obtain ⟨state, bay⟩ := dumps
    obtain ⟨b, bay⟩ := Option.ne_none_iff_exists'.mp bay
    refine .closes (v := let s1 := (s.fillBay b).raiseAll (dumpedNotice c b (s.car c).load)
      s1.setCar c { s1.car c with state := .parked, dumpTimer := none, load := none, reservedBay := none }) fun flag => ?_
    have car : (s.slot flag).car c = s.car c := rfl
    simp only [State.endDump, car, state, bay]
    rfl

theorem State.judgeCar_settles (c : Car) : Settles (State.judgeCar · c) s := by
  by_cases out : (!(s.car c).inService || (s.car c).faulted) = true
  · exact .quiet (t := s.slot false) (if_pos (by exact out)) (.of_same rfl rfl)
  by_cases code : (s.car c).fault = 0
  case neg =>
    exact .of_then (g := (State.faultCar · c .report)) (u := s)
      (fun b => (if_neg (by exact out)).trans (if_pos (by exact code))) (.of_same rfl rfl) (State.faultCar_settles c .report)
  by_cases off : s.offSpot c = true
  case pos =>
    exact .of_then (g := (State.faultCar · c .offSpot)) (u := s)
      (fun b => ((if_neg (by exact out)).trans (if_neg (by exact not_not.mpr code))).trans (if_pos (by exact off))) (.of_same rfl rfl)
      (State.faultCar_settles c .offSpot)
  have onSpot (b : Bool) : (s.slot b).judgeCar c =
      if (s.car c).arrives then (s.slot b).arrive c (s.car c).position else (s.slot b).judgeStatus c :=
    ((if_neg (by exact out)).trans (if_neg (by exact not_not.mpr code))).trans (if_neg (by exact off))
  by_cases arrives : (s.car c).arrives = true
  · exact .quiet ((onSpot false).trans (if_pos arrives)) (.trans (t := s.slot false) (.of_same rfl rfl) (State.arrive_quiet _ _))
  · have judged (b : Bool) : (s.slot b).judgeCar c = (s.slot b).judgeStatus c := (onSpot b).trans (if_neg arrives)
    cases status : (s.car c).status with
    | loaded =>
      refine .quiet (t := (s.slot false).loadCar c) ((judged false).trans ?_) (.trans (t := s.slot false) (.of_same rfl rfl) (State.loadCar_quiet c))
      simp [State.judgeStatus, show (s.slot false).car c = s.car c from rfl, status]
    | empty =>
      refine .of_then (g := (State.endDump · c)) (u := s) (fun b => (judged b).trans ?_) (.of_same rfl rfl) (State.endDump_settles c)
      simp [State.judgeStatus, show (s.slot b).car c = s.car c from rfl, status]
    | _ =>
      refine .quiet (t := s.slot false) ((judged false).trans ?_) (.of_same rfl rfl)
      simp [State.judgeStatus, show (s.slot false).car c = s.car c from rfl, status]

theorem carReport_settles (c : Car) (x : CarReport) : Settles (carReport c x) s :=
  .of_then (g := (State.judgeCar · c)) (u := s.setCar c ((s.car c).record x)) (fun _ => rfl) (.of_car (c := c) rfl rfl id) (State.judgeCar_settles c)

end

end Sys2Proof.Machine

/-!
SUPPORT. A request that evaluates with a slot pending: the reply and the notices of the evaluation commute while there is room
(R191 to R193). The statement about slot carries.
-/

namespace Sys2Proof.Machine

/-! ### The reply and the notices commute -/

section
variable {l : SupLink} {f r : Frame} {k : Word}

/-- With a request in service no notice is begun. -/
theorem SupLink.choose_of_service (service : l.inService = some f) : l.choose =
    { l with transmitter := if l.transmitter = .idle ∧ l.replySlot.isSome then .reply else l.transmitter } := by
  obtain ⟨receiver, spare, inService, replySlot, notices, lost, discards, overruns, transmitter, rts, baud⟩ := l
  cases service
  cases transmitter with
  | idle => cases replySlot <;> cases notices <;> simp [SupLink.choose]
  | _ => rfl

theorem SupLink.raise_of_service (service : l.inService = some f) (room : l.notices.length < Config.noticeRoom) (b : NoticeBody) :
    l.raise k b = { l with
      notices := l.notices ++ [⟨k, b⟩]
      transmitter := if l.transmitter = .idle ∧ l.replySlot.isSome then .reply else l.transmitter } := by
  rw [SupLink.raise, if_pos room, SupLink.choose_of_service (by exact service)]

/-- The reply formed before a notice or after it leaves the same link. -/
theorem SupLink.answer_raise (service : l.inService = some f) (room : l.notices.length < Config.noticeRoom) (b : NoticeBody) :
    (l.answer r).raise k b = (l.raise k b).answer r := by
  have after : (l.answer r).raise k b = _ :=
    SupLink.raise_of_service (f := f) (by rw [SupLink.answer_eq]; exact service) (by rw [SupLink.answer_eq]; exact room) b
  rw [after, SupLink.raise_of_service service room, SupLink.answer_eq, SupLink.answer_eq]
  by_cases idle : l.transmitter = .idle <;> simp [idle]

theorem SupLink.answer_raiseAll (bs : List NoticeBody) : ∀ l : SupLink, l.inService = some f →
    l.notices.length + bs.length ≤ Config.noticeRoom →
    bs.foldl (fun l b => l.raise k b) (l.answer r) = (bs.foldl (fun l b => l.raise k b) l).answer r := by
  induction bs with
  | nil => intro l _ _; rfl
  | cons b bs ih =>
    intro l service room
    have notices := SupLink.raise_notices_of_service k b service (by simp only [List.length_cons] at room; omega)
    rw [List.foldl_cons, List.foldl_cons, SupLink.answer_raise service (by simp only [List.length_cons] at room; omega)]
    refine ih _ (by rw [SupLink.raise_inService]; exact service) ?_
    rw [notices]
    simpa [Nat.add_assoc, Nat.add_comm 1] using room

end

/-! ### How many notices may join -/

/-- The FIELD_QUEUE_FULL that may still be raised, counted (R176). -/
def FieldLink.toReport (f : FieldLink) : Nat := if f.fullRaised then 0 else 1

/-- The notices held, with the FIELD_QUEUE_FULL that may still join them. -/
def State.noticeLoad (s : State) : Nat := s.sl.notices.length + s.fl.toReport

theorem SupLink.raise_length (l : SupLink) (k : Word) (b : NoticeBody) : (l.raise k b).notices.length ≤ l.notices.length + 1 := by
  have chosen (m : SupLink) : m.choose.notices.length ≤ m.notices.length := by
    unfold SupLink.choose
    split
    · exact le_rfl
    · next held => split_ifs <;> simp [held]
    · exact le_rfl
  unfold SupLink.raise
  split_ifs
  · exact (chosen _).trans (by simp)
  · exact Nat.le_succ _

theorem FieldLink.toReport_enqueue (f : FieldLink) (o : Outgoing) : (f.enqueue o).toReport =
    if f.queue.length < Config.fieldRoom then f.toReport else 0 := by
  unfold FieldLink.enqueue
  split_ifs
  · simp [FieldLink.toReport]
  · rfl

/-- The commands issued raise the notices bs and leave the link g, whatever SL holds; bs is FIELD_QUEUE_FULL or nothing (R176). -/
theorem issueAll_uniform (k : Word) (cs : List Outgoing) : ∀ f : FieldLink, ∃ (g : FieldLink) (bs : List NoticeBody),
    bs.length + g.toReport ≤ f.toReport ∧
      ∀ l : SupLink, cs.foldl (issueStep k) (f, l) = (g, bs.foldl (fun l b => l.raise k b) l) := by
  induction cs with
  | nil => exact fun f => ⟨f, [], by simp, fun _ => rfl⟩
  | cons o cs ih =>
    intro f
    obtain ⟨g, bs, few, eq⟩ := ih (f.enqueue o)
    rw [FieldLink.toReport_enqueue] at few
    by_cases quiet : f.queue.length < Config.fieldRoom ∨ f.fullRaised = true
    · refine ⟨g, bs, few.trans ?_, fun l => ?_⟩
      · split_ifs
        · exact le_rfl
        · exact Nat.zero_le _
      · rw [List.foldl_cons, issueStep, if_pos (by simpa using quiet)]
        exact eq l
    · obtain ⟨full, first⟩ := not_or.mp quiet
      refine ⟨g, .fieldQueueFull o.node o.command.kind :: bs, ?_, fun l => ?_⟩
      · rw [if_neg full] at few
        simp only [FieldLink.toReport, if_neg first, List.length_cons] at few ⊢
        omega
      · rw [List.foldl_cons, issueStep, if_neg (by simpa using quiet)]
        exact eq _

theorem State.issueAll_of_links {s : State} {l : SupLink} {g : FieldLink} {cs : List Outgoing} {bs : List NoticeBody}
    (links : cs.foldl (issueStep s.bk.seconds) (s.fl, l) = (g, bs.foldl (fun l b => l.raise s.bk.seconds b) l)) :
    (s.withSl l).issueAll cs = ((s.withFl g).withSl l).raiseAll bs := by
  simp only [State.issueAll, State.withSl_bk, State.withSl_fl, State.withSl_sl, links]
  rfl

/-- From s to t at most k notices are raised, FIELD_QUEUE_FULL apart, and the request in service stays. -/
structure AtMost (k : Nat) (s t : State) : Prop where
  load : t.noticeLoad ≤ s.noticeLoad + k
  service : t.sl.inService = s.sl.inService

section
variable {s t u : State} {k j : Nat} {r : PushRecord}

theorem AtMost.of_same (fl : t.fl = s.fl) (sl : t.sl = s.sl) : AtMost k s t :=
  ⟨by rw [State.noticeLoad, State.noticeLoad, fl, sl]; omega, by rw [sl]⟩

theorem AtMost.trans (h : AtMost k s t) (h' : AtMost j t u) : AtMost (k + j) s u :=
  ⟨by have := h.load; have := h'.load; omega, h'.service.trans h.service⟩

/-- After a write that leaves the links. -/
theorem AtMost.after (h : AtMost k t u) (fl : t.fl = s.fl) (sl : t.sl = s.sl) : AtMost k s u :=
  ⟨by have := h.load; rwa [State.noticeLoad, State.noticeLoad, fl, sl] at this, by rw [h.service, sl]⟩

theorem AtMost.mono (h : AtMost k s t) (le : k ≤ j) : AtMost j s t := ⟨by have := h.load; omega, h.service⟩

theorem AtMost.raise (b : NoticeBody) : AtMost 1 s (s.raise b) := by
  refine ⟨?_, SupLink.raise_inService _ _ _⟩
  have longer := s.sl.raise_length s.bk.seconds b
  change (s.sl.raise s.bk.seconds b).notices.length + s.fl.toReport ≤ s.sl.notices.length + s.fl.toReport + 1
  omega

theorem AtMost.issueAll (cs : List Outgoing) : AtMost 0 s (s.issueAll cs) := by
  refine ⟨?_, s.issueAll_inService cs⟩
  obtain ⟨g, bs, few, eq⟩ := issueAll_uniform s.bk.seconds cs s.fl
  have longer : ∀ l : SupLink, (bs.foldl (fun l b => l.raise s.bk.seconds b) l).notices.length ≤ l.notices.length + bs.length := by
    clear few eq
    induction bs with
    | nil => exact fun l => le_rfl
    | cons b bs ih =>
      intro l
      have first := l.raise_length s.bk.seconds b
      have rest := ih (l.raise s.bk.seconds b)
      simp only [List.foldl_cons, List.length_cons]
      omega
  have links : (s.issueAll cs).noticeLoad = (bs.foldl (fun l b => l.raise s.bk.seconds b) s.sl).notices.length + g.toReport := by
    simp only [State.noticeLoad, State.issueAll, State.withSl, State.withFl, eq s.sl]
  have held := longer s.sl
  rw [links, State.noticeLoad]
  omega

theorem AtMost.evalValve (n : Nat) : AtMost 0 s (s.evalValve n) :=
  .after (t := s.setOven n ((s.oven n).setValve (turnTo n (s.valveMode n) (s.oven n).valve).1)) (.issueAll _) rfl rfl

theorem AtMost.releaseClaimed : AtMost 0 s (s.releaseClaimed r) := by
  unfold State.releaseClaimed
  split_ifs
  · rw [State.releaseCar_eq]
    exact .after (t := s.setCar r.car (s.car r.car).released) (.issueAll _) rfl rfl
  · exact .of_same rfl rfl

/-- The end of a push after which no candidate is taken. -/
theorem AtMost.endPush (clear : s.su.slotFlag = false) (n : Nat) (silent : Bool) : AtMost 0 s (s.endPush n silent) := by
  rw [State.endPush_of_quiet (.inr clear)]
  exact .after (t := s.setPush none) (.evalValve n) rfl rfl

theorem AtMost.completePush (clear : s.su.slotFlag = false) (silent : Bool) : AtMost 1 s (s.completePush r silent) := by
  have emptied (o : Oven) (b : NoticeBody) (cs : List Outgoing) : AtMost 1 s (((s.setOven r.oven o).issueAll cs).raise b) :=
    .after (t := s.setOven r.oven o) (.trans (k := 0) (.issueAll _) (.raise _)) rfl rfl
  refine .trans (k := 1) (j := 0) (emptied { s.oven r.oven with phase := .empty, progress := 0, lastPushNumber := r.number }
    (.pushDone r.number r.oven r.car r.peakForce r.emptyCar r.doorFault) [toOven r.oven (.cap r.oven false)]) ?_
  exact .endPush (by exact clear) r.oven silent

theorem AtMost.pauseSchedule (a b : Nat) : AtMost 1 s (s.pauseSchedule a b) := by
  unfold State.pauseSchedule
  split_ifs
  · exact .after (t := s.withSu (s.su.turnTo .paused)) (.raise _) rfl rfl
  · exact .of_same rfl rfl

theorem AtMost.makeStall (y : AbortCause) (first : Option AbortCause) : AtMost 2 s (s.makeStall r y first) := by
  have written (x : StallRecord) : AtMost 0 s ((s.withPu { s.pu with push := none, stall := some x }).setPhase r.oven .stalled) :=
    .of_same rfl rfl
  exact (((written _).trans (.evalValve r.oven)).trans (.raise _)).trans (.pauseSchedule 2 0)

/-- An abort with no slot pending raises at most two notices: PUSH_ABORTED or PUSH_DONE, or those of a stall (R71 to R76). -/
theorem AtMost.abortPush (clear : s.su.slotFlag = false) (y : AbortCause) : AtMost 2 s (s.abortPush y) := by
  cases push : s.pu.push with
  | none =>
    rw [State.abortPush_of_none push]
    exact .of_same rfl rfl
  | some r =>
    have stalls (stage : r.stage = .ram ∨ (r.stage = .retreat ∧ y ≠ .car) ∨ (r.stage = .doorsOff ∧ y = .estop)) :
        AtMost 2 s (s.abortPush y) := by
      rw [State.abortPush_of_late push stage]
      exact .trans (k := 0) (.issueAll _) (.makeStall _ _)
    have undone (stage : r.stage = .spot ∨ r.stage = .isolate) : AtMost 2 s (s.abortPush y) := by
      have released : AtMost 0 s ((s.issueAll (toBoth .halt ++ [toOven r.oven (.cap r.oven false)])).releaseClaimed r) :=
        .trans (k := 0) (.issueAll _) .releaseClaimed
      have raised (t : State) : AtMost 1 t ((t.setPhase r.oven .ready).raise (.pushAborted r.number r.oven r.stage y)) :=
        .after (t := t.setPhase r.oven .ready) (.raise _) rfl rfl
      have before : (s.issueAll (toBoth .halt ++ [toOven r.oven (.cap r.oven false)])).su.slotFlag = false := clear
      rw [State.abortPush_of_early push stage]
      refine .mono ((released.trans (raised _)).trans (.endPush ?_ r.oven y.bySilence)) (by omega)
      unfold State.releaseClaimed
      split_ifs
      · rw [State.releaseCar_eq]
        exact before
      · exact before
    cases stage : r.stage with
    | spot => exact undone (.inl stage)
    | isolate => exact undone (.inr stage)
    | doorsOff =>
      by_cases estop : y = .estop
      · exact stalls (.inr (.inr ⟨stage, estop⟩))
      · rw [State.abortPush_of_doorsOff push stage estop]
        exact .mono (.trans (t := s.issueAll (toBoth .replace)) (k := 0) (.issueAll _) (.of_same (k := 0) rfl rfl)) (by omega)
    | ram => exact stalls (.inl stage)
    | doorsOn =>
      rw [State.abortPush_of_doorsOn push stage]
      exact .mono (.trans (t := s.issueAll (toBoth .halt)) (k := 0) (j := 1) (.issueAll _) (.completePush (by exact clear) y.bySilence))
        (by omega)
    | retreat =>
      by_cases car : y = .car
      · subst car
        rw [State.abortPush_of_detached push stage]
        exact .of_same rfl rfl
      · exact stalls (.inr (.inl ⟨stage, car⟩))

end

/-! ### Candidate evaluation whatever SL holds -/

/-- The step writes SU alone or starts a push, and which of them does not hang on SL. -/
def Uniform (f : State → State) (s : State) : Prop :=
  (∃ u, ∀ l, f (s.withSl l) = (s.withSu u).withSl l) ∨
    ∃ u n o c, ∀ l, f (s.withSl l) = ((s.withSu u).withSl l).startPush n o c

section
variable {s : State} {f r : Frame}

theorem State.tryPush_uniform (n : Nat) (o : Origin) : Uniform (State.tryPush · n o) s := by
  cases offer : s.offerCar n with
  | some c =>
    refine .inr ⟨s.su, n, o, c, fun l => ?_⟩
    have same : (s.withSl l).offerCar n = some c := offer
    simp only [State.tryPush, same]
    rfl
  | none =>
    refine .inl ⟨s.su, fun l => ?_⟩
    have same : (s.withSl l).offerCar n = none := offer
    simp only [State.tryPush, same]
    rfl

theorem State.judgeCursor_uniform (n : Nat) : Uniform (State.judgeCursor · n) s := by
  have stays (u : ScheduleUnit) (eq : ∀ l, (s.withSl l).judgeCursor n = (s.withSu u).withSl l) :
      Uniform (State.judgeCursor · n) s := .inl ⟨u, eq⟩
  have step (l : SupLink) : (s.withSl l).judgeCursor n = if !s.inRange n || s.excluded n then s.withSl l
      else if s.pushable n then (s.withSl l).tryPush n .series
      else match (s.oven n).phase with
        | .empty => (s.withSu { s.su with cursor := s.nextPosition s.su.cursor }).withSl l
        | .charging => (s.withSu { s.su with cursor := s.nextPosition s.su.cursor }).withSl l
        | .coking => (s.withSl l).passOver n
        | .soaking => (s.withSl l).passOver n
        | .ready => (s.withSl l).passOver n
        | .pushing => s.withSl l
        | .stalled => s.withSl l := rfl
  have passed : ∃ u, ∀ l, (s.withSl l).passOver n = (s.withSu u).withSl l := by
    by_cases listed : n ∈ s.su.outOfTurn ∨ n ∈ s.su.deferred
    · exact ⟨{ s.su with cursor := s.nextPosition s.su.cursor }, fun l => if_pos (by exact listed)⟩
    · by_cases room : s.su.deferred.length < Config.deferredRoom
      · exact ⟨{ s.su with cursor := s.nextPosition s.su.cursor, deferred := s.su.deferred ++ [n] },
          fun l => (if_neg (by exact listed)).trans (if_pos (by exact room))⟩
      · exact ⟨s.su, fun l => (if_neg (by exact listed)).trans (if_neg (by exact room))⟩
  obtain ⟨u, passed⟩ := passed
  by_cases out : (!s.inRange n || s.excluded n) = true
  · exact stays s.su fun l => (step l).trans (if_pos out)
  by_cases pushable : s.pushable n = true
  · have tried (l : SupLink) := ((step l).trans (if_neg out)).trans (if_pos pushable)
    rcases s.tryPush_uniform n .series with ⟨u, eq⟩ | ⟨u, m, o, c, eq⟩
    · exact .inl ⟨u, fun l => (tried l).trans (eq l)⟩
    · exact .inr ⟨u, m, o, c, fun l => (tried l).trans (eq l)⟩
  have judged (l : SupLink) := ((step l).trans (if_neg out)).trans (if_neg pushable)
  cases phase : (s.oven n).phase with
  | empty | charging => exact stays _ fun l => by rw [judged l, phase]
  | coking | soaking | ready => exact stays u fun l => by rw [judged l, phase]; exact passed l
  | pushing | stalled => exact stays s.su fun l => by rw [judged l, phase]; rfl

theorem State.skipExcluded_withSl (l : SupLink) : ∀ fuel p, (s.withSl l).skipExcluded fuel p = s.skipExcluded fuel p := by
  intro fuel
  induction fuel with
  | zero => exact fun _ => rfl
  | succ fuel ih =>
    intro p
    have same : (s.withSl l).excluded ((s.withSl l).ovenAt p) = s.excluded (s.ovenAt p) := rfl
    rw [State.skipExcluded, State.skipExcluded, same, ih]
    rfl

theorem State.evaluate_uniform : Uniform State.evaluate s := by
  have tried {g : State → State} {n : Nat} {o : Origin} (eq : ∀ l, g (s.withSl l) = (s.withSl l).tryPush n o) : Uniform g s := by
    rcases s.tryPush_uniform n o with ⟨u, same⟩ | ⟨u, m, p, c, same⟩
    · exact .inl ⟨u, fun l => (eq l).trans (same l)⟩
    · exact .inr ⟨u, m, p, c, fun l => (eq l).trans (same l)⟩
  by_cases may : s.mayEvaluate = true
  case neg => exact .inl ⟨s.su, fun l => if_neg may⟩
  cases head : s.headCandidate with
  | some n =>
    refine tried (n := n) (o := .outOfTurn) fun l => (if_pos may).trans ?_
    have same : (s.withSl l).headCandidate = some n := head
    simp only [same]
  | none =>
    cases deferred : s.deferredCandidate with
    | some n =>
      refine tried (n := n) (o := .deferred) fun l => (if_pos may).trans ?_
      have same : (s.withSl l).headCandidate = none := head
      have same' : (s.withSl l).deferredCandidate = some n := deferred
      simp only [same, same']
    | none =>
      have series (l : SupLink) : (s.withSl l).evaluate =
          ((s.withSu { s.su with cursor := s.skipExcluded s.ovenCount s.su.cursor }).withSl l).judgeCursor
            (s.ovenAt (s.skipExcluded s.ovenCount s.su.cursor)) := by
        refine (if_pos may).trans ?_
        have same : (s.withSl l).headCandidate = none := head
        have same' : (s.withSl l).deferredCandidate = none := deferred
        have skip : (s.withSl l).skipExcluded (s.withSl l).ovenCount (s.withSl l).su.cursor = s.skipExcluded s.ovenCount s.su.cursor :=
          State.skipExcluded_withSl l _ _
        simp only [same, same', State.trySeries, skip]
        rfl
      have judged := State.judgeCursor_uniform (s := s.withSu { s.su with cursor := s.skipExcluded s.ovenCount s.su.cursor })
        (s.ovenAt (s.skipExcluded s.ovenCount s.su.cursor))
      rcases judged with ⟨u, same⟩ | ⟨u, m, o, c, same⟩
      · exact .inl ⟨u, fun l => (series l).trans (same l)⟩
      · exact .inr ⟨u, m, o, c, fun l => (series l).trans (same l)⟩

/-- An evaluation raises the same notices whatever SL holds: PUSH_STARTED and FIELD_QUEUE_FULL at most. -/
theorem State.evaluate_notices (s : State) : ∃ (x : State) (bs : List NoticeBody), x.bk = s.bk ∧ bs.length ≤ s.fl.toReport + 1 ∧
    ∀ l, (s.withSl l).evaluate = (x.withSl l).raiseAll bs := by
  rcases s.evaluate_uniform with ⟨u, eq⟩ | ⟨u, n, o, c, eq⟩
  · exact ⟨s.withSu u, [], rfl, by simp, eq⟩
  · obtain ⟨g, bs, few, links⟩ := issueAll_uniform s.bk.seconds ((s.withSu u).startCommands n o c) s.fl
    refine ⟨((s.withSu u).pushWritten n o c).withFl g, bs ++ [.pushStarted (s.pu.counter + 1) n o c], rfl, ?_, fun l => ?_⟩
    · rw [List.length_append, List.length_singleton]
      omega
    · rw [eq l, State.startPush_eq, State.pushWritten_withSl, State.startCommands_withSl, ← State.raiseAll_append]
      exact congrArg (State.raise · (.pushStarted (s.pu.counter + 1) n o c)) (State.issueAll_of_links (by exact links l))

/-- Evaluated after the reply or before it, the part is the same, while there is room for the notices (R193; log 20). -/
theorem State.evaluate_answer (service : s.sl.inService = some f) (room : s.noticeLoad + 1 ≤ Config.noticeRoom) :
    (s.withSl (s.sl.answer r)).evaluate = s.evaluate.withSl (s.evaluate.sl.answer r) := by
  obtain ⟨x, bs, bk, few, eq⟩ := s.evaluate_notices
  have here : s.evaluate = (x.withSl s.sl).raiseAll bs := eq s.sl
  rw [eq, here]
  have commutes := SupLink.answer_raiseAll (r := r) (k := x.bk.seconds) bs s.sl service (by
    simp only [State.noticeLoad] at room
    omega)
  simp only [State.raiseAll, State.withSl_sl, State.withSl_bk, commutes]
  rfl

theorem State.evaluate_inService (s : State) : s.evaluate.sl.inService = s.sl.inService := by
  obtain ⟨x, bs, -, -, eq⟩ := s.evaluate_notices
  have here : s.evaluate = (x.withSl s.sl).raiseAll bs := eq s.sl
  rw [here, State.raiseAll_inService, State.withSl_sl]

end

end Sys2Proof.Machine

/-!
SUPPORT. The statement about slot carries: its events and its requests.
-/

namespace Sys2Proof.Machine

/-! ### The events that end a push or park a car (R48) -/

/-- The events of R48 at which a push can end or a car be parked, a machine's silence apart. -/
def EvaluatesLast (i : Instr) : Prop :=
  (∃ m es, i = .stageConfirmation m es) ∨ i = .stageTimerExpiry ∨ i = .estopAtPu ∨ (∃ k x, i = .carReport k x) ∨
    (∃ k, i = .travelTimerExpiry k ∨ i = .dumpTimerExpiry k ∨ i = .carNodeSilence k)

section
variable {s t : State} {i : Instr}

/-- Such an event, if it is taken with no slot pending, acts as one function that settles. -/
theorem EvaluatesLast.acts (h : EvaluatesLast i) (run : s.pins.inReset = false) (taken : exec i (s.slot false) = .next t) :
    ∃ f, Settles f (s.passed i) ∧ ∀ b, exec i (s.slot b) = .next (f ((s.passed i).slot b)) := by
  have event {f : State → State} (b : Bool) : (s.slot b).event i f = .next (f ((s.passed i).slot b)) := State.event_of_run _ _ _ run
  have formed {f : State → State} (act : ∀ b, exec i (s.slot b) = (s.slot b).checked i f) : i.wf = true := by
    by_contra wf
    rw [act, State.checked_of_illFormed _ _ _ (Bool.eq_false_iff.mpr wf)] at taken
    cases taken
  rcases h with ⟨m, es, rfl⟩ | rfl | rfl | ⟨k, x, rfl⟩ | ⟨k, rfl | rfl | rfl⟩
  · exact ⟨_, stageConfirmation_settles m es, fun b => (State.checked_of_wf _ _ _ (formed fun _ => rfl)).trans (event b)⟩
  · exact ⟨_, stageTimerExpiry_settles, event⟩
  · exact ⟨_, estopAtPu_settles, event⟩
  · exact ⟨_, carReport_settles k x, fun b => (State.checked_of_wf _ _ _ (formed fun _ => rfl)).trans (event b)⟩
  · exact ⟨_, travelTimerExpiry_settles k, event⟩
  · exact ⟨_, dumpTimerExpiry_settles k, event⟩
  · exact ⟨_, carNodeSilence_settles k, event⟩

theorem EvaluatesLast.evaluates (h : EvaluatesLast i) (run : s.pins.inReset = false) (taken : exec i (s.slot false) = .next t)
    (ended : Ended s t) : exec i s = .next (State.evaluate (t.slot s.su.slotFlag)) := by
  obtain ⟨f, settles, acts⟩ := h.acts run taken
  cases taken.symm.trans (acts false)
  have after := settles.evaluates ended
  have step := acts s.su.slotFlag
  exact step.trans (congrArg _ after)

end

/-! ### Requests -/

section
variable {s x : State} {i : Instr} {f : Frame} {owner : State → Answer} {st st' : Status} {fields fields' : List Byte}

/-- A request whose owner evaluates last: the reply is formed after the evaluation. -/
theorem afterRequest_evaluates (pending : owner (s.taking i f) = ⟨(x.slot s.su.slotFlag).evaluate, st, fields⟩)
    (clear : owner ((s.slot false).taking i f) = ⟨x.slot false, st', fields'⟩) (service : x.sl.inService = some f)
    (room : x.noticeLoad + 1 ≤ Config.noticeRoom) {u v : State} (hv : v = s.afterRequest i f owner)
    (hu : u = State.evaluate (((s.slot false).afterRequest i f owner).slot s.su.slotFlag)) :
    Keeps [.sl] u v ∧ v.sl = { u.sl with replySlot := v.sl.replySlot } ∧ Replied v f st fields := by
  have answered : ((s.slot false).afterRequest i f owner).slot s.su.slotFlag =
      (x.slot s.su.slotFlag).withSl ((x.slot s.su.slotFlag).sl.answer (replyFrame f ⟨x.slot false, st', fields'⟩)) := by
    rw [State.afterRequest, serve_eq, clear]
    rfl
  have first := State.evaluate_answer (s := x.slot s.su.slotFlag) (r := replyFrame f ⟨x.slot false, st', fields'⟩) service room
  have last : v = (x.slot s.su.slotFlag).evaluate.withSl ((x.slot s.su.slotFlag).evaluate.sl.answer
      (replyFrame f ⟨(x.slot s.su.slotFlag).evaluate, st, fields⟩)) := by
    rw [hv, State.afterRequest, serve_eq, pending]
  have replied := replied_serve i f owner s (by
    rw [pending]
    exact (State.evaluate_inService _).trans service)
  rw [pending] at replied
  rw [answered, first] at hu
  refine ⟨?_, ?_, hv ▸ replied⟩
  · rw [hu, last]
    intro b hb
    cases b with
    | sl => simp at hb
    | _ => rfl
  · rw [hu, last]
    simp only [State.withSl_sl, SupLink.answer_eq]

/-- What a reply says is read off its slot. -/
theorem Replied.of_reply {t v : State} (reply : t.sl.replySlot = some (replyFrame f ⟨x, st, fields⟩)) (h : Replied t f st' fields')
    (k : Replied v f st fields) : Replied v f st' fields' := by
  obtain ⟨-, -, lost, slot⟩ := h
  obtain ⟨service, clear, lost', held⟩ := k
  have same := Option.some.inj (reply.symm.trans slot)
  simp only [replyFrame, State.replyTo, Frame.mk.injEq, List.cons.injEq] at same
  obtain ⟨-, -, code, -, rest⟩ := same
  refine ⟨service, clear, lost', ?_⟩
  rw [held, State.replyTo, State.replyTo, code, rest]

end

/-! ### ABORT_PUSH and CAR_SERVICE IN with a slot pending (R48, R80, R140) -/

section
variable {s t : State} {tag : Byte} {k : Half} {c : Car}

/-- ABORT_PUSH is refused or aborts, as PU stands. -/
theorem abortPush_acts (p : PushUnit) (k : Half) : (∀ x : State, x.pu = p → (Machine.abortPush k x).state = x) ∨
    ∃ fields, ∀ x : State, x.pu = p → Machine.abortPush k x = (x.abortPush .host).reply fields := by
  cases stall : p.stall with
  | some j => exact .inl fun x pu => by rw [abortPush_of_stall (by simp [pu, stall])]; rfl
  | none =>
    by_cases found : ∃ r, p.push = some r ∧ r.number = k
    · obtain ⟨r, push, number⟩ := found
      by_cases retreat : r.stage = .retreat
      · exact .inl fun x pu => by rw [abortPush_of_retreat (pu ▸ push) (pu ▸ stall) number retreat]; rfl
      · exact .inr ⟨_, fun x pu => abortPush_of_push (pu ▸ push) (pu ▸ stall) number retreat⟩
    · exact .inl fun x pu => by
        rw [abortPush_of_absent (pu ▸ stall) fun r push number => found ⟨r, pu ▸ push, number⟩]
        rfl

theorem abortPush_pending (free : s.Free) (ht : tag ≠ 0) (room : s.NoticeRoom 4)
    (taken : exec (.abortPush tag k) (s.slot false) = .next t) (ended : s.pu.push ≠ none ∧ t.pu.push = none ∧ t.pu.stall = none)
    {u : State} (hu : u = State.evaluate (t.slot s.su.slotFlag)) :
    ∃ v, exec (.abortPush tag k) s = .next v ∧ Keeps [.sl] u v ∧ v.sl = { u.sl with replySlot := v.sl.replySlot } ∧
      ∀ x fields, Replied t ⟨0x31, tag, halfBytes k⟩ x fields → Replied v ⟨0x31, tag, halfBytes k⟩ x fields := by
  have first : exec (.abortPush tag k) (s.slot false) = .next ((s.slot false).afterAbort tag k) :=
    exec_abortPush (by exact free) ht
  cases taken.symm.trans first
  rw [exec_abortPush free ht]
  have pu : ((s.slot false).afterAbort tag k).pu = (Machine.abortPush k ((s.aborting tag k).slot false)).state.pu := rfl
  rw [pu] at ended
  rcases abortPush_acts s.pu k with refused | ⟨fields, acts⟩
  · rw [refused ((s.aborting tag k).slot false) rfl] at ended
    exact absurd ended.2.1 ended.1
  rw [acts ((s.aborting tag k).slot false) rfl] at ended
  rcases State.abortPush_settles (s := s.aborting tag k) (y := .host) rfl with ⟨x, closes⟩ | quiet
  case inr => exact absurd (.inl ended) quiet.not_ended
  have left : ((s.aborting tag k).slot false).abortPush .host = x.slot false := (closes false).trans (State.evaluate_of_clear rfl)
  obtain ⟨load, service⟩ := AtMost.abortPush (s := (s.aborting tag k).slot false) rfl .host
  rw [left] at load service
  have few : x.noticeLoad + 1 ≤ Config.noticeRoom := by
    have held : ((s.aborting tag k).slot false).noticeLoad = s.sl.notices.length + s.fl.toReport := rfl
    have same : (x.slot false).noticeLoad = x.noticeLoad := rfl
    have one : s.fl.toReport ≤ 1 := by unfold FieldLink.toReport; split_ifs <;> omega
    simp only [State.NoticeRoom] at room
    omega
  have pending : Machine.abortPush k (s.aborting tag k) = ⟨(x.slot s.su.slotFlag).evaluate, .ok, fields⟩ :=
    (acts (s.aborting tag k) rfl).trans (congrArg (State.reply · fields) (closes s.su.slotFlag))
  have clear : Machine.abortPush k ((s.slot false).taking (.abortPush tag k) ⟨0x31, tag, halfBytes k⟩) = ⟨x.slot false, .ok, fields⟩ :=
    (acts ((s.aborting tag k).slot false) rfl).trans (congrArg (State.reply · fields) left)
  obtain ⟨keeps, sl, replied⟩ := afterRequest_evaluates pending clear service few rfl hu
  refine ⟨_, rfl, keeps, sl, fun y others said => said.of_reply (x := x.slot false) (st := .ok) (fields := fields) ?_ replied⟩
  rw [State.afterAbort, State.afterRequest, serve_eq, clear, State.withSl_sl, SupLink.answer_eq]

/-- The state CAR_SERVICE IN leaves. -/
def State.afterServiceIn (s : State) (tag : Byte) (c : Car) : State :=
  s.afterRequest (.carServiceIn tag (byteOf c.code)) ⟨0x62, tag, [byteOf c.code, 1]⟩ (carServiceIn (byteOf c.code))

/-- The state QU judges CAR_SERVICE IN on. -/
def State.serving (s : State) (tag : Byte) (c : Car) : State :=
  s.taking (.carServiceIn tag (byteOf c.code)) ⟨0x62, tag, [byteOf c.code, 1]⟩

/-- The same with the car taken into service. -/
def State.parking (s : State) (tag : Byte) (c : Car) : State := (s.serving tag c).setCar c { s.car c with state := .parked }

theorem exec_carServiceIn (free : s.Free) (ht : tag ≠ 0) :
    exec (.carServiceIn tag (byteOf c.code)) s = .next (s.afterServiceIn tag c) :=
  exec_of_free rfl rfl rfl free ht

theorem Car.ofCode_code (c : Car) : Car.ofCode (byteOf c.code).toNat = some c := by cases c <;> rfl

/-- A car out of service is refused or taken into service as its node is heard (R140). -/
theorem carServiceIn_of_out (out : (s.car c).state = .outOfService) : carServiceIn (byteOf c.code) s =
    if s.live (.car c) then (s.parkCar c).reply ((s.parkCar c).carFields c) else s.refuse .nodeSilent := by
  cases live : s.live (.car c) <;> simp [carServiceIn, Car.ofCode_code, out, live]

theorem carServiceIn_pending (free : s.Free) (ht : tag ≠ 0) (room : s.NoticeRoom 3)
    (taken : exec (.carServiceIn tag (byteOf c.code)) (s.slot false) = .next t)
    (parked : (s.car c).state = .outOfService ∧ (t.car c).state = .parked)
    {u : State} (hu : u = State.evaluate (t.slot s.su.slotFlag)) :
    ∃ v, exec (.carServiceIn tag (byteOf c.code)) s = .next v ∧ Keeps [.sl] u v ∧ v.sl = { u.sl with replySlot := v.sl.replySlot } ∧
      Replied v ⟨0x62, tag, [byteOf c.code, 1]⟩ .ok [byteOf c.code, byteOf (v.car c).state.code, byteOf (v.car c).position.code] := by
  have first : exec (.carServiceIn tag (byteOf c.code)) (s.slot false) = .next ((s.slot false).afterServiceIn tag c) :=
    exec_carServiceIn (by exact free) ht
  cases taken.symm.trans first
  rw [exec_carServiceIn free ht]
  obtain ⟨out, into⟩ := parked
  have car : ((s.slot false).afterServiceIn tag c).car c =
      (carServiceIn (byteOf c.code) ((s.serving tag c).slot false)).state.car c := rfl
  rw [car, carServiceIn_of_out (by exact out)] at into
  by_cases live : s.live (.car c) = true
  case neg =>
    rw [if_neg (by exact live)] at into
    exact absurd (out.symm.trans into) (by decide)
  have left : ((s.serving tag c).slot false).parkCar c = (s.parking tag c).slot false := State.evaluate_of_clear rfl
  have pending : carServiceIn (byteOf c.code) (s.serving tag c) = ⟨((s.parking tag c).slot s.su.slotFlag).evaluate, .ok, _⟩ :=
    (carServiceIn_of_out (by exact out)).trans (if_pos (by exact live))
  have clear : carServiceIn (byteOf c.code) ((s.slot false).taking (.carServiceIn tag (byteOf c.code))
      ⟨0x62, tag, [byteOf c.code, 1]⟩) = ⟨(s.parking tag c).slot false, .ok, ((s.parking tag c).slot false).carFields c⟩ := by
    have step := (carServiceIn_of_out (s := (s.serving tag c).slot false) (by exact out)).trans (if_pos (by exact live))
    rw [left] at step
    exact step
  have few : (s.parking tag c).noticeLoad + 1 ≤ Config.noticeRoom := by
    have held : (s.parking tag c).noticeLoad = s.sl.notices.length + s.fl.toReport := rfl
    have one : s.fl.toReport ≤ 1 := by unfold FieldLink.toReport; split_ifs <;> omega
    simp only [State.NoticeRoom] at room
    omega
  obtain ⟨keeps, sl, replied⟩ := afterRequest_evaluates pending clear rfl few rfl hu
  refine ⟨_, rfl, keeps, sl, ?_⟩
  have shown : (s.afterServiceIn tag c).car c = ((s.serving tag c).parkCar c).car c := by
    rw [State.afterServiceIn, State.afterRequest, serve_eq]
    rw [show carServiceIn (byteOf c.code) (s.taking _ _) = _ from pending]
    rfl
  rw [shown]
  exact replied

end

/-- Settles O32: slot carries, candidate evaluation, the events that evaluate last with a slot pending, and a push start. -/
theorem slotCarryTakesACandidate : Obligations.SlotCarryTakesACandidate := by
  refine ⟨slotCarry_acts, fun s shape => ⟨State.evaluate_of_idle, s.pushable_iff_braced, fun run auto flag push stall estop => ?_⟩,
    fun s t u hu => ⟨fun i run last taken ended => ?_, fun tag k free ht room taken ended => ?_,
      fun tag c free ht room taken parked => ?_⟩,
    fun s n o c shape low high ready push estop mode field notice t ht => ?_⟩
  · obtain ⟨head, rest⟩ := s.evaluate_acts run auto flag push stall estop
    refine ⟨head, fun none => ?_⟩
    obtain ⟨deferred, series⟩ := rest none
    refine ⟨deferred, fun empty => ?_⟩
    rw [series empty]
    exact ⟨State.trySeries_of_all, fun j below skipped p position n oven range included u hu =>
      State.trySeries_acts below skipped position oven range included hu⟩
  · rw [hu]
    exact EvaluatesLast.evaluates last run taken ended
  · exact abortPush_pending free ht room taken ended hu
  · exact carServiceIn_pending free ht room taken parked hu
  · have place : n - 1 < s.ovens.length := by
      have size := shape.ovens
      have count := shape.countHigh
      omega
    exact State.startPush_acts place ready push estop mode field notice ht

end Sys2Proof.Machine

/-!
SUPPORT. The clamping: what the law of R94 reads of the part, and the operations that leave it as it stands. Only DU's door events,
SET_DOOR_LIMITS and reset write it.
-/

namespace Sys2Proof.Machine

/-! ### The clamping (R94) -/

/-- What the law of R94 reads of a door. -/
structure Clamp where
  state : DoorState
  step : Nat
  learned : Nat

def Door.clamp (d : Door) : Clamp := ⟨d.state, d.clampStep, d.learnedStep⟩

/-- What the law of R94 reads of an oven: the doors P and C. -/
def Oven.clamps (o : Oven) : Clamp × Clamp := (o.doorP.clamp, o.doorC.clamp)

/-- What the law of R94 reads of the part: the base step and every door. -/
structure Clamping where
  base : Nat
  doors : List (Clamp × Clamp)

def State.clamping (s : State) : Clamping := ⟨s.du.baseStep, s.ovens.map Oven.clamps⟩

def Clamp.Lawful (c : Clamp) : Prop := c.step ≤ 15 ∧ c.learned ≤ 15 ∧ (c.state = .leaking → c.step = 15)

theorem doorLaw_iff (s : State) : DoorLaw s ↔
    s.clamping.base ≤ 15 ∧ ∀ x ∈ s.clamping.doors, x.1.Lawful ∧ x.2.Lawful := by
  simp only [State.clamping, List.forall_mem_map]
  exact ⟨fun law => ⟨law.base, law.doors⟩, fun law => ⟨law.1, law.2⟩⟩

/-- A state with the same clamping keeps the law. -/
theorem DoorLaw.of_clamping {s t : State} (law : DoorLaw s) (same : t.clamping = s.clamping) : DoorLaw t := by
  rw [doorLaw_iff, same]
  exact (doorLaw_iff s).mp law

/-! ### Updates that leave the clamping -/

theorem State.clamping_of_same {s t : State} (ovens : t.ovens = s.ovens) (du : t.du = s.du) : t.clamping = s.clamping := by
  rw [State.clamping, ovens, du]; rfl

section
variable (s : State)

/-- A record written with its doors clamped as they stood. -/
theorem State.clamping_setOven {n : Nat} {o : Oven} (same : o.clamps = (s.oven n).clamps) :
    (s.setOven n o).clamping = s.clamping := by
  have place : (s.ovens.set (n - 1) o).map Oven.clamps = s.ovens.map Oven.clamps := by
    rw [List.map_set, same, State.oven, List.getD_eq_getElem?_getD]
    refine List.ext_getElem? fun i => ?_
    rw [List.getElem?_set, List.getElem?_map]
    split_ifs with here inside
    · subst here
      simp only [List.length_map] at inside
      simp [inside]
    · subst here
      simp at inside
      simp [inside]
    · rfl
  simp only [State.clamping, State.setOven, State.withOvens, place]

/-- Every record written with its doors clamped as they stood. -/
theorem State.clamping_map_numbered {t : State} {f : Oven × Nat → Oven} (ovens : t.ovens = s.numbered.map f) (du : t.du = s.du)
    (same : ∀ x, (f x).clamps = x.1.clamps) : t.clamping = s.clamping := by
  have doors : (s.numbered.map f).map Oven.clamps = s.ovens.map Oven.clamps := by
    rw [List.map_map, show Oven.clamps ∘ f = Oven.clamps ∘ Prod.fst from funext same, ← List.map_map, State.numbered,
      List.zipIdx_map_fst]
  rw [State.clamping, ovens, du, doors]; rfl

/-- A fold of operations that each leave the clamping leaves it. -/
theorem clamping_foldl {α : Type} {f : State → α → State} (each : ∀ s a, (f s a).clamping = s.clamping) (l : List α) :
    ∀ s, (l.foldl f s).clamping = s.clamping := by
  induction l with
  | nil => exact fun _ => rfl
  | cons a l ih => exact fun s => (ih (f s a)).trans (each s a)

@[simp] theorem State.clamping_withCc (x : CokingClock) : (s.withCc x).clamping = s.clamping := rfl
@[simp] theorem State.clamping_withSu (x : ScheduleUnit) : (s.withSu x).clamping = s.clamping := rfl
@[simp] theorem State.clamping_withPu (x : PushUnit) : (s.withPu x).clamping = s.clamping := rfl
@[simp] theorem State.clamping_withQu (x : QuenchUnit) : (s.withQu x).clamping = s.clamping := rfl
@[simp] theorem State.clamping_withFl (x : FieldLink) : (s.withFl x).clamping = s.clamping := rfl
@[simp] theorem State.clamping_withSl (x : SupLink) : (s.withSl x).clamping = s.clamping := rfl
@[simp] theorem State.clamping_withBk (x : BatteryClock) : (s.withBk x).clamping = s.clamping := rfl
@[simp] theorem State.clamping_withDue (x : List Instr) : (s.withDue x).clamping = s.clamping := rfl
@[simp] theorem State.clamping_setCar (c : Car) (r : CarRecord) : (s.setCar c r).clamping = s.clamping := rfl
@[simp] theorem State.clamping_setPush (r : Option PushRecord) : (s.setPush r).clamping = s.clamping := rfl
@[simp] theorem State.clamping_withMain (m : MainRecord) : (s.withMain m).clamping = s.clamping := rfl
@[simp] theorem State.clamping_raise (b : NoticeBody) : (s.raise b).clamping = s.clamping := rfl
@[simp] theorem State.clamping_raiseAll (bs : List NoticeBody) : (s.raiseAll bs).clamping = s.clamping := rfl
@[simp] theorem State.clamping_bring (cs : List Instr) : (s.bring cs).clamping = s.clamping := rfl
@[simp] theorem State.clamping_bringOwed (cs : List Instr) : (s.bringOwed cs).clamping = s.clamping := rfl
@[simp] theorem State.clamping_issueAll (cs : List Outgoing) : (s.issueAll cs).clamping = s.clamping := rfl
@[simp] theorem State.clamping_issue (x : Node) (c : FieldCommand) : (s.issue x c).clamping = s.clamping := rfl

@[simp] theorem State.clamping_setPhase (n : Nat) (p : Phase) : (s.setPhase n p).clamping = s.clamping :=
  s.clamping_setOven rfl

/-! ### Valves -/

@[simp] theorem State.clamping_applyValve (n : Nat) (r : Valve × List Outgoing) : (s.applyValve n r).clamping = s.clamping :=
  s.clamping_setOven (n := n) (o := (s.oven n).setValve r.1) rfl
@[simp] theorem State.clamping_evalValve (n : Nat) : (s.evalValve n).clamping = s.clamping := s.clamping_applyValve n _
@[simp] theorem State.clamping_evalValves (ns : List Nat) : (s.evalValves ns).clamping = s.clamping :=
  clamping_foldl State.clamping_evalValve ns s
@[simp] theorem State.clamping_evalMain : s.evalMain.clamping = s.clamping := State.clamping_of_same (by simp) (by simp)

@[simp] theorem State.clamping_evalManual (n : Nat) : (s.evalManual n).clamping = s.clamping := by
  unfold State.evalManual
  dsimp only
  split_ifs <;> simp

@[simp] theorem State.clamping_evalMainManual : s.evalMainManual.clamping = s.clamping := by
  unfold State.evalMainManual State.sendMainManual
  split_ifs <;> simp

@[simp] theorem State.clamping_runLoop (n : Nat) : (s.runLoop n).clamping = s.clamping := by
  unfold State.runLoop
  dsimp only
  split <;> simp

@[simp] theorem State.clamping_takeSample (n : Nat) (e : OvenEntry) : (s.takeSample n e).clamping = s.clamping := by
  have recorded : (s.setOven n ((s.oven n).setValve ((s.oven n).valve.record e))).clamping = s.clamping := s.clamping_setOven rfl
  simp only [State.takeSample, State.clamping_runLoop]
  split_ifs
  · exact recorded
  · exact (State.clamping_applyValve ..).trans recorded

/-! ### The oven table -/

theorem Oven.cokeStep_clamps (o : Oven) (heat : Nat) : (o.cokeStep heat).clamps = o.clamps := by
  unfold Oven.cokeStep Oven.addStep Oven.soakStep
  split <;> [split_ifs; split_ifs; skip; skip; skip; skip; skip] <;> rfl

@[simp] theorem State.clamping_expireOven (n : Nat) : (s.expireOven n).clamping = s.clamping := by
  have written (o : Oven) (bs : List NoticeBody) (same : o.clamps = ((s.oven n).cokeStep s.cc.heat).clamps) :
      ((s.setOven n o).raiseAll bs).clamping = s.clamping :=
    s.clamping_setOven (same.trans (Oven.cokeStep_clamps _ _))
  simp only [State.expireOven]
  split
  · exact written _ _ rfl
  · rw [State.clamping_evalValve]
    exact written _ _ rfl

@[simp] theorem State.clamping_stepMinute : s.stepMinute.clamping = s.clamping :=
  clamping_foldl State.clamping_expireOven _ s.beginMinute

/-! ### Push start and candidate evaluation -/

@[simp] theorem State.clamping_moveCar (c : Car) (l : Location) (r : CarRecord) : (s.moveCar c l r).clamping = s.clamping :=
  State.clamping_of_same (by simp) (by simp)

@[simp] theorem State.clamping_startPush (n : Nat) (o : Origin) (c : Car) : (s.startPush n o c).clamping = s.clamping := by
  simp only [State.startPush, State.claimCar, State.trimSchedule, State.clamping_raise, State.clamping_issueAll,
    State.clamping_moveCar, State.clamping_withSu, State.clamping_evalValve]
  exact State.clamping_setOven (s.withPu _) rfl

@[simp] theorem State.clamping_tryPush (n : Nat) (o : Origin) : (s.tryPush n o).clamping = s.clamping := by
  unfold State.tryPush
  split <;> simp

@[simp] theorem State.clamping_passOver (n : Nat) : (s.passOver n).clamping = s.clamping := by
  unfold State.passOver
  split_ifs <;> rfl

@[simp] theorem State.clamping_judgeCursor (n : Nat) : (s.judgeCursor n).clamping = s.clamping := by
  unfold State.judgeCursor
  split_ifs
  · rfl
  · simp
  · split <;> simp

@[simp] theorem State.clamping_evaluate : s.evaluate.clamping = s.clamping := by
  unfold State.evaluate State.trySeries
  split_ifs
  · split
    · simp
    · split <;> simp
  · rfl

/-! ### The ends of a push -/

@[simp] theorem State.clamping_endPush (n : Nat) (silent : Bool) : (s.endPush n silent).clamping = s.clamping := by
  cases silent <;> simp

@[simp] theorem State.clamping_completePush (r : PushRecord) (silent : Bool) : (s.completePush r silent).clamping = s.clamping :=
  (State.clamping_endPush ..).trans (s.clamping_setOven (n := r.oven)
    (o := { s.oven r.oven with phase := .empty, progress := 0, lastPushNumber := r.number }) rfl)

@[simp] theorem State.clamping_returnReady (r : PushRecord) (x : Stage) (cause : AbortCause) (silent : Bool) :
    (s.returnReady r x cause silent).clamping = s.clamping := by
  simp [State.returnReady]

@[simp] theorem State.clamping_releaseCar (c : Car) : (s.releaseCar c).clamping = s.clamping := rfl

@[simp] theorem State.clamping_releaseClaimed (r : PushRecord) : (s.releaseClaimed r).clamping = s.clamping := by
  unfold State.releaseClaimed
  split_ifs <;> rfl

@[simp] theorem State.clamping_pauseSchedule (a b : Nat) : (s.pauseSchedule a b).clamping = s.clamping :=
  State.clamping_of_same (by simp) (by simp)

@[simp] theorem State.clamping_makeStall (r : PushRecord) (cause : AbortCause) (first : Option AbortCause) :
    (s.makeStall r cause first).clamping = s.clamping := by
  simp [State.makeStall]

@[simp] theorem State.clamping_enterRetreat (r : PushRecord) (cause : AbortCause) :
    (s.enterRetreat r cause).clamping = s.clamping := rfl

@[simp] theorem State.clamping_abortRetreat (r : PushRecord) (cause : AbortCause) :
    (s.abortRetreat r cause).clamping = s.clamping := by
  unfold State.abortRetreat
  split <;> simp

/-- An abort leaves the doors to their own reports, whatever its cause and stage (R70 to R75). -/
@[simp] theorem State.clamping_abortPush (cause : AbortCause) : (s.abortPush cause).clamping = s.clamping := by
  unfold State.abortPush
  split
  · rfl
  · split
    case h_3 => split_ifs <;> simp
    all_goals simp [State.undoPush, State.abortDoorsOn]

@[simp] theorem State.clamping_faultCar (c : Car) (cause : FaultCause) : (s.faultCar c cause).clamping = s.clamping := by
  unfold State.faultCar State.enterFaulted
  dsimp only
  split_ifs <;> simp

/-! ### The stages of a push -/

@[simp] theorem State.clamping_judgeSpot : s.judgeSpot.clamping = s.clamping := by
  unfold State.judgeSpot State.enterIsolate
  split
  · split_ifs <;> simp
  · rfl

@[simp] theorem State.clamping_judgeStroke (r : PushRecord) : (s.judgeStroke r).clamping = s.clamping := by
  unfold State.judgeStroke
  split_ifs
  · exact s.clamping_setOven rfl
  · rfl

@[simp] theorem State.clamping_dispatchCar (c : Car) : (s.dispatchCar c).clamping = s.clamping :=
  State.clamping_of_same (by simp) (by simp)

@[simp] theorem State.clamping_completeRam (r : PushRecord) : (s.completeRam r).clamping = s.clamping := by
  have handed : ((s.judgeStroke r).handOver r).clamping = s.clamping := by
    unfold State.handOver
    split_ifs <;> simp
  unfold State.completeRam
  dsimp only
  split <;> exact handed

@[simp] theorem State.clamping_judgeRam (r : PushRecord) : (s.judgeRam r).clamping = s.clamping := by
  unfold State.judgeRam
  dsimp only
  split_ifs <;> simp

@[simp] theorem State.clamping_sendLatch : s.sendLatch.clamping = s.clamping := by
  unfold State.sendLatch
  split
  · rfl
  · split_ifs <;> rfl

@[simp] theorem State.clamping_confirm (r : PushRecord) (e : OvenEntry) : (s.confirm r e).clamping = s.clamping := by
  unfold State.confirm
  split
  · rfl
  · split_ifs <;> simp
  · unfold State.completeDoorsOff
    split_ifs <;> simp
  · rfl
  · split_ifs <;> simp
  · split_ifs <;> simp [State.completeRetreat]

/-! ### Cars, tower and wharf -/

@[simp] theorem State.clamping_releaseTower : s.releaseTower.clamping = s.clamping := State.clamping_of_same (by simp) (by simp)
@[simp] theorem State.clamping_reserveBay (b : Nat) (c : Car) : (s.reserveBay b c).clamping = s.clamping :=
  State.clamping_of_same (by simp) (by simp)
@[simp] theorem State.clamping_freeBay (b : Nat) : (s.freeBay b).clamping = s.clamping :=
  State.clamping_of_same (by simp) (by simp)

@[simp] theorem State.clamping_arrive (c : Car) (l : Location) : (s.arrive c l).clamping = s.clamping := by
  unfold State.arrive State.arriveTower State.beginDump
  dsimp only
  split
  · simp
  · split_ifs <;> rfl
  · split <;> rfl
  all_goals rfl

@[simp] theorem State.clamping_loadCar (c : Car) : (s.loadCar c).clamping = s.clamping := by
  unfold State.loadCar
  dsimp only
  split
  · split_ifs <;> rfl
  · rfl

@[simp] theorem State.clamping_endDump (c : Car) : (s.endDump c).clamping = s.clamping := by
  unfold State.endDump State.fillBay
  dsimp only
  split <;> simp

@[simp] theorem State.clamping_judgeCar (c : Car) : (s.judgeCar c).clamping = s.clamping := by
  unfold State.judgeCar State.judgeStatus
  dsimp only
  split_ifs
  case neg => split <;> simp
  all_goals simp

@[simp] theorem State.clamping_leaveTower (c : Car) : (s.leaveTower c).clamping = s.clamping := by
  unfold State.leaveTower
  split_ifs <;> simp

@[simp] theorem State.clamping_seekBay (c : Car) : (s.seekBay c).clamping = s.clamping := by
  unfold State.seekBay
  split <;> simp

@[simp] theorem State.clamping_haltCar (c : Car) : (s.haltCar c).clamping = s.clamping := by
  unfold State.haltCar
  split_ifs <;> rfl

@[simp] theorem State.clamping_resumeCar (c : Car) : (s.resumeCar c).clamping = s.clamping := by
  unfold State.resumeCar
  split <;> rfl

@[simp] theorem State.clamping_endReservation (c : Car) : (s.endReservation c).clamping = s.clamping := by
  unfold State.endReservation State.fillBay
  split
  · rfl
  · dsimp only
    split_ifs <;> simp

@[simp] theorem State.clamping_clearStallClaim (c : Car) : (s.clearStallClaim c).clamping = s.clamping := by
  unfold State.clearStallClaim
  split_ifs <;> rfl

@[simp] theorem State.clamping_recoverCar (c : Car) : (s.recoverCar c).clamping = s.clamping := by
  simp [State.recoverCar]

@[simp] theorem State.clamping_releaseStalled (r : StallRecord) : (s.releaseStalled r).clamping = s.clamping := by
  unfold State.releaseStalled
  split_ifs <;> simp

@[simp] theorem State.clamping_clearStall (r : StallRecord) (pushed : Bool) : (s.clearStall r pushed).clamping = s.clamping := by
  have unstalled (o : Oven) : (o.unstall pushed r.number).clamps = o.clamps := by cases pushed <;> rfl
  have written : (s.setOven r.oven ((s.oven r.oven).unstall pushed r.number)).clamping = s.clamping :=
    s.clamping_setOven (unstalled _)
  simp [State.clearStall, written]

end

end Sys2Proof.Machine

/-!
SUPPORT. The doors under the law of R94: what DU does with one door keeps it lawful, and so every event of DU keeps the law.
-/

namespace Sys2Proof.Machine

/-! ### One door (R90 to R92, R97, R98, R103) -/

section
variable {d : Door} {l : DoorLimits} (n : Nat) (x : Side)

/-- A door seats within 0..15, since the base step and the learned step lie there (R91). -/
theorem Door.seatStep_le (lawful : d.Lawful) (base : l.baseStep ≤ 15) : d.seatStep l ≤ 15 :=
  max_le base ((Nat.sub_le _ _).trans lawful.2.1)

theorem Door.remove_lawful (lawful : d.Lawful) (expected : Bool) : (d.remove l n x expected).door.Lawful :=
  ⟨lawful.1, lawful.2.1, nofun⟩

theorem Door.seat_lawful (lawful : d.Lawful) (base : l.baseStep ≤ 15) : (d.seat l n x).door.Lawful :=
  ⟨Door.seatStep_le lawful base, lawful.2.1, nofun⟩

theorem Door.sealInConfig_lawful (lawful : d.Lawful) (base : l.baseStep ≤ 15) : (d.sealInConfig l n x).door.Lawful :=
  ⟨Door.seatStep_le lawful base, lawful.2.1, nofun⟩

/-- A SEALED door is raised only below step 15, and so becomes LEAKING only at step 15 (R97). -/
theorem Door.judgeSealed_lawful (lawful : d.Lawful) : (d.judgeSealed l n x).door.Lawful := by
  obtain ⟨step, learned, leaking⟩ := lawful
  unfold Door.judgeSealed
  dsimp only
  split_ifs with few below
  · exact ⟨step, learned, leaking⟩
  · exact ⟨below, below, fun h => absurd ((leaking h) ▸ below) (lt_irrefl 15)⟩
  · exact ⟨step, learned, fun _ => le_antisymm step (not_lt.mp below)⟩

theorem Door.judgeLeaking_lawful (lawful : d.Lawful) : (d.judgeLeaking l n x).door.Lawful := by
  unfold Door.judgeLeaking
  dsimp only
  split_ifs
  · exact lawful
  · exact ⟨lawful.1, lawful.2.1, nofun⟩

/-- A report in RUN leaves a door lawful, whatever its state (section 4.2's table). -/
theorem Door.takeRun_lawful (lawful : d.Lawful) (base : l.baseStep ≤ 15) (expected present : Bool) :
    (d.takeRun l n x expected present).door.Lawful := by
  unfold Door.takeRun
  split
  case h_1 | h_6 => exact lawful
  case h_2 | h_3 | h_4 => exact Door.remove_lawful n x lawful expected
  case h_5 => exact Door.seat_lawful n x lawful base
  case h_7 => exact Door.judgeSealed_lawful n x lawful
  case h_8 => exact Door.judgeLeaking_lawful n x lawful

/-- A report in CONFIG leaves a door lawful (R103). -/
theorem Door.takeConfig_lawful (lawful : d.Lawful) (base : l.baseStep ≤ 15) (present : Bool) :
    (d.takeConfig l n x present).door.Lawful := by
  unfold Door.takeConfig
  split
  case h_1 | h_7 | h_8 => exact lawful
  case h_2 | h_3 | h_4 => exact ⟨lawful.1, lawful.2.1, nofun⟩
  case h_5 | h_6 => exact Door.sealInConfig_lawful n x lawful base

end

/-! ### The doors of the part -/

section
variable {s : State}

theorem Oven.reset_door_lawful (x : Side) : (Oven.reset.door x).Lawful := by
  cases x <;> exact ⟨by decide, by decide, nofun⟩

theorem DoorLaw.door (law : DoorLaw s) (n : Nat) (x : Side) : ((s.oven n).door x).Lawful := by
  rw [State.oven, List.getD_eq_getElem?_getD]
  cases present : s.ovens[n - 1]? with
  | none => exact Oven.reset_door_lawful x
  | some o =>
    have doors := law.doors o (List.mem_of_getElem? present)
    cases x with
    | p => exact doors.1
    | c => exact doors.2

/-- One lawful door written. -/
theorem DoorLaw.setDoor (law : DoorLaw s) (n : Nat) (x : Side) {d : Door} (lawful : d.Lawful) :
    DoorLaw (s.setOven n ((s.oven n).setDoor x d)) where
  base := law.base
  doors o ho := by
    rcases List.mem_or_eq_of_mem_set ho with kept | rfl
    · exact law.doors o kept
    · cases x with
      | p => exact ⟨lawful, law.door n .c⟩
      | c => exact ⟨law.door n .p, lawful⟩

/-- One door's step at an event, with its commands, notices and valve evaluation (R101, R112). -/
theorem DoorLaw.applyDoor (law : DoorLaw s) (n : Nat) (x : Side) {a : DoorStep} (lawful : a.door.Lawful) :
    DoorLaw (s.applyDoor n x a) := by
  have written : DoorLaw (((s.setOven n ((s.oven n).setDoor x a.door)).issueAll a.commands).raiseAll a.notices) :=
    (law.setDoor n x lawful).of_clamping rfl
  unfold State.applyDoor
  dsimp only
  split_ifs
  · exact written
  · exact written.of_clamping (State.clamping_evalValve ..)

theorem DoorLaw.takeDoor (law : DoorLaw s) (n : Nat) (x : Side) (byPush : Bool) (e : OvenEntry) :
    DoorLaw (s.takeDoor n x byPush e) := by
  have recorded : Door.Lawful { (s.oven n).door x with leakLevel := leakOf e x } := law.door n x
  refine law.applyDoor n x ?_
  split_ifs
  · exact Door.takeRun_lawful n x recorded law.base _ _
  · exact Door.takeConfig_lawful n x recorded law.base _

theorem DoorLaw.takeDoors (law : DoorLaw s) (m : Fin 12) (entries : List OvenEntry) (n : Nat) :
    DoorLaw (s.takeDoors m entries n) := by
  unfold State.takeDoors
  split
  · exact (law.takeDoor n .p _ _).takeDoor n .c _ _
  · exact law

theorem DoorLaw.foldl {α : Type} {f : State → α → State} (each : ∀ s a, DoorLaw s → DoorLaw (f s a)) (l : List α) :
    ∀ s, DoorLaw s → DoorLaw (l.foldl f s) := by
  induction l with
  | nil => exact fun _ law => law
  | cons a l ih => exact fun s law => ih (f s a) (each s a law)

/-- An oven node report keeps the law at each of its doors (R89). -/
theorem doorLaw_ovenReport (m : Fin 12) (entries : List OvenEntry) (law : DoorLaw s) : DoorLaw (ovenReport m entries s) := by
  refine (DoorLaw.foldl (fun t n law => law.takeDoors m entries n) (s.served m) s law).of_clamping ?_
  unfold ovenReport State.dropTaken
  split_ifs <;> rfl

theorem doorLaw_settleTimerExpiry (n : Nat) (x : Side) (law : DoorLaw s) : DoorLaw (settleTimerExpiry n x s) := by
  unfold settleTimerExpiry
  dsimp only
  split_ifs
  · exact law.applyDoor n x ⟨(law.door n x).1, (law.door n x).2.1, nofun⟩
  · exact law.setDoor n x (law.door n x)
  · exact law

theorem doorLaw_doorOffTimerExpiry (n : Nat) (x : Side) (law : DoorLaw s) : DoorLaw (doorOffTimerExpiry n x s) := by
  unfold doorOffTimerExpiry
  dsimp only
  split_ifs
  · exact law.applyDoor n x (law.door n x)
  · exact law.setDoor n x (law.door n x)
  · exact law

end

/-! ### START and DOOR_SERVICE write no clamp -/

section
variable (s : State) (n : Nat) (x : Side)

/-- A door written with its clamp as it stood. -/
theorem State.clamping_setDoor {d : Door} (same : d.clamp = ((s.oven n).door x).clamp) :
    (s.setOven n ((s.oven n).setDoor x d)).clamping = s.clamping := by
  refine s.clamping_setOven ?_
  cases x with
  | p => exact Prod.ext same rfl
  | c => exact Prod.ext rfl same

theorem State.clamping_startDoor : (s.startDoor n x).clamping = s.clamping := by
  unfold State.startDoor
  dsimp only
  split_ifs
  · rfl
  · exact s.clamping_setDoor n x rfl
  · exact s.clamping_setDoor n x rfl

@[simp] theorem State.clamping_startDoors : s.startDoors.clamping = s.clamping :=
  clamping_foldl (fun t n => (State.clamping_startDoor _ n .c).trans (t.clamping_startDoor n .p)) _ s

end

end Sys2Proof.Machine

/-!
SUPPORT. What each request leaves of the clamping, and so of the law of R94.
-/

namespace Sys2Proof.Machine

section
variable (s : State)

/-! ### The oven table and the schedule (chapters 1 and 2) -/

theorem clamping_setHeat (x : Byte) (v : Half) : (setHeat x v s).state.clamping = s.clamping := by
  unfold setHeat
  split_ifs <;> rfl

theorem clamping_selectHeat (x : Byte) : (selectHeat x s).state.clamping = s.clamping := by
  unfold selectHeat
  split_ifs <;> rfl

theorem clamping_setTrim (n : Byte) (t : Half) (i o : Byte) : (setTrim n t i o s).state.clamping = s.clamping := by
  unfold setTrim
  dsimp only
  split_ifs
  · rfl
  · rfl
  · exact s.clamping_setOven rfl

theorem clamping_setPlan (n x : Byte) : (setPlan n x s).state.clamping = s.clamping := by
  unfold setPlan
  dsimp only
  split_ifs
  · rfl
  · exact s.clamping_setOven rfl

theorem clamping_chargeBegin (n : Byte) : (chargeBegin n s).state.clamping = s.clamping := by
  unfold chargeBegin
  dsimp only
  split
  · rfl
  · exact (State.clamping_evalValve ..).trans (s.clamping_setOven rfl)

theorem clamping_chargeEnd (n : Byte) : (chargeEnd n s).state.clamping = s.clamping := by
  unfold chargeEnd
  dsimp only
  split_ifs
  case neg => exact (State.clamping_evalValve ..).trans (s.clamping_setOven rfl)
  all_goals rfl

theorem clamping_queryOven (n : Byte) : (queryOven n s).state.clamping = s.clamping := by
  unfold queryOven
  dsimp only
  split_ifs <;> rfl

theorem clamping_setSeries (k j n : Byte) : (setSeries k j n s).state.clamping = s.clamping := by
  unfold setSeries
  split_ifs <;> rfl

theorem clamping_setScheduleMode (m : Byte) : (setScheduleMode m s).state.clamping = s.clamping := by
  unfold setScheduleMode
  split
  · rfl
  · split <;> rfl

theorem clamping_queueOutOfTurn (n : Byte) : (queueOutOfTurn n s).state.clamping = s.clamping := by
  unfold queueOutOfTurn
  dsimp only
  split <;> rfl

theorem clamping_withdraw (n : Byte) : (withdraw n s).state.clamping = s.clamping := by
  unfold withdraw
  dsimp only
  split_ifs <;> rfl

theorem clamping_setExclusionFrame (g n : Byte) : (setExclusionFrame g n s).state.clamping = s.clamping := by
  unfold setExclusionFrame
  split_ifs <;> rfl

theorem clamping_writeExclusionWord (i : Byte) (w : Half) : (writeExclusionWord i w s).state.clamping = s.clamping := by
  unfold writeExclusionWord
  split_ifs <;> rfl

/-! ### Pushes and doors (chapters 3 and 4) -/

theorem clamping_pushNow (n : Byte) : (pushNow n s).state.clamping = s.clamping := by
  unfold pushNow
  dsimp only
  split
  · rfl
  · split
    · rfl
    · exact s.clamping_startPush _ _ _

theorem clamping_abortPush (number : Half) : (abortPush number s).state.clamping = s.clamping := by
  unfold abortPush
  split_ifs
  · rfl
  · split
    · rfl
    · split_ifs
      · rfl
      · rfl
      · exact s.clamping_abortPush _

theorem clamping_clearStall (result : Byte) : (clearStall result s).state.clamping = s.clamping := by
  unfold clearStall
  split_ifs
  · rfl
  · split
    · rfl
    · split
      · rfl
      · exact s.clamping_clearStall _ _

theorem clamping_doorService (n x a : Byte) : (doorService n x a s).state.clamping = s.clamping := by
  unfold doorService
  dsimp only
  split_ifs
  · rfl
  · split
    · split
      · rfl
      · exact s.clamping_setDoor _ _ rfl
    · rfl

theorem clamping_queryDoors (n : Byte) : (queryDoors n s).state.clamping = s.clamping := by
  unfold queryDoors
  dsimp only
  split_ifs <;> rfl

/-- SET_DOOR_LIMITS clamps the base step to 0..15 and leaves every door (R105). -/
theorem doorLaw_setDoorLimits {s : State} (law : DoorLaw s) (off : Half) (settle base threshold persistence : Byte) :
    DoorLaw (setDoorLimits off settle base threshold persistence s).state where
  base := max_le (by decide) (min_le_left _ _)
  doors := law.doors

/-! ### Pressure and cars (chapters 5 and 6) -/

theorem clamping_setProfilePoint (i : Byte) (v : Half) : (setProfilePoint i v s).state.clamping = s.clamping := by
  unfold setProfilePoint
  split_ifs <;> rfl

theorem clamping_setValveManual (n : Byte) (p : Half) : (setValveManual n p s).state.clamping = s.clamping := by
  unfold setValveManual
  dsimp only
  split_ifs
  · rfl
  · exact (State.clamping_evalManual ..).trans (s.clamping_setOven rfl)

theorem clamping_releaseValve (n : Byte) : (releaseValve n s).state.clamping = s.clamping := by
  unfold releaseValve
  dsimp only
  split_ifs
  · rfl
  · rfl
  · exact (State.clamping_evalValve ..).trans (s.clamping_setOven rfl)

theorem clamping_setMain (p : Half) (g k l a : Byte) (x : Half) : (setMain p g k l a x s).state.clamping = s.clamping := by
  unfold setMain
  split
  · rfl
  · exact State.clamping_evalMainManual _

theorem clamping_queryPressure (n : Byte) : (queryPressure n s).state.clamping = s.clamping := by
  unfold queryPressure
  split_ifs <;> rfl

theorem clamping_setZones (z : Byte) (es : List (Byte × Byte)) : (setZones z es s).state.clamping = s.clamping := by
  unfold setZones
  split
  · rfl
  · split
    · rfl
    · split <;> rfl

theorem clamping_carServiceIn (c : Byte) : (carServiceIn c s).state.clamping = s.clamping := by
  unfold carServiceIn
  split
  · rfl
  · split_ifs
    · rfl
    · rfl
    · exact State.clamping_evaluate _

theorem clamping_carServiceOut (c : Byte) : (carServiceOut c s).state.clamping = s.clamping := by
  unfold carServiceOut
  split
  · rfl
  · dsimp only
    split
    case h_3 => exact s.clamping_recoverCar _
    all_goals rfl

/-! ### Snapshots and set-up (chapters 9 and 10) -/

theorem clamping_setTime (m : Word) : (setTime m s).state.clamping = s.clamping := by
  unfold setTime
  split_ifs <;> rfl

theorem clamping_hold (f c m : Byte) : (hold f c m s).state.clamping = s.clamping := by
  unfold hold
  dsimp only
  split_ifs
  case neg => exact s.clamping_map_numbered rfl rfl fun x => by split <;> rfl
  all_goals rfl

theorem clamping_collect : (collect s).state.clamping = s.clamping :=
  s.clamping_map_numbered rfl rfl fun x => by split <;> rfl

theorem clamping_releaseHolds : (releaseHolds s).state.clamping = s.clamping := by
  have doors : (s.ovens.map Oven.release).map Oven.clamps = s.ovens.map Oven.clamps := by rw [List.map_map]; rfl
  change Clamping.mk s.du.baseStep ((s.ovens.map Oven.release).map Oven.clamps) = _
  rw [doors]; rfl

theorem clamping_setBattery (n : Byte) : (setBattery n s).state.clamping = s.clamping := by
  unfold setBattery
  split_ifs <;> rfl

theorem clamping_ovenLoad (n p : Byte) (x m : Word) (k : Half) : (ovenLoad n p x m k s).state.clamping = s.clamping := by
  have loaded (o : Oven) (p : Phase) (x k l : Nat) (c : Word) : (o.load p x k l c).clamps = o.clamps := by cases p <;> rfl
  unfold ovenLoad
  dsimp only
  split_ifs
  · rfl
  · rfl
  · split
    · rfl
    · exact (State.clamping_evalValve ..).trans (s.clamping_setOven (loaded ..))

theorem clamping_start : (start s).state.clamping = s.clamping := by
  unfold start
  split
  · rfl
  · simp [State.enterRun, State.reply]

theorem clamping_stop : (stop s).state.clamping = s.clamping := by
  unfold stop
  split_ifs
  · rfl
  · rfl
  · simp [State.enterConfig, State.reply]

end

/-- Every request keeps the law of R94; SET_DOOR_LIMITS alone writes what it reads. -/
theorem doorLaw_ownerOf (c : Instr) {s : State} (law : DoorLaw s) : DoorLaw (ownerOf c s).state := by
  cases c with
  | setDoorLimits => exact doorLaw_setDoorLimits law _ _ _ _ _
  | setHeat => exact law.of_clamping (clamping_setHeat s _ _)
  | selectHeat => exact law.of_clamping (clamping_selectHeat s _)
  | setTrim => exact law.of_clamping (clamping_setTrim s _ _ _ _)
  | setPlan => exact law.of_clamping (clamping_setPlan s _ _)
  | chargeBegin => exact law.of_clamping (clamping_chargeBegin s _)
  | chargeEnd => exact law.of_clamping (clamping_chargeEnd s _)
  | queryOven => exact law.of_clamping (clamping_queryOven s _)
  | setSeries => exact law.of_clamping (clamping_setSeries s _ _ _)
  | setScheduleMode => exact law.of_clamping (clamping_setScheduleMode s _)
  | queueOutOfTurn => exact law.of_clamping (clamping_queueOutOfTurn s _)
  | withdraw => exact law.of_clamping (clamping_withdraw s _)
  | setExclusionFrame => exact law.of_clamping (clamping_setExclusionFrame s _ _)
  | writeExclusionWord => exact law.of_clamping (clamping_writeExclusionWord s _ _)
  | pushNow => exact law.of_clamping (clamping_pushNow s _)
  | abortPush => exact law.of_clamping (clamping_abortPush s _)
  | clearStall => exact law.of_clamping (clamping_clearStall s _)
  | doorService => exact law.of_clamping (clamping_doorService s _ _ _)
  | queryDoors => exact law.of_clamping (clamping_queryDoors s _)
  | setProfilePoint => exact law.of_clamping (clamping_setProfilePoint s _ _)
  | setValveManual => exact law.of_clamping (clamping_setValveManual s _ _)
  | releaseValve => exact law.of_clamping (clamping_releaseValve s _)
  | setMain => exact law.of_clamping (clamping_setMain s _ _ _ _ _ _)
  | queryPressure => exact law.of_clamping (clamping_queryPressure s _)
  | setZones => exact law.of_clamping (clamping_setZones s _ _)
  | carServiceIn => exact law.of_clamping (clamping_carServiceIn s _)
  | carServiceOut => exact law.of_clamping (clamping_carServiceOut s _)
  | setTime => exact law.of_clamping (clamping_setTime s _)
  | hold => exact law.of_clamping (clamping_hold s _ _ _)
  | collect => exact law.of_clamping (clamping_collect s)
  | releaseHolds => exact law.of_clamping (clamping_releaseHolds s)
  | setBattery => exact law.of_clamping (clamping_setBattery s _)
  | ovenLoad => exact law.of_clamping (clamping_ovenLoad s _ _ _ _ _)
  | start => exact law.of_clamping (clamping_start s)
  | stop => exact law.of_clamping (clamping_stop s)
  | _ => exact law.of_clamping rfl

end Sys2Proof.Machine

/-!
SUPPORT. A law that reads neither SL, nor the events brought about, nor the waiting commands: what keeps it in the requests' owners
keeps it through the supervisory link (R185 to R193) and through the taking of an event.
-/

namespace Sys2Proof.Machine

/-- A law that reads neither SL, nor the events brought about, nor the waiting commands. -/
structure LinkFree (Q : State → Prop) : Prop where
  sl {s : State} (x : SupLink) : Q s → Q (s.withSl x)
  due {s : State} (x : List Instr) : Q s → Q (s.withDue x)
  pending {s : State} (x : List Instr) : Q s → Q (s.withPending x)

namespace LinkFree

variable {Q : State → Prop} {s t : State} {c : Instr} {f : State → State}

/-! ### Events taken -/

theorem event (free : LinkFree Q) (acts : ∀ s, Q s → Q (f s)) (h : s.event c f = .next t) (law : Q s) : Q t := by
  unfold State.event at h
  cases h
  split_ifs
  · exact law
  · exact acts _ (free.due _ law)

theorem checked (free : LinkFree Q) (acts : ∀ s, Q s → Q (f s)) (h : s.checked c f = .next t) (law : Q s) : Q t := by
  unfold State.checked at h
  split_ifs at h
  exact free.event acts h law

theorem step (free : LinkFree Q) (acts : ∀ {c s t}, exec c s = .next t → Q s → Q t) (h : step s = .next t) (law : Q s) :
    Q t := by
  unfold Machine.step at h
  split at h
  · exact acts h (free.pending _ law)
  · exact acts h law
  · cases h; exact law

/-! ### Requests -/

section
variable {owner : State → Answer} (g : Frame)

theorem takeRequest (free : LinkFree Q) (owned : ∀ s, Q s → Q (owner s).state) (law : Q s) : Q (takeRequest g owner s) := by
  unfold Machine.takeRequest
  split_ifs
  · exact free.sl _ law
  · exact free.sl _ (owned _ (free.sl _ law))

theorem acceptFrame (free : LinkFree Q) (owned : ∀ s, Q s → Q (owner s).state) (law : Q s) : Q (acceptFrame g owner s) := by
  unfold Machine.acceptFrame
  split
  · exact free.takeRequest g owned law
  · exact free.sl _ law
  · exact free.sl _ law

theorem hostRequest (free : LinkFree Q) (owned : ∀ s, Q s → Q (owner s).state) (h : hostRequest c owner s = .next t)
    (law : Q s) : Q t := by
  unfold Machine.hostRequest at h
  split at h
  · next g _ => exact free.checked (fun _ law => free.acceptFrame g owned law) h law
  · cases h

end

/-! ### The supervisory link -/

section
variable (free : LinkFree Q) (owned : ∀ (c : Instr) (s : State), Q s → Q (ownerOf c s).state)

theorem ownerOfFrame (owned : ∀ (c : Instr) (s : State), Q s → Q (ownerOf c s).state) (g : Frame) (s : State) (law : Q s) :
    Q (ownerOfFrame g s).state := by
  unfold Machine.ownerOfFrame
  cases decodeRequest g with
  | request c => exact owned c s law
  | badValue | badLength | unknownKind => exact law

include free

theorem supSilence (s : State) (law : Q s) : Q (supSilence s) := by
  unfold Machine.supSilence
  split
  · exact law
  · exact free.sl _ law
  · exact free.sl _ law

theorem noticeSent (s : State) (law : Q s) : Q (noticeSent s) := by
  unfold Machine.noticeSent
  split
  · exact free.sl _ (free.sl _ law)
  · exact law
  · exact law

include owned

theorem supFrameComplete (g : Frame) (received : Half) (s : State) (law : Q s) : Q (supFrameComplete g received s) := by
  unfold Machine.supFrameComplete
  split_ifs
  · exact free.acceptFrame g (ownerOfFrame owned g) (free.sl _ law)
  · exact free.sl _ law

theorem supervisoryByteReceived (b : Byte) (s : State) (law : Q s) : Q (supervisoryByteReceived b s) := by
  unfold Machine.supervisoryByteReceived State.supCollect
  split
  · exact free.sl _ law
  · exact law
  · split_ifs
    · exact free.sl _ law
    · split
      · exact free.supFrameComplete owned _ _ s law
      · exact free.sl _ law

theorem takeSpare (s : State) (law : Q s) : Q s.takeSpare := by
  unfold State.takeSpare
  split
  · next g _ => exact free.takeRequest g (ownerOfFrame owned g) (free.sl _ law)
  · exact law

theorem replySent (s : State) (law : Q s) : Q (replySent s) := by
  unfold Machine.replySent
  split_ifs
  · exact free.sl _ (free.takeSpare owned _ (free.sl _ law))
  · exact law

end

end LinkFree

end Sys2Proof.Machine

/-!
SUPPORT. What each event leaves of the clamping, and the law of R94 over every step.
-/

namespace Sys2Proof.Machine

section
variable (s : State)

/-! ### Reports (chapters 3, 5 and 6) -/

theorem clamping_pusherReport (x : PusherReport) : (pusherReport x s).clamping = s.clamping := by
  unfold pusherReport
  dsimp only
  split
  · rfl
  · split
    · exact State.clamping_judgeSpot _
    · exact State.clamping_judgeRam _ _
    all_goals rfl

theorem clamping_guideReport (x : GuideReport) : (guideReport x s).clamping = s.clamping :=
  (State.clamping_judgeSpot _).trans (State.clamping_sendLatch _)

theorem clamping_stageConfirmation (m : Fin 12) (entries : List OvenEntry) :
    (stageConfirmation m entries s).clamping = s.clamping := by
  unfold stageConfirmation
  split
  · rfl
  · split
    · rfl
    · exact State.clamping_confirm _ _ _

theorem clamping_carReport (c : Car) (x : CarReport) : (carReport c x s).clamping = s.clamping :=
  State.clamping_judgeCar _ c

theorem clamping_towerReport (x : TowerReport) : (towerReport x s).clamping = s.clamping := by
  unfold towerReport
  dsimp only
  split
  · split_ifs <;> rfl
  · rfl

theorem clamping_mainReport (x : MainReport) : (mainReport x s).clamping = s.clamping := by
  have loop (t : State) : t.runMainLoop.clamping = t.clamping := by
    unfold State.runMainLoop
    dsimp only
    split <;> rfl
  have turned (t : State) (m : ValveMode) : (t.turnMain m).clamping = t.clamping := State.clamping_of_same (by simp) (by simp)
  unfold mainReport
  dsimp only
  rw [loop]
  split_ifs
  · rfl
  · exact turned _ _

theorem clamping_ovenSample (m : Fin 12) (entries : List OvenEntry) : (ovenSample m entries s).clamping = s.clamping :=
  clamping_foldl (fun t n => by split <;> simp) _ s

/-! ### Silences, returns and ESTOP# -/

theorem clamping_ovenNodeSilence (m : Fin 12) : (ovenNodeSilence m s).clamping = s.clamping :=
  clamping_foldl (fun t n => t.clamping_applyValve n _) _ s

theorem clamping_mainNodeSilence : (mainNodeSilence s).clamping = s.clamping :=
  State.clamping_of_same (by simp [mainNodeSilence, State.setFloor]) (by simp [mainNodeSilence, State.setFloor])

theorem clamping_mainNodeReturn : (mainNodeReturn s).clamping = s.clamping :=
  State.clamping_of_same (by simp [mainNodeReturn, State.setFloor]) (by simp [mainNodeReturn, State.setFloor])

theorem clamping_silenceAtSu (x : Node) : (silenceAtSu x s).clamping = s.clamping := by
  unfold silenceAtSu
  split_ifs <;> simp

theorem clamping_carNodeSilence (c : Car) : (carNodeSilence c s).clamping = s.clamping := by
  unfold carNodeSilence
  split_ifs <;> simp

theorem clamping_estopAssertion : (estopAssertion s).clamping = s.clamping := by
  unfold estopAssertion
  split_ifs <;> rfl

theorem clamping_estopRelease : (estopRelease s).clamping = s.clamping := by
  unfold estopRelease
  split_ifs <;> rfl

theorem clamping_estopAtQu : (estopAtQu s).clamping = s.clamping := by
  simp [estopAtQu]

theorem clamping_estopReleaseAtQu : (estopReleaseAtQu s).clamping = s.clamping := by
  simp [estopReleaseAtQu]

/-! ### The field link (chapter 7) -/

theorem clamping_silenceWindowExpiry (x : Node) : (silenceWindowExpiry x s).clamping = s.clamping := by
  unfold silenceWindowExpiry
  split_ifs <;> rfl

theorem clamping_fieldFrameReceived (id kind : Byte) (body : List Byte) (received : Half) :
    (fieldFrameReceived id kind body received s).clamping = s.clamping := by
  have refreshed (t : State) (x : Node) : (t.refresh x).clamping = t.clamping := by
    unfold State.refresh
    dsimp only
    split <;> rfl
  unfold fieldFrameReceived State.takeFieldFrame
  split_ifs
  · rfl
  · rfl
  · split
    · rfl
    · split_ifs
      · split
        · simp [State.takeReport, State.fieldReceive, refreshed, clamping_silenceWindowExpiry]
        · rfl
      · rfl

theorem clamping_fieldByteReceived (b : Byte) : (fieldByteReceived b s).clamping = s.clamping := by
  unfold fieldByteReceived State.fieldCollect
  split
  · rfl
  · split
    · rfl
    · rfl
    · split
      · rfl
      · split
        · exact clamping_fieldFrameReceived s _ _ _ _
        · rfl

theorem clamping_fieldLineIdle : (fieldLineIdle s).clamping = s.clamping := by
  unfold fieldLineIdle
  split_ifs <;> rfl

theorem clamping_fieldFrameSent : (fieldFrameSent s).clamping = s.clamping := by
  unfold fieldFrameSent
  split_ifs <;> rfl

/-! ### Battery time and the timers -/

theorem State.clamping_tickRun : s.tickRun.clamping = s.clamping :=
  s.clamping_map_numbered rfl rfl fun x => by split <;> rfl

theorem clamping_batterySecond : (batterySecond s).clamping = s.clamping := by
  unfold batterySecond
  dsimp only
  rw [State.clamping_bringOwed]
  split_ifs
  · exact State.clamping_tickRun _
  · rfl

theorem clamping_slotCarry : (slotCarry s).clamping = s.clamping := by
  unfold slotCarry
  dsimp only
  split_ifs <;> simp

theorem clamping_cokeMinuteExpiry : (cokeMinuteExpiry s).clamping = s.clamping := by
  unfold cokeMinuteExpiry
  split_ifs <;> simp

theorem clamping_chargeTimerExpiry (n : Nat) : (chargeTimerExpiry n s).clamping = s.clamping := by
  unfold chargeTimerExpiry
  dsimp only
  split_ifs
  · exact s.clamping_setOven (n := n) (o := { s.oven n with chargeTimer := none, chargeLong := true }) rfl
  · exact s.clamping_setOven rfl
  · rfl

theorem clamping_stageTimerExpiry : (stageTimerExpiry s).clamping = s.clamping := by
  unfold stageTimerExpiry
  split
  · rfl
  · split_ifs <;> simp

theorem clamping_quenchTimerExpiry (c : Car) : (quenchTimerExpiry c s).clamping = s.clamping := by
  unfold quenchTimerExpiry
  dsimp only
  split_ifs <;> rfl

theorem clamping_drainTimerExpiry (c : Car) : (drainTimerExpiry c s).clamping = s.clamping := by
  unfold drainTimerExpiry
  dsimp only
  split_ifs <;> simp

theorem clamping_dumpTimerExpiry (c : Car) : (dumpTimerExpiry c s).clamping = s.clamping := by
  unfold dumpTimerExpiry
  dsimp only
  split_ifs <;> simp

theorem clamping_bayHoldTimerExpiry (b : Nat) : (bayHoldTimerExpiry b s).clamping = s.clamping := by
  unfold bayHoldTimerExpiry
  split_ifs <;> simp

theorem clamping_travelTimerExpiry (c : Car) : (travelTimerExpiry c s).clamping = s.clamping := by
  unfold travelTimerExpiry
  dsimp only
  split_ifs <;> simp

theorem clamping_hotCokeTimerExpiry (c : Car) : (hotCokeTimerExpiry c s).clamping = s.clamping := by
  unfold hotCokeTimerExpiry
  dsimp only
  split_ifs <;> simp

end

/-! ### Reset (R210) -/

theorem doorLaw_takeReset (s : State) (baud : Baud) (estop : Bool) : DoorLaw (s.takeReset baud estop) where
  base := show (4 : Nat) ≤ 15 by decide
  doors o ho := by
    have fresh : o = Oven.reset := List.eq_of_mem_replicate (show o ∈ List.replicate 96 Oven.reset from ho)
    exact fresh ▸ ⟨Oven.reset_door_lawful .p, Oven.reset_door_lawful .c⟩

theorem doorLaw_resetReleased {s : State} (law : DoorLaw s) (b1 b0 low : Bool) : DoorLaw (resetReleased b1 b0 low s) := by
  unfold resetReleased
  split_ifs
  · exact doorLaw_takeReset s _ _
  · exact law

theorem doorLaw_powerUp (s : State) (high b1 b0 low : Bool) : DoorLaw (powerUp high b1 b0 low s) := by
  unfold powerUp
  dsimp only
  split_ifs
  · exact doorLaw_takeReset s _ _
  · exact (doorLaw_takeReset s (baudOf b1 b0) low).of_clamping rfl

/-! ### The step -/

theorem doorLaw_linkFree : LinkFree DoorLaw where
  sl _ law := law.of_clamping (State.clamping_withSl ..)
  due _ law := law.of_clamping (State.clamping_withDue ..)
  pending _ law := law.of_clamping rfl

section
variable {s t : State} {c : Instr} {f : State → State}

theorem DoorLaw.event_of_clamping (law : DoorLaw s) (keeps : ∀ s, (f s).clamping = s.clamping) (h : s.event c f = .next t) :
    DoorLaw t :=
  doorLaw_linkFree.event (fun s law => law.of_clamping (keeps s)) h law

theorem DoorLaw.checked_of_clamping (law : DoorLaw s) (keeps : ∀ s, (f s).clamping = s.clamping) (h : s.checked c f = .next t) :
    DoorLaw t :=
  doorLaw_linkFree.checked (fun s law => law.of_clamping (keeps s)) h law

/-- The level of S_RTS reaches a part held in reset too (R210), and reads no door. -/
theorem DoorLaw.sRts (law : DoorLaw s) (x : Bool) (keeps : ∀ s, (f s).clamping = s.clamping)
    (h : (if s.pins.inReset then .next (s.withRts x) else s.event c f) = Host.Outcome.next t) : DoorLaw t := by
  split_ifs at h
  · cases h; exact law.of_clamping rfl
  · exact law.event_of_clamping keeps h

/-- Every command keeps the law of R94. -/
theorem doorLaw_exec (h : exec c s = .next t) (law : DoorLaw s) : DoorLaw t := by
  have owned (c : Instr) (s : State) : DoorLaw s → DoorLaw (ownerOf c s).state := doorLaw_ownerOf c
  have request : hostRequest c (ownerOf c) s = .next t → DoorLaw t := fun h => doorLaw_linkFree.hostRequest (owned c) h law
  cases c with
  | ovenReport => exact doorLaw_linkFree.checked (fun _ law => doorLaw_ovenReport _ _ law) h law
  | settleTimerExpiry => exact doorLaw_linkFree.checked (fun _ law => doorLaw_settleTimerExpiry _ _ law) h law
  | doorOffTimerExpiry => exact doorLaw_linkFree.checked (fun _ law => doorLaw_doorOffTimerExpiry _ _ law) h law
  | supFrameComplete => exact doorLaw_linkFree.checked (doorLaw_linkFree.supFrameComplete owned _ _) h law
  | supervisoryByteReceived => exact doorLaw_linkFree.event (doorLaw_linkFree.supervisoryByteReceived owned _) h law
  | supSilence => exact doorLaw_linkFree.event doorLaw_linkFree.supSilence h law
  | replySent => exact doorLaw_linkFree.event (doorLaw_linkFree.replySent owned) h law
  | noticeSent => exact doorLaw_linkFree.event doorLaw_linkFree.noticeSent h law
  | sRtsAsserted => exact law.sRts (f := sRtsAsserted) true (fun _ => rfl) h
  | sRtsDeasserted => exact law.sRts (f := sRtsDeasserted) false (fun _ => rfl) h
  | fieldFrameReceived => exact law.checked_of_clamping (fun s => clamping_fieldFrameReceived s _ _ _ _) h
  | fieldByteReceived => exact law.event_of_clamping (fun s => clamping_fieldByteReceived s _) h
  | fieldLineIdle => exact law.event_of_clamping clamping_fieldLineIdle h
  | fieldFrameSent => exact law.event_of_clamping clamping_fieldFrameSent h
  | pusherReport => exact law.checked_of_clamping (fun s => clamping_pusherReport s _) h
  | guideReport => exact law.checked_of_clamping (fun s => clamping_guideReport s _) h
  | carReport => exact law.checked_of_clamping (fun s => clamping_carReport s _ _) h
  | towerReport => exact law.event_of_clamping (fun s => clamping_towerReport s _) h
  | mainReport => exact law.event_of_clamping (fun s => clamping_mainReport s _) h
  | ovenSample => exact law.checked_of_clamping (fun s => clamping_ovenSample s _ _) h
  | stageConfirmation => exact law.checked_of_clamping (fun s => clamping_stageConfirmation s _ _) h
  | batterySecond => exact law.event_of_clamping clamping_batterySecond h
  | slotCarry => exact law.event_of_clamping clamping_slotCarry h
  | cokeMinuteExpiry => exact law.event_of_clamping clamping_cokeMinuteExpiry h
  | chargeTimerExpiry => exact law.checked_of_clamping (fun s => clamping_chargeTimerExpiry s _) h
  | stageTimerExpiry => exact law.event_of_clamping clamping_stageTimerExpiry h
  | quenchTimerExpiry => exact law.event_of_clamping (fun s => clamping_quenchTimerExpiry s _) h
  | drainTimerExpiry => exact law.event_of_clamping (fun s => clamping_drainTimerExpiry s _) h
  | dumpTimerExpiry => exact law.event_of_clamping (fun s => clamping_dumpTimerExpiry s _) h
  | bayHoldTimerExpiry => exact law.checked_of_clamping (fun s => clamping_bayHoldTimerExpiry s _) h
  | travelTimerExpiry => exact law.event_of_clamping (fun s => clamping_travelTimerExpiry s _) h
  | hotCokeTimerExpiry => exact law.event_of_clamping (fun s => clamping_hotCokeTimerExpiry s _) h
  | silenceWindowExpiry => exact law.event_of_clamping (fun s => clamping_silenceWindowExpiry s _) h
  | machineSilenceAtPu k => exact law.event_of_clamping (f := machineSilenceAtPu k) (fun s => s.clamping_abortPush _) h
  | silenceAtSu => exact law.checked_of_clamping (fun s => clamping_silenceAtSu s _) h
  | carNodeSilence => exact law.event_of_clamping (fun s => clamping_carNodeSilence s _) h
  | towerNodeSilence => exact law.event_of_clamping (f := towerNodeSilence) (fun _ => rfl) h
  | mainNodeSilence => exact law.event_of_clamping clamping_mainNodeSilence h
  | ovenNodeSilence => exact law.event_of_clamping (fun s => clamping_ovenNodeSilence s _) h
  | ovenNodeReturn m => exact law.event_of_clamping (f := ovenNodeReturn m) (fun s => s.clamping_evalValves _) h
  | mainNodeReturn => exact law.event_of_clamping clamping_mainNodeReturn h
  | towerNodeReturn => exact law.event_of_clamping (f := towerNodeReturn) (fun s => s.clamping_issueAll _) h
  | estopAssertion => exact law.event_of_clamping clamping_estopAssertion h
  | estopAtPu => exact law.event_of_clamping (f := estopAtPu) (fun s => s.clamping_abortPush .estop) h
  | estopAtSu => exact law.event_of_clamping (f := estopAtSu) (fun s => s.clamping_pauseSchedule 1 0) h
  | estopAtQu => exact law.event_of_clamping clamping_estopAtQu h
  | estopRelease => exact law.event_of_clamping clamping_estopRelease h
  | estopReleaseAtQu => exact law.event_of_clamping clamping_estopReleaseAtQu h
  | resetAsserted => cases h; exact law.of_clamping rfl
  | resetReleased => cases h; exact doorLaw_resetReleased law _ _ _
  | powerUp => cases h; exact doorLaw_powerUp s _ _ _ _
  | _ => exact request h

end

/-- Settles O7: DU's events, SET_DOOR_LIMITS and reset leave every door lawful, and no other command writes what the law reads. -/
theorem everyStepKeepsTheDoorLaw : Obligations.EveryStepKeepsTheDoorLaw :=
  fun _ _ law h => doorLaw_linkFree.step doorLaw_exec h law

end Sys2Proof.Machine

/-!
SUPPORT. DOOR_SERVICE: its first failing check, the permit it writes, and the statement about it.
-/

namespace Sys2Proof.Machine

/-! ### The checks (R100) -/

theorem Side.ofCode_code (d : Side) : Side.ofCode d.code = some d := by cases d <;> rfl

/-- A byte that is a code of a side (R86). -/
theorem Side.exists_code {k : Nat} (h : k ≤ 1) : ∃ d : Side, d.code = k := by
  interval_cases k
  · exact ⟨.p, rfl⟩
  · exact ⟨.c, rfl⟩

theorem Side.ofCode_of_gt {k : Nat} (h : 1 < k) : Side.ofCode k = none := by
  obtain ⟨j, rfl⟩ := Nat.exists_eq_add_of_le' (show 2 ≤ k from h)
  rfl

/-- A byte that is a yes-or-no code says yes when it is 1. -/
theorem boolOfCode_of_le {b : Byte} (h : b.toNat ≤ 1) : boolOfCode b.toNat = some (b == 1) := by
  rcases Nat.le_one_iff_eq_zero_or_eq_one.mp h with zero | one
  · rw [zero, show b = 0 from BitVec.eq_of_toNat_eq zero]; rfl
  · rw [one, show b = 1 from BitVec.eq_of_toNat_eq one]; rfl

theorem boolOfCode_of_gt {k : Nat} (h : 1 < k) : boolOfCode k = none := by
  obtain ⟨j, rfl⟩ := Nat.exists_eq_add_of_le' (show 2 ≤ k from h)
  rfl

theorem State.namesOven_iff (s : State) (n : Nat) :
    s.namesOven n = true ↔ (∃ r ∈ s.pu.push, r.oven = n) ∨ ∃ r ∈ s.pu.stall, r.oven = n := by
  simp [State.namesOven, Option.any_eq_true]

/-- The first failing check of DOOR_SERVICE, in R100's order. -/
def State.serviceRefusal (s : State) (n side action : Byte) : Option Status :=
  if ¬(1 ≤ n.toNat ∧ n.toNat ≤ s.ovenCount) then some .badOven
  else if 1 < side.toNat ∨ 1 < action.toNat then some .badValue
  else s.grantRefusal n.toNat (action == 1)

section
variable {s : State} {n side action : Byte} {x : Status} {d : Side}

theorem State.serviceRefusal_ne_ok : s.serviceRefusal n side action ≠ some .ok := by
  unfold State.serviceRefusal State.grantRefusal
  split_ifs <;> simp

/-- The checks as R100 lists them. -/
theorem State.serviceRefusal_getD : (s.serviceRefusal n side action).getD .ok =
    if ¬(1 ≤ n.toNat ∧ n.toNat ≤ s.ovenCount) then .badOven
    else if 1 < side.toNat ∨ 1 < action.toNat then .badValue
    else if action = 1 ∧ ((∃ r ∈ s.pu.push, r.oven = n.toNat) ∨ (∃ r ∈ s.pu.stall, r.oven = n.toNat)) then .busy
    else if action = 1 ∧ (s.oven n.toNat).phase ≠ .empty ∧ s.excluded n.toNat = false then .wrongPhase
    else .ok := by
  have granted : (s.grantRefusal n.toNat (action == 1)).getD .ok =
      if action = 1 ∧ ((∃ r ∈ s.pu.push, r.oven = n.toNat) ∨ (∃ r ∈ s.pu.stall, r.oven = n.toNat)) then .busy
      else if action = 1 ∧ (s.oven n.toNat).phase ≠ .empty ∧ s.excluded n.toNat = false then .wrongPhase
      else .ok := by
    simp only [State.grantRefusal, Bool.and_eq_true, beq_iff_eq, s.namesOven_iff, Bool.not_eq_true', Bool.or_eq_false_iff,
      beq_eq_false_iff_ne]
    split_ifs <;> rfl
  rw [← granted, State.serviceRefusal]
  split_ifs <;> rfl

/-! ### The owner -/

theorem doorService_of_badCode (range : s.inRange n.toNat = true) (h : 1 < side.toNat ∨ 1 < action.toNat) :
    doorService n side action s = s.refuse .badValue := by
  rcases h with big | big
  · simp [doorService, range, Side.ofCode_of_gt big]
  · cases named : Side.ofCode side.toNat <;> simp [doorService, range, named, boolOfCode_of_gt big]

theorem doorService_of_some (h : s.serviceRefusal n side action = some x) : doorService n side action s = s.refuse x := by
  unfold State.serviceRefusal at h
  split_ifs at h with range codes
  · cases h
    exact doorService_of_badCode (decide_eq_true range) codes
  · have inside : s.inRange n.toNat = true := decide_eq_true range
    simp only [not_or, not_lt] at codes
    obtain ⟨d, code⟩ := Side.exists_code codes.1
    simp only [doorService, inside, ← code, Side.ofCode_code, boolOfCode_of_le codes.2, h]
    rfl
  · cases h
    simp [doorService, State.inRange, range]

/-- DOOR_SERVICE taken: the permit of that door alone is written (R99, R100). -/
theorem doorService_of_none (h : s.serviceRefusal n side action = none) (code : d.code = side.toNat) :
    doorService n side action s = (s.setOven n.toNat ((s.oven n.toNat).setDoor d
        { (s.oven n.toNat).door d with permit := action == 1 })).reply
      [n, side, action, byteOf ((s.oven n.toNat).door d).state.code, flag ((s.oven n.toNat).door d).unexpected] := by
  unfold State.serviceRefusal at h
  split_ifs at h with range codes
  have inside : s.inRange n.toNat = true := decide_eq_true range
  simp only [not_or, not_lt] at codes
  simp only [doorService, inside, ← code, Side.ofCode_code, boolOfCode_of_le codes.2, h]
  rfl

end

/-- Settles O41: the checks by `serviceRefusal`, the effect by the one door written. -/
theorem doorServiceSetsThePermit : Obligations.DoorServiceSetsThePermit := by
  intro s tag n side action _ free ht x hx
  have takes : exec (.doorService tag n side action) s = .next
      (s.afterRequest (.doorService tag n side action) ⟨0x40, tag, [n, side, action]⟩ (doorService n side action)) :=
    exec_of_free rfl rfl rfl free ht
  rw [← State.serviceRefusal_getD] at hx
  rcases refusal_cases State.serviceRefusal_ne_ok hx with ⟨refused, check⟩ | ⟨ok, check⟩
  · refine ⟨fun _ => ⟨_, takes, ?_⟩, fun ok => absurd ok refused⟩
    exact serve_of_refuse _ _ _ s x (doorService_of_some (s := s.taking _ _) check)
  · refine ⟨fun refused => absurd ok refused, fun _ d code => ⟨_, takes, ?_⟩⟩
    have taken := doorService_of_none
      (s := s.taking (.doorService tag n side action) ⟨0x40, tag, [n, side, action]⟩) check code
    have writes := State.keeps_setOven (s.taking (.doorService tag n side action) ⟨0x40, tag, [n, side, action]⟩) n.toNat
      ((s.oven n.toNat).setDoor d { (s.oven n.toNat).door d with permit := action == 1 })
    refine ⟨frameOf_serve _ _ _ s ?_ (by simp) (by simp), ?_, answered_of_sl taken rfl⟩
    · rw [taken]
      exact writes.mono (by simp)
    · have kept := s.keeps_afterRequest (.doorService tag n side action) ⟨0x40, tag, [n, side, action]⟩
        (doorService n side action) .ovens (by simp)
      rw [taken] at kept
      exact kept

end Sys2Proof.Machine

/-!
SUPPORT. A door's timers: what the settle timer and the door-off timer do to their door, and the statement about them.
-/

namespace Sys2Proof.Machine

section
variable {s : State} {n : Nat} {x : Side}

theorem exec_settleTimerExpiry (x : Side) (out : s.pins.inReset = false) (low : 1 ≤ n) (high : n ≤ 96) :
    exec (.settleTimerExpiry n x) s = .next (settleTimerExpiry n x (s.passed (.settleTimerExpiry n x))) := by
  have wf : (Instr.settleTimerExpiry n x).wf = true := decide_eq_true ⟨low, high⟩
  exact (s.checked_of_wf _ _ wf).trans (s.event_of_run _ _ out)

theorem exec_doorOffTimerExpiry (x : Side) (out : s.pins.inReset = false) (low : 1 ≤ n) (high : n ≤ 96) :
    exec (.doorOffTimerExpiry n x) s = .next (doorOffTimerExpiry n x (s.passed (.doorOffTimerExpiry n x))) := by
  have wf : (Instr.doorOffTimerExpiry n x).wf = true := decide_eq_true ⟨low, high⟩
  exact (s.checked_of_wf _ _ wf).trans (s.event_of_run _ _ out)

theorem frameOf_setOven (s : State) (c : Instr) (n : Nat) (o : Oven) : FrameOf c [.ovens] s ((s.passed c).setOven n o) :=
  ⟨((s.keeps_withDue _).mono (by simp)).trans ((State.keeps_setOven _ n o).mono (by simp)), rfl⟩

/-! ### When a door's timer acts -/

/-- A door's timer acts in RUN, on an oven 1..N, when it has run out (R206). -/
theorem State.timerActs (timer : Timer) (run : s.bk.mode = .run) (low : 1 ≤ n) (high : n ≤ s.ovenCount)
    (out : timer = some 0) : (s.running && s.inRange n && ranOut timer) = true := by
  simp [State.running, State.inRange, ranOut, run, low, high, out]

theorem State.timerPasses (timer : Timer) (h : s.bk.mode = .config ∨ s.ovenCount < n ∨ timer ≠ some 0) :
    (s.running && s.inRange n && ranOut timer) = false := by
  rcases h with config | above | runs
  · simp [State.running, config]
  · simp [State.inRange, show ¬ n ≤ s.ovenCount by omega]
  · simp [ranOut, runs]

theorem settleTimerExpiry_of_idle (h : s.bk.mode = .config ∨ s.ovenCount < n ∨ ((s.oven n).door x).settleTimer ≠ some 0) :
    settleTimerExpiry n x s = s := by
  simp only [settleTimerExpiry, State.timerPasses _ h, Bool.false_eq_true, if_false]

theorem doorOffTimerExpiry_of_idle
    (h : s.bk.mode = .config ∨ s.ovenCount < n ∨ ((s.oven n).door x).doorOffTimer ≠ some 0) :
    doorOffTimerExpiry n x s = s := by
  simp only [doorOffTimerExpiry, State.timerPasses _ h, Bool.false_eq_true, if_false]

/-! ### The settle timer (R92) -/

/-- The oven's record as the settle timer of a SEATED door leaves it, its valve apart (R92). -/
def Oven.settled (o : Oven) (x : Side) : Oven :=
  o.setDoor x { o.door x with state := .sealed, persistence := 0, settleTimer := none }

/-- A SEATED door's settle timer is a valve input, since the door's state changes (R92, R112). -/
theorem settleTimerExpiry_of_seated (run : s.bk.mode = .run) (low : 1 ≤ n) (high : n ≤ s.ovenCount)
    (out : ((s.oven n).door x).settleTimer = some 0) (seated : ((s.oven n).door x).state = .seated) :
    settleTimerExpiry n x s = (s.setOven n ((s.oven n).settled x)).evalValve n := by
  simp only [settleTimerExpiry, State.timerActs _ run low high out, seated, if_true, State.applyDoor, DoorStep.keep, reduceCtorEq,
    false_and, if_false]
  rfl

theorem settleTimerExpiry_of_other (run : s.bk.mode = .run) (low : 1 ≤ n) (high : n ≤ s.ovenCount)
    (out : ((s.oven n).door x).settleTimer = some 0) (other : ((s.oven n).door x).state ≠ .seated) :
    settleTimerExpiry n x s = s.setOven n ((s.oven n).setDoor x { (s.oven n).door x with settleTimer := none }) := by
  simp only [settleTimerExpiry, State.timerActs _ run low high out, other, if_true, if_false]

/-- SEATED and SEALED are one to R111: neither is OFF. -/
theorem Oven.settled_modeInputs {o : Oven} (seated : (o.door x).state = .seated) : (o.settled x).modeInputs = o.modeInputs := by
  cases x with
  | p =>
    have before : o.doorP.offUnexpected = false := by simp [Door.offUnexpected, show o.doorP.state = .seated from seated]
    simp only [Oven.modeInputs, before]
    rfl
  | c =>
    have before : o.doorC.offUnexpected = false := by simp [Door.offUnexpected, show o.doorC.state = .seated from seated]
    simp only [Oven.modeInputs, before]
    rfl

/-- What a settle timer does: its oven's record, and the valve's turn to mode m. -/
def State.settleDeed (s : State) (n : Nat) (x : Side) (m : ValveMode) : Deed :=
  Deed.turn { s.idle n with oven := (s.oven n).settled x } n m

theorem State.settleDeed_oven (m : ValveMode) : (s.settleDeed n x m).oven =
    ((s.oven n).settled x).setValve (turnTo n m (s.oven n).valve).1 := by
  simp [State.settleDeed, Deed.turn, Oven.settled]

theorem State.settleDeed_commands (m : ValveMode) : (s.settleDeed n x m).commands = (turnTo n m (s.oven n).valve).2 := by
  simp [State.settleDeed, Deed.turn, State.idle, Oven.settled]

/-- The valve turns to the mode an evaluation gives after it (R112). -/
theorem State.does_settle (place : n - 1 < s.ovens.length) : Does n s ((s.setOven n ((s.oven n).settled x)).evalValve n)
    (s.settleDeed n x (((s.setOven n ((s.oven n).settled x)).evalValve n).valveMode n)) :=
  ((s.does_idle n).setOven _).evalValve place

/-- With room for two commands, a settle timer sends those of the valve's turn and nothing else (R113, R175). -/
theorem State.settle_links (place : n - 1 < s.ovens.length) (room : s.FieldRoom 2) :
    ((s.setOven n ((s.oven n).settled x)).evalValve n).sl = s.sl ∧
      Issued s ((s.setOven n ((s.oven n).settled x)).evalValve n)
        (turnTo n (((s.setOven n ((s.oven n).settled x)).evalValve n).valveMode n) (s.oven n).valve).2 := by
  have done := s.does_settle (x := x) place
  have field : s.FieldRoom (s.settleDeed n x (((s.setOven n ((s.oven n).settled x)).evalValve n).valveMode n)).commands.length := by
    rw [State.settleDeed_commands]
    exact Nat.le_trans (Nat.add_le_add_left (turnTo_length _ _ _) _) room
  exact ⟨done.sl_of_quiet field rfl, State.settleDeed_commands _ ▸ done.issued field⟩

/-- A valve already in the mode evaluated stands as it stood, and no command is sent (R112). -/
theorem State.settle_of_same (place : n - 1 < s.ovens.length) (seated : ((s.oven n).door x).state = .seated)
    (same : (s.oven n).valve.mode = s.valveMode n) :
    (((s.setOven n ((s.oven n).settled x)).evalValve n).oven n).valve = (s.oven n).valve ∧
      ((s.setOven n ((s.oven n).settled x)).evalValve n).fl = s.fl ∧
      ((s.setOven n ((s.oven n).settled x)).evalValve n).sl = s.sl := by
  have record := s.oven_setOven_self n ((s.oven n).settled x) place
  have valve : ((s.oven n).settled x).valve = (s.oven n).valve := Oven.setDoor_valve _ _ _
  have mode : (s.setOven n ((s.oven n).settled x)).valveMode n = (s.oven n).valve.mode := by
    rw [same]
    exact State.valveMode_congr rfl rfl rfl (by rw [record, Oven.settled_modeInputs seated])
  refine ⟨?_, State.evalValve_links_of_same _ n (by rw [record, valve, mode])⟩
  rw [State.evalValve_oven_self _ n (by simpa using place), record, valve, mode, turnTo_same]
  rfl

/-! ### The door-off timer (R96) -/

/-- An OFF door's timer marks it and raises DOOR_OFF_LONG; its state stands, so no valve is evaluated (R96). -/
theorem doorOffTimerExpiry_of_off (run : s.bk.mode = .run) (low : 1 ≤ n) (high : n ≤ s.ovenCount)
    (out : ((s.oven n).door x).doorOffTimer = some 0) (off : ((s.oven n).door x).state = .off) :
    doorOffTimerExpiry n x s = (s.setOven n ((s.oven n).setDoor x
      { (s.oven n).door x with offLong := true, doorOffTimer := none })).raise (.doorOffLong n x) := by
  simp only [doorOffTimerExpiry, State.timerActs _ run low high out, off, if_true, State.applyDoor, and_self]
  rfl

theorem doorOffTimerExpiry_of_other (run : s.bk.mode = .run) (low : 1 ≤ n) (high : n ≤ s.ovenCount)
    (out : ((s.oven n).door x).doorOffTimer = some 0) (other : ((s.oven n).door x).state ≠ .off) :
    doorOffTimerExpiry n x s = s.setOven n ((s.oven n).setDoor x { (s.oven n).door x with doorOffTimer := none }) := by
  simp only [doorOffTimerExpiry, State.timerActs _ run low high out, other, if_true, if_false]

end

/-- Settles O43: one case per timer and door state, the settle timer of a SEATED door by its deed. -/
theorem doorTimersSealAndMark : Obligations.DoorTimersSealAndMark := by
  intro s n x shape reset low high
  have place : n - 1 < s.ovens.length := by
    have size : s.ovens.length = 96 := shape.ovens
    omega
  have settles := exec_settleTimerExpiry x reset low high
  have marks := exec_doorOffTimerExpiry x reset low high
  refine ⟨fun run inside out seated => ?sealed, fun run inside out other => ?stopped, fun run inside out other => ?present,
    fun run inside out off room wait => ?off, fun idle => ?settlePasses, fun idle => ?offPasses⟩
  case sealed =>
    rw [settles, settleTimerExpiry_of_seated (s := s.passed _) run low inside out seated]
    have done := State.does_settle (s := s.passed (.settleTimerExpiry n x)) (x := x) place
    exact ⟨_, rfl, done.frameOf (.inl (by simp)) (.inr rfl) (.inr rfl) (.inr rfl) (by simp) (.inl (by simp)),
      done.othersKept low, (done.oven_self (s := s.passed _) place).trans (State.settleDeed_oven _),
      fun room => State.settle_links (s := s.passed _) place room,
      fun same => State.settle_of_same (s := s.passed _) place seated same⟩
  case stopped =>
    rw [settles, settleTimerExpiry_of_other (s := s.passed _) run low inside out other]
    exact ⟨_, rfl, frameOf_setOven s _ n _, rfl⟩
  case present =>
    rw [marks, doorOffTimerExpiry_of_other (s := s.passed _) run low inside out other]
    exact ⟨_, rfl, frameOf_setOven s _ n _, rfl⟩
  case off =>
    rw [marks, doorOffTimerExpiry_of_off (s := s.passed _) run low inside out off]
    obtain ⟨keeps, due⟩ := frameOf_setOven s (.doorOffTimerExpiry n x) n
      ((s.oven n).setDoor x { (s.oven n).door x with offLong := true, doorOffTimer := none })
    exact ⟨_, rfl, ⟨(keeps.mono (by simp)).trans ((State.keeps_withSl _ _).mono (by simp)), due⟩, rfl,
      State.raise_noticesOnly _ _ room wait⟩
  case settlePasses => rw [settles, settleTimerExpiry_of_idle (s := s.passed _) idle]
  case offPasses => rw [marks, doorOffTimerExpiry_of_idle (s := s.passed _) idle]

end Sys2Proof.Machine

/-!
SUPPORT. What the laws of R128 and R114, of the main floor, of the waiting lists and of R60 read of the state, and the operations
and requests that leave all of it.
-/

namespace Sys2Proof.Machine

/-! ### The two views -/

/-- What R114's law reads of an oven, and R128's. -/
def Oven.offtake (o : Oven) : Phase × Valve := (o.phase, o.valve)

/-- What the laws of R128 and R114 and of the main floor read: each oven's phase and valve, N, the part mode, the pushed oven and
whether the push is past SPOT, the stalled oven, the main's positions, the floor, the main node, and whether its silence is still
to be taken. -/
structure Offtake where
  ovens : List (Phase × Valve)
  count : Nat
  mode : PartMode
  push : Option (Nat × Bool)
  stall : Option Nat
  mainCommand : Nat
  mainManual : Nat
  floorOn : Bool
  mainLiveness : Liveness
  mainInUse : Bool
  inReset : Bool
  silenceDue : Bool

def State.offtake (s : State) : Offtake where
  ovens := s.ovens.map Oven.offtake
  count := s.ovenCount
  mode := s.bk.mode
  push := s.pu.push.map fun r => (r.oven, r.stage != .spot)
  stall := s.pu.stall.map StallRecord.oven
  mainCommand := s.pr.main.command
  mainManual := s.pr.main.manualPosition
  floorOn := s.pr.floorOn
  mainLiveness := (s.fl.entry .main).liveness
  mainInUse := (s.fl.entry .main).inUse
  inReset := s.pins.inReset
  silenceDue := decide (Instr.mainNodeSilence ∈ s.due)

/-- What R60's law reads of the push record: the pushed oven, the car, whether it is claimed, and the stage. -/
def PushRecord.part (r : PushRecord) : Nat × Car × Bool × Stage := (r.oven, r.car, r.claimed, r.stage)

/-- What the standing of the waiting lists and R60's law read: where the cars are, the tower's and the wharf's lists, and the push's
claim. -/
structure Crew where
  cars : Car → CarState × Location
  holder : Option Car
  waiters : List Car
  bayWaiters : List Car
  push : Option (Nat × Car × Bool × Stage)
  stalled : Bool

def State.crew (s : State) : Crew where
  cars c := ((s.car c).state, (s.car c).position)
  holder := s.qu.holder
  waiters := s.qu.waiters
  bayWaiters := s.qu.bayWaiters
  push := s.pu.push.map PushRecord.part
  stalled := s.pu.stall.isSome

/-- Neither view changes from s to t. -/
structure Inert (s t : State) : Prop where
  offtake : t.offtake = s.offtake
  crew : t.crew = s.crew

/-! ### Updates that leave them -/

section
variable {s t u : State}

theorem Inert.refl (s : State) : Inert s s := ⟨rfl, rfl⟩

theorem Inert.trans (h : Inert s t) (k : Inert t u) : Inert s u := ⟨k.offtake.trans h.offtake, k.crew.trans h.crew⟩

/-- The last update first. -/
theorem Inert.after (k : Inert t u) (h : Inert s t) : Inert s u := h.trans k

/-- The parts the first view reads are the same. -/
theorem State.offtake_of_same (ovens : t.ovens.map Oven.offtake = s.ovens.map Oven.offtake) (count : t.ovenCount = s.ovenCount)
    (mode : t.bk.mode = s.bk.mode) (pu : t.pu = s.pu) (pr : t.pr = s.pr) (nodes : t.fl.nodes = s.fl.nodes)
    (pins : t.pins = s.pins) (due : t.due = s.due) : t.offtake = s.offtake := by
  simp only [State.offtake, FieldLink.entry, ovens, count, mode, pu, pr, nodes, pins, due]

theorem State.offtake_map_set {o : Oven} {n : Nat} (phase : o.phase = (s.oven n).phase) (valve : o.valve = (s.oven n).valve) :
    (s.setOven n o).ovens.map Oven.offtake = s.ovens.map Oven.offtake := by
  refine List.ext_getElem? fun i => ?_
  simp only [State.setOven, State.withOvens_ovens, List.getElem?_map, List.getElem?_set]
  split
  · next here =>
    subst here
    split
    · next place => simp [Oven.offtake, phase, valve, State.oven, place]
    · next place => simp [place]
  · rfl

/-- A record written with its phase and valve as they stood. -/
theorem Inert.setOven {o : Oven} {n : Nat} (phase : o.phase = (s.oven n).phase) (valve : o.valve = (s.oven n).valve) :
    Inert s (s.setOven n o) where
  offtake := State.offtake_of_same (State.offtake_map_set phase valve) rfl rfl rfl rfl rfl rfl rfl
  crew := rfl

theorem Inert.setDoor (n : Nat) (x : Side) (d : Door) : Inert s (s.setOven n ((s.oven n).setDoor x d)) :=
  .setOven (Oven.setDoor_phase ..) (Oven.setDoor_valve ..)

/-- A pass over the numbered records that keeps every phase and valve. -/
theorem Inert.map_numbered {f : Oven × Nat → Oven} (same : ∀ x, (f x).offtake = x.1.offtake) :
    Inert s (s.withOvens (s.numbered.map f)) where
  offtake := by
    refine State.offtake_of_same ?_ rfl rfl rfl rfl rfl rfl rfl
    have whole : Oven.offtake ∘ f = Oven.offtake ∘ Prod.fst := funext same
    rw [State.withOvens_ovens, List.map_map, whole, ← List.map_map, State.numbered, List.zipIdx_map_fst]
  crew := rfl

theorem Inert.withCc (x : CokingClock) : Inert s (s.withCc x) := ⟨rfl, rfl⟩
theorem Inert.withSu (x : ScheduleUnit) : Inert s (s.withSu x) := ⟨rfl, rfl⟩
theorem Inert.withDu (x : DoorLimits) : Inert s (s.withDu x) := ⟨rfl, rfl⟩
theorem Inert.withSl (x : SupLink) : Inert s (s.withSl x) := ⟨rfl, rfl⟩
theorem Inert.raise (b : NoticeBody) : Inert s (s.raise b) := ⟨rfl, rfl⟩
theorem Inert.raiseAll (bs : List NoticeBody) : Inert s (s.raiseAll bs) := ⟨rfl, rfl⟩

theorem Inert.withFl {x : FieldLink} (nodes : x.nodes = s.fl.nodes) : Inert s (s.withFl x) :=
  ⟨State.offtake_of_same rfl rfl rfl rfl rfl nodes rfl rfl, rfl⟩

theorem Inert.issueAll (cs : List Outgoing) : Inert s (s.issueAll cs) :=
  ⟨State.offtake_of_same rfl rfl rfl rfl rfl (s.issueAll_nodes cs) rfl rfl, rfl⟩

theorem Inert.withBk {x : BatteryClock} (mode : x.mode = s.bk.mode) : Inert s (s.withBk x) :=
  ⟨State.offtake_of_same rfl rfl mode rfl rfl rfl rfl rfl, rfl⟩

/-- QU's zones, limits and bays are read by neither law. -/
theorem Inert.withQu {x : QuenchUnit} (car1 : x.car1 = s.qu.car1) (car2 : x.car2 = s.qu.car2) (holder : x.holder = s.qu.holder)
    (waiters : x.waiters = s.qu.waiters) (bays : x.bayWaiters = s.qu.bayWaiters) : Inert s (s.withQu x) where
  offtake := rfl
  crew := by
    have cars : x.car = s.qu.car := funext fun c => by cases c <;> assumption
    simp only [State.crew, State.car, State.withQu, cars, holder, waiters, bays]

/-- A record of a car written with its state and position as they stood. -/
theorem Inert.setCar {c : Car} {k : CarRecord} (state : k.state = (s.car c).state) (position : k.position = (s.car c).position) :
    Inert s (s.setCar c k) where
  offtake := rfl
  crew := by
    have cars : (s.setCar c k).crew.cars = s.crew.cars := funext fun d => by
      by_cases same : d = c
      · subst same; simp [State.crew, state, position]
      · simp [State.crew, State.car, State.setCar, QuenchUnit.car_setCar_ne _ _ _ _ same]
    have rest : (s.setCar c k).crew = { s.crew with cars := (s.setCar c k).crew.cars } := by simp [State.crew, State.setCar]
    rw [rest, cars]

/-- PU's counter, limits and views, and a record's timer, are read by neither law. -/
theorem Inert.withPu {x : PushUnit} (push : x.push.map PushRecord.part = s.pu.push.map PushRecord.part)
    (stall : x.stall = s.pu.stall) : Inert s (s.withPu x) := by
  have pushed : x.push.map (fun r => (r.oven, r.stage != .spot)) = s.pu.push.map fun r => (r.oven, r.stage != .spot) := by
    simpa [Function.comp_def, PushRecord.part] using
      congrArg (Option.map fun p : Nat × Car × Bool × Stage => (p.1, p.2.2.2 != .spot)) push
  exact ⟨by simp only [State.offtake, State.withPu, pushed, stall]; rfl, by simp only [State.crew, State.withPu, push, stall]; rfl⟩

/-- PR's settings but for the floor, and of the main its record but for the positions, are read by neither law. -/
theorem Inert.withPr {x : PressureUnit} (command : x.main.command = s.pr.main.command)
    (manual : x.main.manualPosition = s.pr.main.manualPosition) (floor : x.floorOn = s.pr.floorOn) : Inert s (s.withPr x) :=
  ⟨by simp only [State.offtake, State.withPr, command, manual, floor]; rfl, rfl⟩

/-- An event leaves the list; the main node's silence is not it. -/
theorem Inert.passed {c : Instr} (other : c ≠ .mainNodeSilence) : Inert s (s.withDue (s.due.erase c)) where
  offtake := by
    have kept : Instr.mainNodeSilence ∈ s.due.erase c ↔ Instr.mainNodeSilence ∈ s.due := List.mem_erase_of_ne other.symm
    simp only [State.offtake, State.withDue, kept]
  crew := rfl

/-- Events brought about, the main node's silence not among them. -/
theorem Inert.bring {cs : List Instr} (other : Instr.mainNodeSilence ∉ cs) : Inert s (s.bring cs) where
  offtake := by
    have kept : Instr.mainNodeSilence ∈ s.due ++ cs ↔ Instr.mainNodeSilence ∈ s.due := by simp [other]
    simp only [State.offtake, State.bring, State.withDue, kept]
  crew := rfl

end

/-! ### Requests that leave them -/

section
variable (s : State)

theorem inert_setHeat (x : Byte) (v : Half) : Inert s (setHeat x v s).state := by
  unfold setHeat
  split_ifs <;> exact ⟨rfl, rfl⟩

theorem inert_selectHeat (x : Byte) : Inert s (selectHeat x s).state := by
  unfold selectHeat
  split_ifs <;> exact ⟨rfl, rfl⟩

theorem inert_setTrim (n : Byte) (t : Half) (i o : Byte) : Inert s (setTrim n t i o s).state := by
  unfold setTrim
  dsimp only
  split_ifs
  · exact .refl s
  · exact .refl s
  · exact .setOven rfl rfl

theorem inert_setPlan (n x : Byte) : Inert s (setPlan n x s).state := by
  unfold setPlan
  dsimp only
  split_ifs
  · exact .refl s
  · exact .setOven rfl rfl

theorem inert_queryOven (n : Byte) : Inert s (queryOven n s).state := by
  unfold queryOven
  dsimp only
  split_ifs <;> exact .refl s

theorem inert_setSeries (k j n : Byte) : Inert s (setSeries k j n s).state := by
  unfold setSeries
  split_ifs <;> exact ⟨rfl, rfl⟩

theorem inert_setScheduleMode (m : Byte) : Inert s (setScheduleMode m s).state := by
  unfold setScheduleMode
  split
  · exact .refl s
  · split <;> exact ⟨rfl, rfl⟩

theorem inert_queueOutOfTurn (n : Byte) : Inert s (queueOutOfTurn n s).state := by
  unfold queueOutOfTurn
  dsimp only
  split <;> exact ⟨rfl, rfl⟩

theorem inert_withdraw (n : Byte) : Inert s (withdraw n s).state := by
  unfold withdraw
  dsimp only
  split_ifs <;> exact ⟨rfl, rfl⟩

theorem inert_setExclusionFrame (g n : Byte) : Inert s (setExclusionFrame g n s).state := by
  unfold setExclusionFrame
  split_ifs <;> exact ⟨rfl, rfl⟩

theorem inert_writeExclusionWord (i : Byte) (w : Half) : Inert s (writeExclusionWord i w s).state := by
  unfold writeExclusionWord
  split_ifs <;> exact ⟨rfl, rfl⟩

theorem inert_doorService (n x a : Byte) : Inert s (doorService n x a s).state := by
  unfold doorService
  dsimp only
  split_ifs
  · exact .refl s
  · split
    · split
      · exact .refl s
      · exact .setDoor _ _ _
    · exact .refl s

theorem inert_queryDoors (n : Byte) : Inert s (queryDoors n s).state := by
  unfold queryDoors
  dsimp only
  split_ifs <;> exact .refl s

theorem inert_setProfilePoint (i : Byte) (v : Half) : Inert s (setProfilePoint i v s).state := by
  unfold setProfilePoint
  split_ifs
  · exact .refl s
  · exact .withPr rfl rfl rfl

theorem inert_queryPressure (n : Byte) : Inert s (queryPressure n s).state := by
  unfold queryPressure
  split_ifs <;> exact .refl s

theorem inert_setZones (z : Byte) (es : List (Byte × Byte)) : Inert s (setZones z es s).state := by
  unfold setZones
  split
  · exact .refl s
  · split
    · exact .refl s
    · split
      · exact .refl s
      · exact .withQu rfl rfl rfl rfl rfl

theorem inert_setTime (m : Word) : Inert s (setTime m s).state := by
  unfold setTime
  split_ifs
  · exact .refl s
  · exact .withBk rfl

theorem inert_hold (f c m : Byte) : Inert s (hold f c m s).state := by
  unfold hold
  dsimp only
  split_ifs
  · exact .refl s
  · exact .refl s
  · exact .refl s
  · exact .map_numbered fun x => by split <;> rfl

theorem inert_collect : Inert s (collect s).state := .map_numbered fun x => by split <;> rfl

theorem inert_releaseHolds : Inert s (releaseHolds s).state where
  offtake := State.offtake_of_same
    (show (s.ovens.map Oven.release).map Oven.offtake = _ by rw [List.map_map]; rfl) rfl rfl rfl rfl rfl rfl rfl
  crew := rfl

/-- The requests that write none of what the laws read. -/
def LeavesViews : Instr → Prop
  | .chargeBegin .. | .chargeEnd .. | .pushNow .. | .abortPush .. | .clearStall .. | .setValveManual .. | .releaseValve .. => False
  | .setMain .. | .carServiceIn .. | .carServiceOut .. | .ovenLoad .. | .start .. | .stop .. | .setBattery .. => False
  | _ => True

/-- The owner of such a request leaves both views. -/
theorem inert_ownerOf {c : Instr} (idle : LeavesViews c) : Inert s (ownerOf c s).state := by
  cases c with
  | chargeBegin | chargeEnd | pushNow | abortPush | clearStall | setValveManual | releaseValve => exact idle.elim
  | setMain | carServiceIn | carServiceOut | ovenLoad | start | stop | setBattery => exact idle.elim
  | setHeat => exact inert_setHeat s _ _
  | selectHeat => exact inert_selectHeat s _
  | setTrim => exact inert_setTrim s _ _ _ _
  | setPlan => exact inert_setPlan s _ _
  | queryOven => exact inert_queryOven s _
  | setSeries => exact inert_setSeries s _ _ _
  | setScheduleMode => exact inert_setScheduleMode s _
  | queueOutOfTurn => exact inert_queueOutOfTurn s _
  | withdraw => exact inert_withdraw s _
  | setExclusionFrame => exact inert_setExclusionFrame s _ _
  | writeExclusionWord => exact inert_writeExclusionWord s _ _
  | setPushLimits => exact .withPu rfl rfl
  | doorService => exact inert_doorService s _ _ _
  | queryDoors => exact inert_queryDoors s _
  | setProfilePoint => exact inert_setProfilePoint s _ _
  | applyProfile | setLoop => exact .withPr rfl rfl rfl
  | queryPressure => exact inert_queryPressure s _
  | setZones => exact inert_setZones s _ _
  | setQuenchLimits => exact .withQu rfl rfl rfl rfl rfl
  | setTime => exact inert_setTime s _
  | hold => exact inert_hold s _ _ _
  | collect => exact inert_collect s
  | releaseHolds => exact inert_releaseHolds s
  | _ => exact ⟨rfl, rfl⟩

end

/-! ### Events that leave them -/

section
variable (s : State)

theorem State.inert_tickRun : Inert s s.tickRun := by
  have ovens : Inert s (s.withOvens (s.numbered.map fun x => if x.2 ≤ s.ovenCount then x.1.tick else x.1)) :=
    .map_numbered fun x => by split <;> rfl
  have push : s.pu.tick.push.map PushRecord.part = s.pu.push.map PushRecord.part := by
    rw [PushUnit.tick, Option.map_map]; rfl
  have cars (t : State) (qu : t.qu = s.qu) : Inert t (t.withQu (s.qu.tick s.pins.estop)) := by
    refine ⟨rfl, ?_⟩
    have same : (t.withQu (s.qu.tick s.pins.estop)).crew.cars = t.crew.cars := funext fun c => by
      simp only [State.crew, State.car, State.withQu_qu, qu]
      cases c <;> rfl
    have rest : (t.withQu (s.qu.tick s.pins.estop)).crew =
        { t.crew with cars := (t.withQu (s.qu.tick s.pins.estop)).crew.cars } := by
      simp [State.crew, QuenchUnit.tick, qu]
    rw [rest, same]
  exact (((ovens.trans (.withCc _)).trans (.withSu _)).trans (.withPu push rfl)).trans (cars _ rfl)

theorem inert_chargeTimerExpiry (n : Nat) : Inert s (chargeTimerExpiry n s) := by
  unfold chargeTimerExpiry
  dsimp only
  split_ifs
  · exact (Inert.raise _).after (.setOven rfl rfl)
  · exact .setOven rfl rfl
  · exact .refl s

theorem inert_hotCokeTimerExpiry (c : Car) : Inert s (hotCokeTimerExpiry c s) := by
  unfold hotCokeTimerExpiry
  dsimp only
  split_ifs
  · exact (Inert.raiseAll _).after (.setCar rfl rfl)
  · exact .refl s

theorem inert_fieldLineIdle : Inert s (fieldLineIdle s) := by
  unfold fieldLineIdle
  split_ifs
  · exact .refl s
  · exact .withFl (by simp)

theorem inert_fieldFrameSent : Inert s (fieldFrameSent s) := by
  unfold fieldFrameSent
  split_ifs
  · exact .withFl rfl
  · exact .refl s

theorem State.inert_pauseSchedule (a b : Nat) : Inert s (s.pauseSchedule a b) := by
  unfold State.pauseSchedule
  split_ifs
  · exact (Inert.withSu _).trans (.raise _)
  · exact .refl s

theorem inert_silenceAtSu (x : Node) : Inert s (silenceAtSu x s) := by
  unfold silenceAtSu
  split_ifs
  · exact s.inert_pauseSchedule _ _
  · exact .refl s

theorem State.inert_haltCar (c : Car) : Inert s (s.haltCar c) := by
  unfold State.haltCar
  split_ifs
  · exact (Inert.issueAll _).after (.setCar rfl rfl)
  · exact .refl s

theorem State.inert_resumeCar (c : Car) : Inert s (s.resumeCar c) := by
  unfold State.resumeCar
  split
  · exact (Inert.issueAll _).after (.setCar rfl rfl)
  · exact .refl s

theorem inert_estopAtQu : Inert s (estopAtQu s) := (s.inert_haltCar .one).trans (State.inert_haltCar _ .two)

theorem inert_estopReleaseAtQu : Inert s (estopReleaseAtQu s) := (s.inert_resumeCar .one).trans (State.inert_resumeCar _ .two)

theorem inert_estopAssertion : Inert s (estopAssertion s) := by
  unfold estopAssertion
  split_ifs
  · exact .refl s
  · exact (Inert.bring (by decide)).after ⟨rfl, rfl⟩

theorem inert_estopRelease : Inert s (estopRelease s) := by
  unfold estopRelease
  split_ifs
  · exact (Inert.bring (by decide)).after ⟨rfl, rfl⟩
  · exact .refl s

theorem State.inert_startDoor (n : Nat) (x : Side) : Inert s (s.startDoor n x) := by
  unfold State.startDoor
  dsimp only
  split_ifs
  · exact .refl s
  · exact (Inert.setDoor _ _ _).trans (.raise _)
  · exact .setDoor _ _ _

theorem State.inert_startDoors : Inert s s.startDoors :=
  List.foldlRecOn (motive := Inert s) _ _ (.refl s) fun _ h _ _ =>
    h.trans ((State.inert_startDoor _ _ _).trans (State.inert_startDoor _ _ _))

theorem State.inert_judgeStroke (r : PushRecord) : Inert s (s.judgeStroke r) := by
  unfold State.judgeStroke
  split_ifs
  · exact (Inert.raise _).after (.setOven rfl rfl)
  · exact .refl s

theorem State.inert_passOver (n : Nat) : Inert s (s.passOver n) := by
  unfold State.passOver
  split_ifs <;> exact ⟨rfl, rfl⟩

end

end Sys2Proof.Machine

/-!
SUPPORT. What every law of the offtake has to bear: one rule per kind of update, with the ovens whose valves are still to be
evaluated set aside, and the shared operations of pushes, valves and doors told by those rules.
-/

namespace Sys2Proof.Machine

/-! ### Operations on cars leave the offtake -/

section
variable (s : State)

@[simp] theorem State.offtake_withSu (x : ScheduleUnit) : (s.withSu x).offtake = s.offtake := rfl
@[simp] theorem State.offtake_withQu (x : QuenchUnit) : (s.withQu x).offtake = s.offtake := rfl
@[simp] theorem State.offtake_setCar (c : Car) (k : CarRecord) : (s.setCar c k).offtake = s.offtake := rfl
@[simp] theorem State.offtake_raise (b : NoticeBody) : (s.raise b).offtake = s.offtake := rfl
@[simp] theorem State.offtake_raiseAll (bs : List NoticeBody) : (s.raiseAll bs).offtake = s.offtake := rfl
@[simp] theorem State.offtake_issueAll (cs : List Outgoing) : (s.issueAll cs).offtake = s.offtake := (Inert.issueAll cs).offtake
@[simp] theorem State.offtake_issue (x : Node) (c : FieldCommand) : (s.issue x c).offtake = s.offtake := s.offtake_issueAll _

@[simp] theorem State.offtake_moveCar (c : Car) (l : Location) (k : CarRecord) : (s.moveCar c l k).offtake = s.offtake := by
  unfold State.moveCar
  split <;> simp
@[simp] theorem State.offtake_claimCar (c : Car) (n : Nat) : (s.claimCar c n).offtake = s.offtake := s.offtake_moveCar _ _ _
@[simp] theorem State.offtake_releaseCar (c : Car) : (s.releaseCar c).offtake = s.offtake := by simp [State.releaseCar]
@[simp] theorem State.offtake_grantTower (c : Car) : (s.grantTower c).offtake = s.offtake := by simp [State.grantTower]
@[simp] theorem State.offtake_dispatchCar (c : Car) : (s.dispatchCar c).offtake = s.offtake := by
  unfold State.dispatchCar
  split <;> simp
@[simp] theorem State.offtake_releaseTower : s.releaseTower.offtake = s.offtake := by
  unfold State.releaseTower
  split <;> simp
@[simp] theorem State.offtake_reserveBay (b : Nat) (c : Car) : (s.reserveBay b c).offtake = s.offtake := by simp [State.reserveBay]
@[simp] theorem State.offtake_freeBay (b : Nat) : (s.freeBay b).offtake = s.offtake := by
  unfold State.freeBay
  split <;> simp
@[simp] theorem State.offtake_releaseClaimed (r : PushRecord) : (s.releaseClaimed r).offtake = s.offtake := by
  unfold State.releaseClaimed
  split <;> simp
@[simp] theorem State.offtake_releaseStalled (r : StallRecord) : (s.releaseStalled r).offtake = s.offtake := by
  unfold State.releaseStalled
  split_ifs <;> simp
@[simp] theorem State.offtake_leaveTower (c : Car) : (s.leaveTower c).offtake = s.offtake := by
  unfold State.leaveTower
  split_ifs <;> simp
@[simp] theorem State.offtake_seekBay (c : Car) : (s.seekBay c).offtake = s.offtake := by
  unfold State.seekBay
  split <;> simp
@[simp] theorem State.offtake_endReservation (c : Car) : (s.endReservation c).offtake = s.offtake := by
  unfold State.endReservation State.fillBay
  split
  · rfl
  · dsimp only
    split_ifs <;> simp
@[simp] theorem State.offtake_clearStallClaim (c : Car) : (s.clearStallClaim c).offtake = s.offtake := by
  unfold State.clearStallClaim
  split_ifs
  · simp only [State.offtake, State.withPu, Option.map_map, Function.comp_def]
    rfl
  · rfl
@[simp] theorem State.offtake_recoverCar (c : Car) : (s.recoverCar c).offtake = s.offtake := by simp [State.recoverCar]
@[simp] theorem State.offtake_enterFaulted (c : Car) (y : FaultCause) : (s.enterFaulted c y).offtake = s.offtake := by
  simp [State.enterFaulted]
@[simp] theorem State.offtake_arriveTower (c : Car) (l : Location) : (s.arriveTower c l).offtake = s.offtake := by
  unfold State.arriveTower
  split_ifs <;> simp
@[simp] theorem State.offtake_beginDump (c : Car) : (s.beginDump c).offtake = s.offtake := by
  unfold State.beginDump
  split <;> simp
@[simp] theorem State.offtake_loadCar (c : Car) : (s.loadCar c).offtake = s.offtake := by
  unfold State.loadCar
  dsimp only
  split
  · split_ifs <;> rfl
  · rfl

end

/-! ### The rules -/

/-- Nothing but oven n joins those set aside. -/
def orElse (x : Nat → Prop) (n : Nat) : Nat → Prop := fun m => x m ∨ m = n

/-- Oven n leaves those set aside. -/
def without (x : Nat → Prop) (n : Nat) : Nat → Prop := fun m => x m ∧ m ≠ n

/-- No oven is set aside. -/
def noOven : Nat → Prop := fun _ => False

/-- The main's positions lie within 0..1023 (R128). -/
def MainRecord.Within (m : MainRecord) : Prop := m.command ≤ 1023 ∧ m.manualPosition ≤ 1023

/-- The updates of the model that touch the offtake, each with what a law must bear: `L x` is the law but for the ovens of x, whose
valves are still to be evaluated; `Low` is what the law asks of an oven's number. -/
structure Kept (Low : Nat → Prop) (L : (Nat → Prop) → State → Prop) : Prop where
  low {n : Nat} : 1 ≤ n → Low n
  pushLow {x : Nat → Prop} {s : State} {r : PushRecord} : L x s → s.pu.push = some r → Low r.oven
  stallLow {x : Nat → Prop} {s : State} {r : StallRecord} : L x s → s.pu.stall = some r → Low r.oven
  same {x : Nat → Prop} {s t : State} : t.offtake = s.offtake → L x s → L x t
  /-- More ovens may be set aside. -/
  aside {x y : Nat → Prop} {s : State} : (∀ n, x n → y n) → L x s → L y s
  /-- With no oven 1 to N set aside the law holds whole. -/
  whole {x : Nat → Prop} {s : State} : (∀ n, 1 ≤ n → n ≤ s.ovenCount → ¬ x n) → L x s → L noOven s
  /-- A record rewritten but for its valve: the phase stays, or is one that shuts nothing, or the oven is set aside. -/
  oven {x : Nat → Prop} {s : State} {n : Nat} {o : Oven} : Low n → o.valve = (s.oven n).valve →
    x n ∨ o.phase = (s.oven n).phase ∨ o.phase.Holds ∨ o.phase = .charging → L x s → L x (s.setOven n o)
  /-- PR's evaluation, the node heard or not (R111 to R113). -/
  turn {x : Nat → Prop} {s : State} {n : Nat} (heard : Bool) : Low n → L x s →
    L (without x n) (s.applyValve n (turnTo n (s.valveModeBy heard n) (s.oven n).valve))
  /-- A valve rewritten in the mode in force (R115, R117, R127). -/
  valve {x : Nat → Prop} {s : State} {n : Nat} {v : Valve} : Low n → v.mode = (s.oven n).valve.mode →
    x n ∨ v.manualFlag = (s.oven n).valve.manualFlag → ((s.oven n).valve.Lawful → v.Lawful) →
    (v.mode = .closed → v.command = (s.oven n).valve.command) → L x s → L x (s.setOven n ((s.oven n).setValve v))
  /-- A push is past SPOT only where one was already, or at an oven set aside. -/
  pu {x : Nat → Prop} {s : State} {u : PushUnit} :
    (∀ r, u.push = some r → Low r.oven ∧ (x r.oven ∨ r.stage = .spot ∨ s.pastSpot r.oven = true)) →
    (∀ r, u.stall = some r → Low r.oven) → L x s → L x (s.withPu u)
  main {x : Nat → Prop} {s : State} {m : MainRecord} : (s.pr.main.Within → m.Within) → L x s → L x (s.withMain m)
  mode {x : Nat → Prop} {s : State} {b : BatteryClock} : b.mode = .config ∨ (∀ n, x n) → L x s → L x (s.withBk b)
  size {x : Nat → Prop} {s : State} (n : Nat) (u : ScheduleUnit) : s.bk.mode = .config → L x s →
    L x (((s.withOvenCount n).withSu u).withFl (s.fl.resize n))
  floor {x : Nat → Prop} {s : State} {on : Bool} : (on = true → (s.fl.entry .main).liveness = .live) → L x s →
    L x (s.setFloor on)
  /-- The main node's silence leaves the events brought about as the floor is withdrawn (R133). -/
  silenced {x : Nat → Prop} {s : State} : L x s → L x ((s.passed .mainNodeSilence).setFloor false)
  bring {x : Nat → Prop} {s : State} (cs : List Instr) : L x s → L x (s.bring cs)
  fallSilent {x : Nat → Prop} {s : State} (y : Node) : L x s → L x (s.fallSilent y)
  hear {x : Nat → Prop} {s : State} (y : Node) (w : Word) : L x s →
    L x (s.setEntry y { s.fl.entry y with liveness := .live, quiet := 0, lastReport := w })
  tick {x : Nat → Prop} {s : State} : L x s → L x (s.withFl s.fl.tick)
  reset {x : Nat → Prop} {s : State} (b : Baud) (e : Bool) : L x s → L noOven (s.takeReset b e)
  cutOff {x : Nat → Prop} {s : State} : L x s → L x (resetAsserted s)
  held {x : Nat → Prop} {s : State} (e : Bool) : L x s → L x (s.withPins ⟨true, e⟩)

namespace Kept

section
variable {Low : Nat → Prop} {L : (Nat → Prop) → State → Prop} (k : Kept Low L) {x : Nat → Prop} {s t : State} {n : Nat}
  {r : PushRecord}
include k

/-! ### Valves and the main -/

theorem inert (h : Inert s t) (law : L x s) : L x t := k.same h.offtake law

/-- An oven rewritten is set aside until its valve is evaluated. -/
theorem rewrite {o : Oven} (low : Low n) (valve : o.valve = (s.oven n).valve) (law : L x s) : L (orElse x n) (s.setOven n o) :=
  k.oven low valve (.inl (.inr rfl)) (k.aside (fun _ => .inl) law)

theorem turned (heard : Bool) (low : Low n) (law : L (orElse x n) s) :
    L x (s.applyValve n (turnTo n (s.valveModeBy heard n) (s.oven n).valve)) :=
  k.aside (fun _ ⟨h, other⟩ => h.resolve_right other) (k.turn heard low law)

theorem evalMended (low : Low n) (law : L (orElse x n) s) : L x (s.evalValve n) := k.turned _ low law

theorem evalValve (low : Low n) (law : L x s) : L x (s.evalValve n) := k.evalMended low (k.aside (fun _ => .inl) law)

theorem evalSilent (low : Low n) (law : L x s) : L x (s.evalSilent n) := k.turned _ low (k.aside (fun _ => .inl) law)

theorem evalSample (low : Low n) (law : L x s) : L x (s.evalSample n) := k.turned _ low (k.aside (fun _ => .inl) law)

/-- After an evaluation of each of them, the ovens listed are set aside no more. -/
theorem evalValves (ns : List Nat) : ∀ {x : Nat → Prop} {s : State}, (∀ n ∈ ns, Low n) → L x s →
    L (fun m => x m ∧ m ∉ ns) (s.evalValves ns) := by
  induction ns with
  | nil => exact fun _ law => k.aside (fun _ h => ⟨h, by simp⟩) law
  | cons n ns ih =>
    intro x s low law
    have first := k.turn (s.live (servingNode n)) (low n (.head _)) law
    refine k.aside (fun m ⟨⟨h, other⟩, rest⟩ => ⟨h, ?_⟩) (ih (fun m hm => low m (.tail _ hm)) first)
    simp [other, rest]

theorem turnMain (m : ValveMode) (law : L x s) : L x (s.turnMain m) := by
  unfold State.turnMain State.sendMainManual
  split_ifs
  · exact law
  · exact k.same (State.offtake_issue _ _ _) (k.main (fun ⟨_, manual⟩ => ⟨manual, manual⟩) law)
  · exact k.main id law

theorem evalMain (law : L x s) : L x s.evalMain := k.turnMain _ law

/-! ### Push start and candidate evaluation -/

theorem startPush (o : Origin) (c : Car) (low : Low n) (law : L x s) : L x (s.startPush n o c) := by
  have pushed : L x (s.withPu { s.pu with counter := s.pu.counter + 1, push := some (s.newPush n o c) }) :=
    k.pu (fun _ h => by cases h; exact ⟨low, .inr (.inl rfl)⟩) (fun _ h => k.stallLow law h) law
  have written := k.evalMended low (k.rewrite low (o := { State.oven _ n with phase := .pushing, late := false }) rfl pushed)
  exact k.same (by simp [State.startPush, State.trimSchedule]) written

theorem low_of_inRange (range : s.inRange n = true) : Low n := k.low (of_decide_eq_true range).1

theorem tryPush (o : Origin) (pushable : s.pushable n = true) (law : L x s) : L x (s.tryPush n o) := by
  have range : s.inRange n = true := by
    simp only [State.pushable, Bool.and_eq_true] at pushable
    exact pushable.1.1
  unfold State.tryPush
  split
  · exact k.startPush o _ (k.low_of_inRange range) law
  · exact law

theorem judgeCursor (law : L x s) : L x (s.judgeCursor n) := by
  unfold State.judgeCursor
  split_ifs with out pushable
  · exact law
  · exact k.tryPush _ pushable law
  · split
    case h_1 | h_2 => exact k.same (State.offtake_withSu ..) law
    case h_3 | h_4 | h_5 => exact k.inert (s.inert_passOver n) law
    case h_6 | h_7 => exact law

theorem evaluate (law : L x s) : L x s.evaluate := by
  unfold State.evaluate
  split_ifs
  · split
    · next head => exact k.tryPush _ (Option.filter_eq_some_iff.mp head).2 law
    · split
      · next found => exact k.tryPush _ (List.find?_some found) law
      · exact k.judgeCursor (k.same (State.offtake_withSu ..) law)
  · exact law

/-! ### The ends of a push -/

theorem endPush (silent : Bool) (low : Low n) (law : L (orElse x n) s) : L x (s.endPush n silent) := by
  have ended : L x ((s.setPush none).evalValve n) :=
    k.evalMended low (k.pu (u := { s.pu with push := none }) nofun (fun _ h => k.stallLow law h) law)
  cases silent with
  | true => exact ended
  | false => exact k.evaluate ended

theorem completePush (silent : Bool) (low : Low r.oven) (law : L x s) : L x (s.completePush r silent) :=
  k.endPush silent low (k.same (by simp) (k.rewrite
    (o := { s.oven r.oven with phase := .empty, progress := 0, lastPushNumber := r.number }) low rfl law))

theorem returnReady (y : Stage) (cause : AbortCause) (silent : Bool) (low : Low r.oven) (law : L x s) :
    L x (s.returnReady r y cause silent) :=
  k.endPush silent low (k.same (by simp [State.setPhase]) (k.rewrite (o := { s.oven r.oven with phase := .ready }) low rfl law))

theorem undoPush (cause : AbortCause) (low : Low r.oven) (law : L x s) : L x (s.undoPush r cause) :=
  k.returnReady _ _ _ low (k.same (by simp) law)

theorem completeRetreat (low : Low r.oven) (law : L x s) : L x (s.completeRetreat r) :=
  k.returnReady _ _ _ low (k.same (by simp) law)

theorem makeStall (cause : AbortCause) (first : Option AbortCause) (low : Low r.oven) (law : L x s) :
    L x (s.makeStall r cause first) := by
  refine k.inert (State.inert_pauseSchedule _ _ _) (k.same (State.offtake_raise ..) (k.evalMended low (k.rewrite low rfl ?_)))
  exact k.pu nofun (fun _ h => by cases h; exact low) law

/-! ### Stages and aborts -/

end

end Kept

end Sys2Proof.Machine

/-!
SUPPORT. What every law of the offtake has to bear, continued: the stages of a push, the events of every block, and the requests.
-/

namespace Sys2Proof.Machine

/-! ### Facts about the model's operations -/

theorem State.pastSpot_of_push {s : State} {r : PushRecord} (pushed : s.pu.push = some r) (late : r.stage ≠ .spot) :
    s.pastSpot r.oven = true := by
  simpa [State.pastSpot, pushed] using late

/-- The hand-over leaves the push its oven and its stage (R68). -/
theorem State.handOver_push (s : State) (r : PushRecord) :
    ∃ r1, (s.handOver r).pu.push = some r1 ∧ r1.oven = r.oven ∧ r1.stage = r.stage := by
  unfold State.handOver
  split_ifs
  · exact ⟨{ r with claimed := false }, by rw [State.dispatchCar_pu]; rfl, rfl, rfl⟩
  · exact ⟨{ r with claimed := false, emptyCar := true }, by rw [State.releaseCar_pu]; rfl, rfl, rfl⟩

@[simp] theorem State.judgeStroke_pu (s : State) (r : PushRecord) : (s.judgeStroke r).pu = s.pu := by
  unfold State.judgeStroke
  split_ifs <;> rfl

theorem State.one_le_of_served {s : State} {m : Fin 12} {n : Nat} (served : n ∈ s.served m) : 1 ≤ n := by
  simp only [State.served, List.mem_filter, List.mem_map] at served
  obtain ⟨⟨_, _, rfl⟩, _⟩ := served
  omega

theorem State.one_le_of_ovenNumbers {s : State} {n : Nat} (listed : n ∈ s.ovenNumbers) : 1 ≤ n :=
  ((s.mem_ovenNumbers n).mp listed).1

/-- An evaluation that gives the mode in force writes nothing (R112). -/
theorem State.inert_evalValve_of_same {s : State} {n : Nat} (same : s.valveMode n = (s.oven n).valve.mode) :
    Inert s (s.evalValve n) := by
  rw [State.evalValve, State.applyValve, turnTo, if_pos same]
  exact (Inert.setOven rfl rfl).trans (.issueAll _)

/-- A loop's valve keeps to R128, whatever the setpoint and the step. -/
theorem State.loopValve_lawful {s : State} {o : Oven} {p : Int} (lawful : o.valve.Lawful) : (s.loopValve o p).Lawful := by
  obtain ⟨_, _, _, manual⟩ := lawful
  have setpoint : (s.loopValve o p).setpoint = (s.setpoint o).1 := rfl
  have command : (s.loopValve o p).command ≤ 1023 := by
    simp only [State.loopValve, stepCommand, clampInt]
    omega
  refine ⟨?_, ?_, command, manual⟩ <;> · rw [setpoint]; simp only [State.setpoint, clampInt]; omega

theorem clampNat_le {lo hi x : Nat} (order : lo ≤ hi) : clampNat lo hi x ≤ hi :=
  max_le order (min_le_left hi x)

namespace Kept

section
variable {Low : Nat → Prop} {L : (Nat → Prop) → State → Prop} (k : Kept Low L) {x : Nat → Prop} {s t : State} {n : Nat}
  {r r' : PushRecord}
include k

/-! ### Stages and aborts -/

/-- The push record rewritten at its oven, past SPOT only where it was. -/
theorem rewritePush (pushed : s.pu.push = some r) (oven : r'.oven = r.oven) (stage : r'.stage = .spot ∨ r.stage ≠ .spot)
    (law : L x s) : L x (s.setPush (some r')) := by
  refine k.pu (fun _ h => ?_) (fun _ h => k.stallLow law h) law
  cases h
  rw [oven]
  exact ⟨k.pushLow law pushed, .inr (stage.imp_right (State.pastSpot_of_push pushed))⟩

theorem forgetStall (law : L x s) : L x (s.withPu { s.pu with stall := none }) := by
  refine k.pu (fun r pushed => ⟨k.pushLow law pushed, .inr ?_⟩) nofun law
  exact (em (r.stage = .spot)).imp_right (State.pastSpot_of_push pushed)

theorem enterIsolate (low : Low r.oven) (law : L x s) : L x (s.enterIsolate r) := by
  refine k.same (State.offtake_issueAll _ _) (k.evalMended low (k.pu (fun _ h => ?_) (fun _ h => k.stallLow law h)
    (k.aside (fun _ => .inl) law)))
  cases h
  exact ⟨low, .inl (.inr rfl)⟩

theorem judgeSpot (law : L x s) : L x s.judgeSpot := by
  unfold State.judgeSpot
  split
  · next pushed =>
    split_ifs
    · exact k.enterIsolate (k.pushLow law pushed) law
    · exact law
  · exact law

theorem enterRetreat (cause : AbortCause) (pushed : s.pu.push = some r) (late : r.stage ≠ .spot) (law : L x s) :
    L x (s.enterRetreat r cause) :=
  k.rewritePush (s := s.issueAll _) pushed rfl (.inr late) (k.same (State.offtake_issueAll _ _) law)

theorem abortDoorsOn (cause : AbortCause) (low : Low r.oven) (law : L x s) : L x (s.abortDoorsOn r cause) :=
  k.completePush _ low (k.same (State.offtake_issueAll _ _) law)

theorem abortRetreat (cause : AbortCause) (pushed : s.pu.push = some r) (retreat : r.stage = .retreat) (law : L x s) :
    L x (s.abortRetreat r cause) := by
  have low := k.pushLow law pushed
  cases cause with
  | car => exact k.rewritePush pushed rfl (.inr (by simp [retreat])) law
  | estop => exact k.makeStall .estop _ low (k.same (State.offtake_issueAll _ _) law)
  | timeout | host | pusherSilent | guideSilent | recheck => exact k.makeStall _ _ low law

theorem abortPush (cause : AbortCause) (law : L x s) : L x (s.abortPush cause) := by
  unfold State.abortPush
  split
  · exact law
  · next r pushed =>
    have low := k.pushLow law pushed
    split
    case h_1 | h_2 => exact k.undoPush cause low law
    case h_3 stage =>
      split_ifs
      · exact k.makeStall _ _ low (k.same (State.offtake_issueAll _ _) law)
      · exact k.enterRetreat cause pushed (by simp [stage]) law
    case h_4 => exact k.makeStall _ _ low (k.same (State.offtake_issueAll _ _) law)
    case h_5 => exact k.abortDoorsOn cause low law
    case h_6 retreat => exact k.abortRetreat cause pushed retreat law

theorem completeDoorsOff (pushed : s.pu.push = some r) (late : r.stage ≠ .spot) (law : L x s) : L x (s.completeDoorsOff r) := by
  unfold State.completeDoorsOff
  split_ifs
  · exact k.rewritePush (s := s.issueAll _) pushed rfl (.inr late) (k.same (State.offtake_issueAll _ _) law)
  · exact k.enterRetreat .recheck pushed late law

theorem handOver (pushed : s.pu.push = some r) (late : r.stage ≠ .spot) (law : L x s) : L x (s.handOver r) := by
  unfold State.handOver
  split_ifs
  · exact k.same (State.offtake_dispatchCar _ _) (k.rewritePush pushed rfl (.inr late) law)
  · exact k.same (State.offtake_releaseCar _ _) (k.rewritePush pushed rfl (.inr late) law)

theorem completeRam (pushed : s.pu.push = some r) (late : r.stage ≠ .spot) (law : L x s) : L x (s.completeRam r) := by
  have stroke : (s.judgeStroke r).pu.push = some r := by rw [State.judgeStroke_pu, pushed]
  have handed := k.handOver stroke late (k.inert (s.inert_judgeStroke r) law)
  obtain ⟨r1, present, _, stage⟩ := (s.judgeStroke r).handOver_push r
  simp only [State.completeRam, present]
  exact k.same (State.offtake_issueAll _ _) (k.rewritePush present rfl (.inr (stage ▸ late)) handed)

theorem judgeRam (pushed : s.pu.push = some r) (late : r.stage ≠ .spot) (law : L x s) : L x (s.judgeRam r) := by
  have copied : L x (s.setPush (some (r.stroke s.pu.pusher))) := k.rewritePush pushed rfl (.inr late) law
  unfold State.judgeRam
  dsimp only
  split_ifs
  · exact k.completeRam rfl late copied
  · exact copied

theorem pusherReport (y : PusherReport) (law : L x s) : L x (pusherReport y s) := by
  have seen : L x (s.withPu { s.pu with pusher := .of y }) := k.inert (.withPu rfl rfl) law
  unfold Machine.pusherReport
  dsimp only
  split
  · exact seen
  · next r pushed =>
    split
    case h_1 => exact k.judgeSpot seen
    case h_2 stage => exact k.judgeRam pushed (by simp [stage]) seen
    case h_3 | h_4 | h_5 | h_6 => exact seen

theorem sendLatch (law : L x s) : L x s.sendLatch := by
  unfold State.sendLatch
  split
  · exact law
  · next pushed =>
    split_ifs with fits
    · exact k.rewritePush (s := s.issueAll _) pushed rfl (.inl fits.1) (k.same (State.offtake_issueAll _ _) law)
    · exact law

theorem guideReport (y : GuideReport) (law : L x s) : L x (guideReport y s) :=
  k.judgeSpot (k.sendLatch (k.inert (.withPu rfl rfl) law))

theorem confirm (e : OvenEntry) (pushed : s.pu.push = some r) (law : L x s) : L x (s.confirm r e) := by
  have low := k.pushLow law pushed
  unfold State.confirm
  split
  case h_1 | h_4 => exact law
  case h_2 stage =>
    split_ifs
    · exact k.rewritePush (s := s.issueAll _) pushed rfl (.inr (by simp [stage])) (k.same (State.offtake_issueAll _ _) law)
    · exact law
  case h_3 stage =>
    split_ifs
    · exact k.completeDoorsOff pushed (by simp [stage]) law
    · exact law
  case h_5 =>
    split_ifs
    · exact k.completePush _ low law
    · exact law
  case h_6 =>
    split_ifs
    · exact k.completeRetreat low law
    · exact law

theorem stageConfirmation (m : Fin 12) (es : List OvenEntry) (law : L x s) : L x (stageConfirmation m es s) := by
  unfold Machine.stageConfirmation
  split
  · exact law
  · next pushed =>
    split
    · exact law
    · exact k.confirm _ pushed (k.inert (.withPu rfl rfl) law)

theorem stageTimerExpiry (law : L x s) : L x (stageTimerExpiry s) := by
  unfold Machine.stageTimerExpiry
  split
  · exact law
  · split_ifs
    · exact k.abortPush _ law
    · exact law

/-! ### The oven table -/

theorem expireOven (low : Low n) (law : L x s) : L x (s.expireOven n) := by
  have phase : ((s.oven n).cokeStep s.cc.heat).phase = (s.oven n).phase ∨ ((s.oven n).cokeStep s.cc.heat).phase.Holds :=
    ((s.oven n).cokeStep_phase s.cc.heat).imp_right And.right
  have stepped (late : Bool) (bs : List NoticeBody) :
      L x ((s.setOven n { (s.oven n).cokeStep s.cc.heat with late := late }).raiseAll bs) :=
    k.same (State.offtake_raiseAll _ _) (k.oven low (Oven.cokeStep_valve ..) (.inr (phase.imp_right .inl)) law)
  exact iteInduction (fun _ => stepped _ _) fun _ => k.evalValve low (stepped _ _)

theorem cokeMinuteExpiry (law : L x s) : L x (cokeMinuteExpiry s) := by
  unfold Machine.cokeMinuteExpiry
  split_ifs
  · refine k.evaluate ?_
    rw [State.stepMinute_eq]
    exact List.foldlRecOn (motive := L x) _ _ (k.inert ((Inert.withCc _).trans (.withBk rfl)) law) fun _ h n hn =>
      k.expireOven (k.low (State.one_le_of_ovenNumbers hn)) h
  · exact law

theorem slotCarry (law : L x s) : L x (slotCarry s) := by
  unfold Machine.slotCarry
  dsimp only
  split_ifs
  · exact k.same (s := s) rfl law
  · exact k.evaluate (k.same (s := s) rfl law)
  · exact law

/-! ### Doors -/

theorem applyDoor (y : Side) (a : DoorStep) (low : Low n) (law : L x s) : L x (s.applyDoor n y a) := by
  have written : L x (((s.setOven n ((s.oven n).setDoor y a.door)).issueAll a.commands).raiseAll a.notices) :=
    k.inert (((Inert.setDoor n y a.door).trans (.issueAll _)).trans (.raiseAll _)) law
  unfold State.applyDoor
  dsimp only
  split_ifs
  · exact written
  · exact k.evalValve low written

theorem takeDoors (m : Fin 12) (es : List OvenEntry) (low : Low n) (law : L x s) : L x (s.takeDoors m es n) := by
  unfold State.takeDoors
  split
  · exact k.applyDoor _ _ low (k.applyDoor _ _ low law)
  · exact law

theorem dropTaken (m : Fin 12) (law : L x s) : L x (s.dropTaken m) := by
  unfold State.dropTaken
  split_ifs
  · exact k.inert (.withPu rfl rfl) law
  · exact law

theorem ovenReport (m : Fin 12) (es : List OvenEntry) (law : L x s) : L x (ovenReport m es s) :=
  k.dropTaken m (List.foldlRecOn (motive := L x) _ _ law fun _ h _ hn => k.takeDoors m es (k.low (State.one_le_of_served hn)) h)

theorem settleTimerExpiry (m : Nat) (y : Side) (law : L x s) : L x (settleTimerExpiry m y s) := by
  unfold Machine.settleTimerExpiry
  dsimp only
  split_ifs with ready
  · exact k.applyDoor _ _ (k.low_of_inRange (s := s) (by simp_all)) law
  · exact k.inert (.setDoor _ _ _) law
  · exact law

theorem doorOffTimerExpiry (m : Nat) (y : Side) (law : L x s) : L x (doorOffTimerExpiry m y s) := by
  unfold Machine.doorOffTimerExpiry
  dsimp only
  split_ifs with ready
  · exact k.applyDoor _ _ (k.low_of_inRange (s := s) (by simp_all)) law
  · exact k.inert (.setDoor _ _ _) law
  · exact law

/-! ### Samples, silence and return at PR -/

theorem runLoop (low : Low n) (law : L x s) : L x (s.runLoop n) := by
  unfold State.runLoop
  dsimp only
  split
  · next auto _ =>
    exact k.same (State.offtake_issueAll _ _)
      (k.valve low rfl (.inr rfl) State.loopValve_lawful (fun h => absurd (auto.symm.trans h) nofun) law)
  · exact law

theorem takeSample (e : OvenEntry) (low : Low n) (law : L x s) : L x (s.takeSample n e) := by
  have recorded : L x (s.setOven n ((s.oven n).setValve ((s.oven n).valve.record e))) :=
    k.valve low rfl (.inr rfl) id (fun _ => rfl) law
  unfold State.takeSample
  dsimp only
  refine k.runLoop low ?_
  split_ifs
  · exact recorded
  · exact k.evalSample low recorded

theorem ovenSample (m : Fin 12) (es : List OvenEntry) (law : L x s) : L x (ovenSample m es s) := by
  refine List.foldlRecOn (motive := L x) _ _ law fun t h n hn => ?_
  split
  · exact k.takeSample _ (k.low (State.one_le_of_served hn)) h
  · exact h

theorem runMainLoop (law : L x s) : L x s.runMainLoop := by
  unfold State.runMainLoop
  dsimp only
  split
  · refine k.same (State.offtake_issue _ _ _) (k.main (fun ⟨_, manual⟩ => ⟨?_, manual⟩) law)
    simp only [stepCommand, clampInt]
    omega
  · exact law

theorem mainReport (y : MainReport) (law : L x s) : L x (mainReport y s) := by
  unfold Machine.mainReport
  dsimp only
  refine k.runMainLoop ?_
  split_ifs
  · exact k.main id law
  · exact k.turnMain _ (k.main id law)

theorem ovenNodeSilence (m : Fin 12) (law : L x s) : L x (ovenNodeSilence m s) :=
  List.foldlRecOn (motive := L x) _ _ law fun _ h _ hn => k.evalSilent (k.low (State.one_le_of_served hn)) h

theorem ovenNodeReturn (m : Fin 12) (law : L x s) : L x (ovenNodeReturn m s) :=
  List.foldlRecOn (motive := L x) _ _ law fun _ h _ hn => k.evalValve (k.low (State.one_le_of_served hn)) h

theorem mainNodeReturn (law : L x s) : L x (mainNodeReturn s) :=
  k.evalMain (k.floor (fun live => of_decide_eq_true live) law)

/-! ### Cars -/

theorem faultCar (c : Car) (cause : FaultCause) (law : L x s) : L x (s.faultCar c cause) := by
  have faulted : L x (s.enterFaulted c cause) := k.same (State.offtake_enterFaulted _ _ _) law
  unfold State.faultCar
  dsimp only
  split_ifs
  · exact k.abortPush _ faulted
  · exact faulted

theorem arrive (c : Car) (l : Location) (law : L x s) : L x (s.arrive c l) := by
  have stopped : L x (s.setCar c { s.car c with target := none, travelTimer := none }) := k.same (State.offtake_setCar _ _ _) law
  unfold State.arrive
  dsimp only
  split
  case h_1 => exact k.judgeSpot (k.same (State.offtake_setCar _ _ _) stopped)
  case h_2 => exact k.same (State.offtake_arriveTower _ _ _) stopped
  case h_3 => exact k.same (State.offtake_beginDump _ _) stopped
  all_goals exact stopped

theorem endDump (c : Car) (law : L x s) : L x (s.endDump c) := by
  unfold State.endDump
  dsimp only
  split
  · exact k.evaluate (k.same (by simp [State.fillBay]) law)
  · exact law

theorem judgeCar (c : Car) (law : L x s) : L x (s.judgeCar c) := by
  unfold State.judgeCar
  dsimp only
  split_ifs
  · exact law
  · exact k.faultCar c _ law
  · exact k.faultCar c _ law
  · exact k.arrive c _ law
  · unfold State.judgeStatus
    split
    case h_1 => exact k.same (State.offtake_loadCar _ _) law
    case h_2 => exact k.endDump c law
    case h_3 | h_4 => exact law

theorem carReport (c : Car) (y : CarReport) (law : L x s) : L x (carReport c y s) :=
  k.judgeCar c (k.same (State.offtake_setCar _ _ _) law)

theorem towerReport (y : TowerReport) (law : L x s) : L x (towerReport y s) := by
  refine k.same ?_ law
  unfold Machine.towerReport
  dsimp only
  split
  · split_ifs <;> rfl
  · rfl

theorem quenchTimerExpiry (c : Car) (law : L x s) : L x (quenchTimerExpiry c s) := by
  refine k.same ?_ law
  unfold Machine.quenchTimerExpiry
  dsimp only
  split_ifs <;> simp

theorem drainTimerExpiry (c : Car) (law : L x s) : L x (drainTimerExpiry c s) := by
  refine k.same ?_ law
  unfold Machine.drainTimerExpiry
  dsimp only
  split_ifs <;> simp

theorem dumpTimerExpiry (c : Car) (law : L x s) : L x (dumpTimerExpiry c s) := by
  unfold Machine.dumpTimerExpiry
  dsimp only
  split_ifs
  · exact k.faultCar c _ law
  · exact k.same (State.offtake_setCar _ _ _) law
  · exact law

theorem bayHoldTimerExpiry (b : Nat) (law : L x s) : L x (bayHoldTimerExpiry b s) := by
  unfold Machine.bayHoldTimerExpiry
  split_ifs
  · exact k.same (State.offtake_freeBay _ _) law
  · exact law

theorem travelTimerExpiry (c : Car) (law : L x s) : L x (travelTimerExpiry c s) := by
  unfold Machine.travelTimerExpiry
  dsimp only
  split_ifs
  · exact k.faultCar c _ law
  · exact k.same (State.offtake_setCar _ _ _) law
  · exact law

theorem carNodeSilence (c : Car) (law : L x s) : L x (carNodeSilence c s) := by
  unfold Machine.carNodeSilence
  split_ifs
  · exact k.faultCar c _ law
  · exact law

/-! ### The field link and the battery second -/

theorem silenceWindowExpiry (y : Node) (law : L x s) : L x (silenceWindowExpiry y s) := by
  unfold Machine.silenceWindowExpiry
  split_ifs
  · exact k.fallSilent y law
  · exact law

theorem refresh (y : Node) (law : L x s) : L x (s.refresh y) := by
  have heard := k.hear y s.bk.seconds law
  unfold State.refresh
  dsimp only
  split
  · exact heard
  · exact k.bring _ (k.same (State.offtake_raise _ _) heard)
  · exact k.bring _ (k.same (State.offtake_raise _ _) heard)

theorem takeFieldFrame (id kind : Byte) (body : List Byte) (received : Half) (law : L x s) :
    L x (s.takeFieldFrame id kind body received) := by
  unfold State.takeFieldFrame
  split_ifs
  · exact law
  · split
    · exact law
    · split_ifs
      · split
        · exact k.bring _ (k.refresh _ (k.silenceWindowExpiry _ law))
        · exact law
      · exact law

theorem fieldFrameReceived (id kind : Byte) (body : List Byte) (received : Half) (law : L x s) :
    L x (fieldFrameReceived id kind body received s) := by
  unfold Machine.fieldFrameReceived
  split_ifs
  · exact law
  · exact k.takeFieldFrame _ _ _ _ (k.inert (.withFl rfl) law)

theorem fieldByteReceived (b : Byte) (law : L x s) : L x (fieldByteReceived b s) := by
  have received (y : FieldReceiver) : L x (s.fieldReceive y) := k.inert (.withFl rfl) law
  unfold Machine.fieldByteReceived
  split
  · exact law
  · split
    · exact received _
    · exact law
    · unfold State.fieldCollect
      split_ifs
      · exact received _
      · split
        · exact k.fieldFrameReceived _ _ _ _ law
        · exact received _

theorem batterySecond (law : L x s) : L x (batterySecond s) := by
  have counted : L x ((s.withBk { s.bk with seconds := s.bk.seconds + 1 }).withFl s.fl.tick) :=
    k.tick (s := s.withBk _) (k.inert (.withBk rfl) law)
  unfold Machine.batterySecond State.bringOwed
  dsimp only
  refine k.bring _ ?_
  split_ifs
  · exact k.inert (State.inert_tickRun _) counted
  · exact counted

end

/-! ### Requests -/

section
variable {Low : Nat → Prop} {L : (Nat → Prop) → State → Prop} (k : Kept Low L) {s : State} {n : Nat}
include k

theorem chargeBegin (b : Byte) (law : L noOven s) : L noOven (chargeBegin b s).state := by
  unfold Machine.chargeBegin
  dsimp only
  split
  · exact law
  · next taken =>
    have low := k.low_of_inRange (State.chargeRefusal_none taken).1
    exact k.evalMended low (k.rewrite low rfl law)

theorem chargeEnd (b : Byte) (law : L noOven s) : L noOven (chargeEnd b s).state := by
  unfold Machine.chargeEnd
  dsimp only
  split_ifs with _ out
  · exact law
  · exact law
  · exact law
  · have low := k.low_of_inRange (n := b.toNat) (s := s) (by simpa using out)
    exact k.evalMended low (k.rewrite low rfl law)

theorem ovenLoad (b p : Byte) (y m : Word) (h : Half) (law : L noOven s) : L noOven (ovenLoad b p y m h s).state := by
  unfold Machine.ovenLoad
  dsimp only
  split_ifs with _ out
  · exact law
  · exact law
  · split
    · exact law
    · next f _ =>
      have low := k.low_of_inRange (n := b.toNat) (s := s) (by simpa using out)
      refine k.evalMended low (k.rewrite low ?_ law)
      cases f <;> rfl

theorem pushNow (b : Byte) (law : L noOven s) : L noOven (pushNow b s).state := by
  unfold Machine.pushNow
  dsimp only
  split
  · exact law
  · next taken =>
    split
    · exact law
    · refine k.startPush _ _ (k.low_of_inRange (s := s) ?_) law
      unfold State.pushRefusal at taken
      split_ifs at taken with _ out
      simpa using out

theorem abortRequest (number : Half) (law : L noOven s) : L noOven (Machine.abortPush number s).state := by
  unfold Machine.abortPush
  split_ifs
  · exact law
  · split
    · exact law
    · split_ifs
      · exact law
      · exact law
      · exact k.abortPush _ law

theorem clearStall (b : Byte) (law : L noOven s) : L noOven (clearStall b s).state := by
  unfold Machine.clearStall
  split_ifs
  · exact law
  · split
    · exact law
    · split
      · exact law
      · next r stalled =>
        have low := k.stallLow law stalled
        have emptied : L (orElse noOven r.oven) (s.setOven r.oven ((s.oven r.oven).unstall (b == 1) r.number)) :=
          k.rewrite low (by unfold Oven.unstall; split_ifs <;> rfl) law
        have released := k.same (t := ((s.setOven r.oven ((s.oven r.oven).unstall (b == 1) r.number)).issueAll
            [toOven r.oven (.cap r.oven false)]).releaseStalled r) (by simp) emptied
        exact k.evalMended low (k.same (State.offtake_raise _ _) (k.forgetStall released))

theorem evalManual (low : Low n) (law : L (orElse noOven n) s) : L noOven (s.evalManual n) := by
  unfold State.evalManual
  dsimp only
  split_ifs with manual
  · have same := State.inert_evalValve_of_same (manual.2.trans manual.1.symm)
    have judged : L noOven s := k.same same.offtake.symm (k.evalMended low law)
    exact k.same (State.offtake_issueAll _ _) (k.valve low rfl (.inr rfl)
      (fun ⟨least, most, _, position⟩ => ⟨least, most, position, position⟩)
      (fun closed => absurd (manual.1.symm.trans closed) nofun) judged)
  · exact k.evalMended low law

theorem setValveManual (b : Byte) (position : Half) (law : L noOven s) : L noOven (setValveManual b position s).state := by
  unfold Machine.setValveManual
  dsimp only
  split_ifs with out
  · exact law
  · have low := k.low_of_inRange (n := b.toNat) (s := s) (by simpa using out)
    refine k.evalManual low (k.valve low rfl (.inl (.inr rfl)) (fun ⟨least, most, command, _⟩ => ?_) (fun _ => rfl)
      (k.aside (fun _ => .inl) law))
    exact ⟨least, most, command, clampNat_le (by decide)⟩

theorem releaseValve (b : Byte) (law : L noOven s) : L noOven (releaseValve b s).state := by
  unfold Machine.releaseValve
  dsimp only
  split_ifs with out
  · exact law
  · exact law
  · have low := k.low_of_inRange (n := b.toNat) (s := s) (by simpa using out)
    exact k.evalMended low (k.valve low rfl (.inl (.inr rfl)) id (fun _ => rfl) (k.aside (fun _ => .inl) law))

theorem setMain (a : Half) (b c d e : Byte) (f : Half) (law : L noOven s) : L noOven (setMain a b c d e f s).state := by
  unfold Machine.setMain
  split
  · exact law
  · next manual _ =>
    have written : L noOven (s.withMain (s.pr.main.written a b c d manual f)) :=
      k.main (fun ⟨command, _⟩ => ⟨command, clampNat_le (by decide)⟩) law
    show L noOven (State.evalMainManual _)
    unfold State.evalMainManual State.sendMainManual
    split_ifs
    · exact k.same (State.offtake_issue _ _ _) (k.main (fun ⟨_, position⟩ => ⟨position, position⟩) written)
    · exact k.main id written

theorem carServiceIn (b : Byte) (law : L noOven s) : L noOven (carServiceIn b s).state := by
  unfold Machine.carServiceIn
  split
  · exact law
  · split_ifs
    · exact law
    · exact law
    · exact k.evaluate (k.same (State.offtake_setCar _ _ _) law)

theorem carServiceOut (b : Byte) (law : L noOven s) : L noOven (carServiceOut b s).state := by
  unfold Machine.carServiceOut
  split
  · exact law
  · dsimp only
    split
    case h_2 => exact k.same (State.offtake_setCar _ _ _) law
    case h_3 => exact k.same (State.offtake_recoverCar _ _) law
    all_goals exact law

/-- The valves of ovens 1 to N and the main evaluated, as START and STOP do: no oven is aside any more. -/
theorem evalModes {x : Nat → Prop} (law : L x s) : L noOven ((s.evalValves s.ovenNumbers).evalMain) := by
  have valves := k.evalValves s.ovenNumbers (fun _ hn => k.low (State.one_le_of_ovenNumbers hn)) law
  refine k.evalMain (k.whole (fun n least most => ?_) valves)
  have count : (s.evalValves s.ovenNumbers).ovenCount = s.ovenCount :=
    List.foldlRecOn (motive := fun t : State => t.ovenCount = s.ovenCount) _ _ rfl fun u h n _ => (u.evalValve_ovenCount n).trans h
  exact fun ⟨_, other⟩ => other ((s.mem_ovenNumbers n).mpr ⟨least, most.trans_eq count⟩)

theorem start (law : L noOven s) : L noOven (start s).state := by
  unfold Machine.start
  split
  · exact law
  · have clocked : L (fun _ => True) (s.withCc s.cc.dropDue) := k.same (s := s) rfl (k.aside (fun _ _ => trivial) law)
    refine k.evalModes (x := fun _ => True) (k.inert (State.inert_startDoors _) ?_)
    exact k.inert (.withSu _)
      (k.mode (s := s.withCc s.cc.dropDue) (b := { s.bk with mode := .run }) (.inr fun _ => trivial) clocked)

theorem stop (law : L noOven s) : L noOven (stop s).state := by
  unfold Machine.stop
  split_ifs
  · exact law
  · exact law
  · have clocked : L noOven (s.withCc s.cc.dropDue) := k.same (s := s) rfl law
    exact k.evalModes (x := noOven)
      (k.inert (.withSu _) (k.mode (s := s.withCc s.cc.dropDue) (b := { s.bk with mode := .config }) (.inl rfl) clocked))

theorem setBattery (b : Byte) (law : L noOven s) : L noOven (setBattery b s).state := by
  unfold Machine.setBattery
  split_ifs with run
  · exact law
  · exact k.size _ _ (State.not_running run) law

theorem ownerOf (c : Instr) (s : State) (law : L noOven s) : L noOven (ownerOf c s).state := by
  cases c with
  | chargeBegin => exact k.chargeBegin _ law
  | chargeEnd => exact k.chargeEnd _ law
  | pushNow => exact k.pushNow _ law
  | abortPush => exact k.abortRequest _ law
  | clearStall => exact k.clearStall _ law
  | setValveManual => exact k.setValveManual _ _ law
  | releaseValve => exact k.releaseValve _ law
  | setMain => exact k.setMain _ _ _ _ _ _ law
  | carServiceIn => exact k.carServiceIn _ law
  | carServiceOut => exact k.carServiceOut _ law
  | ovenLoad => exact k.ovenLoad _ _ _ _ _ law
  | start => exact k.start law
  | stop => exact k.stop law
  | setBattery => exact k.setBattery _ law
  | _ => exact k.inert (inert_ownerOf s trivial) law

end

/-! ### The supervisory link -/

section
variable {Low : Nat → Prop} {L : (Nat → Prop) → State → Prop} (k : Kept Low L) {x : Nat → Prop} {s t : State} {c : Instr}
  {f : State → State} {owner : State → Answer}
include k

theorem withSl (y : SupLink) (law : L x s) : L x (s.withSl y) := k.same (s := s) rfl law

theorem ownerOfFrame (g : Frame) (s : State) (law : L noOven s) : L noOven (ownerOfFrame g s).state := by
  unfold Machine.ownerOfFrame
  cases decodeRequest g with
  | request c => exact k.ownerOf c s law
  | badValue | badLength | unknownKind => exact law

theorem takeRequest (g : Frame) (owned : ∀ s, L x s → L x (owner s).state) (law : L x s) : L x (takeRequest g owner s) := by
  unfold Machine.takeRequest
  split_ifs
  · exact k.withSl _ law
  · exact k.withSl _ (owned _ (k.withSl _ law))

theorem acceptFrame (g : Frame) (owned : ∀ s, L x s → L x (owner s).state) (law : L x s) : L x (acceptFrame g owner s) := by
  unfold Machine.acceptFrame
  split
  · exact k.takeRequest g owned law
  · exact k.withSl _ law
  · exact k.withSl _ law

theorem supFrameComplete (g : Frame) (received : Half) (law : L noOven s) : L noOven (supFrameComplete g received s) := by
  unfold Machine.supFrameComplete
  split_ifs
  · exact k.acceptFrame g (k.ownerOfFrame g) (k.withSl _ law)
  · exact k.withSl _ law

theorem supervisoryByteReceived (b : Byte) (law : L noOven s) : L noOven (supervisoryByteReceived b s) := by
  unfold Machine.supervisoryByteReceived State.supCollect
  split
  · exact k.withSl _ law
  · exact law
  · split_ifs
    · exact k.withSl _ law
    · split
      · exact k.supFrameComplete _ _ law
      · exact k.withSl _ law

theorem replySent (law : L noOven s) : L noOven (replySent s) := by
  unfold Machine.replySent State.takeSpare
  split_ifs
  · refine k.withSl _ ?_
    split
    · next g _ => exact k.takeRequest g (k.ownerOfFrame g) (k.withSl _ (k.withSl _ law))
    · exact k.withSl _ law
  · exact law

theorem supSilence (law : L x s) : L x (supSilence s) := by
  unfold Machine.supSilence
  split
  · exact law
  · exact k.withSl _ law
  · exact k.withSl _ law

theorem noticeSent (law : L x s) : L x (noticeSent s) := by
  unfold Machine.noticeSent
  split
  · exact k.withSl _ (k.withSl _ law)
  · exact law
  · exact law

/-! ### The step -/

/-- An event other than the main node's silence, taken. -/
theorem event (acts : ∀ {s}, L x s → L x (f s)) (h : s.event c f = .next t) (law : L x s)
    (other : c ≠ .mainNodeSilence) : L x t := by
  unfold State.event at h
  cases h
  split_ifs
  · exact law
  · exact acts (k.inert (.passed other) law)

theorem checked (acts : ∀ {s}, L x s → L x (f s)) (h : s.checked c f = .next t) (law : L x s)
    (other : c ≠ .mainNodeSilence) : L x t := by
  unfold State.checked at h
  split_ifs at h
  exact k.event acts h law other

theorem eventInert (acts : ∀ s, Inert s (f s)) (h : s.event c f = .next t) (law : L x s)
    (other : c ≠ .mainNodeSilence) : L x t := k.event (fun law => k.inert (acts _) law) h law other

theorem checkedInert (acts : ∀ s, Inert s (f s)) (h : s.checked c f = .next t) (law : L x s)
    (other : c ≠ .mainNodeSilence) : L x t := k.checked (fun law => k.inert (acts _) law) h law other

theorem hostRequest (h : hostRequest c (Machine.ownerOf c) s = .next t) (law : L noOven s) (other : c ≠ .mainNodeSilence) :
    L noOven t := by
  unfold Machine.hostRequest at h
  split at h
  · next g _ => exact k.checked (k.acceptFrame g (k.ownerOf c)) h law other
  · cases h

/-- The level of S_RTS reaches a part held in reset too (R210), and reads nothing of the offtake. -/
theorem sRts (y : Bool) (acts : ∀ s, Inert s (f s)) (law : L x s)
    (h : (if s.pins.inReset then .next (s.withRts y) else s.event c f) = Host.Outcome.next t) (other : c ≠ .mainNodeSilence) :
    L x t := by
  split_ifs at h
  · cases h; exact k.withSl _ law
  · exact k.eventInert acts h law other

theorem mainNodeSilence (h : s.event .mainNodeSilence mainNodeSilence = .next t) (law : L x s) : L x t := by
  unfold State.event at h
  cases h
  split_ifs
  · exact law
  · exact k.turnMain _ (k.silenced law)

theorem resetReleased (b1 b0 low : Bool) (law : L noOven s) : L noOven (resetReleased b1 b0 low s) := by
  unfold Machine.resetReleased
  split_ifs
  · exact k.reset _ _ law
  · exact law

theorem powerUp (high b1 b0 low : Bool) (law : L noOven s) : L noOven (powerUp high b1 b0 low s) := by
  unfold Machine.powerUp
  dsimp only
  split_ifs
  · exact k.reset _ _ law
  · exact k.held _ (k.reset _ _ law)

/-- Every command keeps the law. -/
theorem exec (h : exec c s = .next t) (law : L noOven s) : L noOven t := by
  have request : Machine.hostRequest c (Machine.ownerOf c) s = .next t → c ≠ .mainNodeSilence → L noOven t :=
    fun h other => k.hostRequest h law other
  cases c with
  | mainNodeSilence => exact k.mainNodeSilence h law
  | supFrameComplete => exact k.checked (k.supFrameComplete _ _) h law nofun
  | supervisoryByteReceived => exact k.event (k.supervisoryByteReceived _) h law nofun
  | supSilence => exact k.event k.supSilence h law nofun
  | replySent => exact k.event k.replySent h law nofun
  | noticeSent => exact k.event k.noticeSent h law nofun
  | sRtsAsserted => exact k.sRts true (f := sRtsAsserted) (fun _ => ⟨rfl, rfl⟩) law h nofun
  | sRtsDeasserted => exact k.sRts false (f := sRtsDeasserted) (fun _ => ⟨rfl, rfl⟩) law h nofun
  | fieldFrameReceived => exact k.checked (k.fieldFrameReceived _ _ _ _) h law nofun
  | fieldByteReceived => exact k.event (k.fieldByteReceived _) h law nofun
  | fieldLineIdle => exact k.eventInert inert_fieldLineIdle h law nofun
  | fieldFrameSent => exact k.eventInert inert_fieldFrameSent h law nofun
  | pusherReport => exact k.checked (k.pusherReport _) h law nofun
  | guideReport => exact k.checked (k.guideReport _) h law nofun
  | carReport => exact k.checked (k.carReport _ _) h law nofun
  | towerReport => exact k.event (k.towerReport _) h law nofun
  | mainReport => exact k.event (k.mainReport _) h law nofun
  | ovenReport => exact k.checked (k.ovenReport _ _) h law nofun
  | ovenSample => exact k.checked (k.ovenSample _ _) h law nofun
  | stageConfirmation => exact k.checked (k.stageConfirmation _ _) h law nofun
  | batterySecond => exact k.event k.batterySecond h law nofun
  | slotCarry => exact k.event k.slotCarry h law nofun
  | cokeMinuteExpiry => exact k.event k.cokeMinuteExpiry h law nofun
  | chargeTimerExpiry n => exact k.checkedInert (fun s => inert_chargeTimerExpiry s n) h law nofun
  | stageTimerExpiry => exact k.event k.stageTimerExpiry h law nofun
  | settleTimerExpiry => exact k.checked (k.settleTimerExpiry _ _) h law nofun
  | doorOffTimerExpiry => exact k.checked (k.doorOffTimerExpiry _ _) h law nofun
  | quenchTimerExpiry => exact k.event (k.quenchTimerExpiry _) h law nofun
  | drainTimerExpiry => exact k.event (k.drainTimerExpiry _) h law nofun
  | dumpTimerExpiry => exact k.event (k.dumpTimerExpiry _) h law nofun
  | bayHoldTimerExpiry => exact k.checked (k.bayHoldTimerExpiry _) h law nofun
  | travelTimerExpiry => exact k.event (k.travelTimerExpiry _) h law nofun
  | hotCokeTimerExpiry c => exact k.eventInert (fun s => inert_hotCokeTimerExpiry s c) h law nofun
  | silenceWindowExpiry => exact k.event (k.silenceWindowExpiry _) h law nofun
  | machineSilenceAtPu m => exact k.event (f := machineSilenceAtPu m) (k.abortPush _) h law nofun
  | silenceAtSu y => exact k.checkedInert (fun s => inert_silenceAtSu s y) h law nofun
  | carNodeSilence => exact k.event (k.carNodeSilence _) h law nofun
  | towerNodeSilence => exact k.eventInert (f := towerNodeSilence) Inert.refl h law nofun
  | ovenNodeSilence => exact k.event (k.ovenNodeSilence _) h law nofun
  | ovenNodeReturn => exact k.event (k.ovenNodeReturn _) h law nofun
  | mainNodeReturn => exact k.event k.mainNodeReturn h law nofun
  | towerNodeReturn => exact k.eventInert (f := towerNodeReturn) (fun _ => .issueAll _) h law nofun
  | estopAssertion => exact k.eventInert inert_estopAssertion h law nofun
  | estopAtPu => exact k.event (f := estopAtPu) (k.abortPush _) h law nofun
  | estopAtSu => exact k.eventInert (f := estopAtSu) (fun s => s.inert_pauseSchedule 1 0) h law nofun
  | estopAtQu => exact k.eventInert inert_estopAtQu h law nofun
  | estopRelease => exact k.eventInert inert_estopRelease h law nofun
  | estopReleaseAtQu => exact k.eventInert inert_estopReleaseAtQu h law nofun
  | resetAsserted => cases h; exact k.cutOff law
  | resetReleased => cases h; exact k.resetReleased _ _ _ law
  | powerUp => cases h; exact k.powerUp _ _ _ _ law
  | _ => exact request h nofun

/-- Every step keeps the law. -/
theorem step (h : step s = .next t) (law : L noOven s) : L noOven t := by
  unfold Machine.step at h
  split at h
  · next rest _ => exact k.exec h (k.same (s := s) rfl law)
  · exact k.exec h law
  · cases h; exact law

end

end Kept

end Sys2Proof.Machine

/-!
SUPPORT. The law of R128 bears every update of the offtake: the statement about it.
-/

namespace Sys2Proof.Machine

/-! ### A property of every valve -/

/-- Every oven's valve has the property P. -/
def State.EachValve (s : State) (P : Valve → Prop) : Prop := ∀ o ∈ s.ovens, P o.valve

section
variable {s t : State} {P : Valve → Prop} {n : Nat} {o : Oven}

/-- Also that of a record outside the table, which reads as after reset. -/
theorem State.EachValve.oven (each : s.EachValve P) (fresh : P .reset) (n : Nat) : P (s.oven n).valve := by
  unfold State.oven
  rw [List.getD_eq_getElem?_getD]
  cases place : s.ovens[n - 1]? with
  | some o => exact each o (List.mem_of_getElem? place)
  | none => exact fresh

theorem State.EachValve.setOven (each : s.EachValve P) (written : P o.valve) : (s.setOven n o).EachValve P := fun p hp => by
  rcases List.mem_or_eq_of_mem_set hp with old | rfl
  · exact each p old
  · exact written

theorem State.EachValve.of_offtake (same : t.offtake = s.offtake) (each : s.EachValve P) : t.EachValve P := fun o ho => by
  have listed : o.offtake ∈ t.ovens.map Oven.offtake := List.mem_map_of_mem ho
  rw [show t.ovens.map Oven.offtake = s.ovens.map Oven.offtake from congrArg Offtake.ovens same] at listed
  obtain ⟨p, hp, eq⟩ := List.mem_map.mp listed
  have valve : p.valve = o.valve := congrArg Prod.snd eq
  exact valve ▸ each p hp

/-- An evaluation keeps a property that entering a mode keeps. -/
theorem State.EachValve.turn (each : s.EachValve P) (fresh : P .reset) (entry : ∀ m v, P v → P (turnTo n m v).1) (m : ValveMode) :
    (s.applyValve n (turnTo n m (s.oven n).valve)).EachValve P :=
  State.EachValve.of_offtake (State.offtake_issueAll _ _) (each.setOven (entry m _ (each.oven fresh n)))

theorem State.eachValve_reset (fresh : P .reset) (s : State) (b : Baud) (e : Bool) : (s.takeReset b e).EachValve P := fun o ho => by
  have reset : o = Oven.reset := List.eq_of_mem_replicate (show o ∈ List.replicate 96 Oven.reset from ho)
  exact reset ▸ fresh

end

/-! ### The law of R128 -/

/-- Entry to a mode keeps a valve lawful: 0, 1023 and the manual position are commands (R113, R128). -/
theorem turnTo_lawful (n : Nat) (m : ValveMode) {v : Valve} (lawful : v.Lawful) : (turnTo n m v).1.Lawful := by
  have ⟨least, most, _, position⟩ := lawful
  unfold turnTo
  split_ifs
  · exact lawful
  · cases m with
    | closed => exact ⟨least, most, Nat.zero_le _, position⟩
    | aspirate => exact ⟨least, most, le_rfl, position⟩
    | manual => exact ⟨least, most, position, position⟩
    | auto | hold => exact lawful

theorem Valve.reset_lawful : Valve.reset.Lawful := by decide

section
variable {s t : State}

theorem valveLaw_iff : ValveLaw s ↔ s.EachValve Valve.Lawful ∧ s.pr.main.Within :=
  ⟨fun ⟨ovens, command, manual⟩ => ⟨ovens, command, manual⟩, fun ⟨ovens, command, manual⟩ => ⟨ovens, command, manual⟩⟩

theorem ValveLaw.of_offtake (same : t.offtake = s.offtake) (law : ValveLaw s) : ValveLaw t where
  ovens := State.EachValve.of_offtake same law.ovens
  mainCommand := (congrArg Offtake.mainCommand same).trans_le law.mainCommand
  mainManual := (congrArg Offtake.mainManual same).trans_le law.mainManual

/-- The law reads the oven table and the main record only. -/
theorem ValveLaw.of_same (law : ValveLaw s) (ovens : t.ovens = s.ovens) (main : t.pr.main = s.pr.main) : ValveLaw t :=
  ⟨ovens ▸ law.ovens, main ▸ law.mainCommand, main ▸ law.mainManual⟩

theorem ValveLaw.setOven (law : ValveLaw s) {n : Nat} {o : Oven} (lawful : o.valve.Lawful) : ValveLaw (s.setOven n o) :=
  ⟨State.EachValve.setOven law.ovens lawful, law.mainCommand, law.mainManual⟩

theorem ValveLaw.oven (law : ValveLaw s) (n : Nat) : (s.oven n).valve.Lawful :=
  State.EachValve.oven law.ovens Valve.reset_lawful n

/-- No update of the offtake breaks the law of R128; it sets no oven aside and asks nothing of an oven's number. -/
theorem valveLaw_kept : Kept (fun _ => True) fun _ s => ValveLaw s where
  low _ := trivial
  pushLow _ _ := trivial
  stallLow _ _ := trivial
  same := ValveLaw.of_offtake
  aside _ law := law
  whole _ law := law
  oven _ valve _ law := law.setOven (valve ▸ law.oven _)
  turn _ _ law := ValveLaw.of_offtake (State.offtake_issueAll _ _) (law.setOven (turnTo_lawful _ _ (law.oven _)))
  valve _ _ _ lawful _ law := law.setOven (lawful (law.oven _))
  pu _ _ law := law.of_same rfl rfl
  main within law := valveLaw_iff.mpr ((valveLaw_iff.mp law).imp id within)
  mode _ law := law.of_same rfl rfl
  size _ _ _ law := law.of_same rfl rfl
  floor _ law := law.of_same rfl rfl
  silenced law := law.of_same rfl rfl
  bring _ law := law.of_same rfl rfl
  fallSilent _ law := law.of_same rfl rfl
  hear _ _ law := law.of_same rfl rfl
  tick law := law.of_same rfl rfl
  reset _ _ _ := ⟨State.eachValve_reset Valve.reset_lawful _ _ _, Nat.zero_le _, Nat.zero_le _⟩
  cutOff law := law.of_same rfl rfl
  held _ law := law.of_same rfl rfl

end

/-- Settles O8: every update of the offtake keeps the law of R128, and each step is made of such updates. -/
theorem everyStepKeepsTheValveLaw : Obligations.EveryStepKeepsTheValveLaw :=
  fun _ _ law h => valveLaw_kept.step h law

end Sys2Proof.Machine

/-!
SUPPORT. The laws of R114 and of the main floor bear every update of the offtake.
-/

namespace Sys2Proof.Machine

/-! ### The law of R114 -/

section
variable {s t : State} {n : Nat} {o : Oven} {x y : Nat → Prop}

theorem State.oven_offtake (s : State) (n : Nat) : (s.oven n).offtake = s.offtake.ovens.getD (n - 1) Oven.reset.offtake := by
  simp only [State.oven, State.offtake, List.getD_eq_getElem?_getD, List.getElem?_map]
  cases s.ovens[n - 1]? <;> rfl

/-- R114 shuts the oven: STALLED, PUSHING with the push past SPOT, or EMPTY with the manual flag clear. -/
def Oven.ShutBy (o : Oven) (past : Bool) : Prop :=
  o.phase = .stalled ∨ (o.phase = .pushing ∧ past = true) ∨ (o.phase = .empty ∧ o.valve.manualFlag = false)

theorem Oven.not_shutBy {past : Bool} (opens : o.phase.Holds ∨ o.phase = .charging) : ¬ o.ShutBy past := by
  unfold Phase.Holds at opens
  rintro (h | ⟨h, _⟩ | ⟨h, _⟩) <;> simp [h] at opens

theorem State.pastSpot_iff : s.pastSpot n = true ↔ ∃ r, s.pu.push = some r ∧ r.oven = n ∧ r.stage ≠ .spot := by
  unfold State.pastSpot
  cases s.pu.push with
  | none => simp
  | some r => simp

theorem State.shut_iff : s.Shut n ↔ (s.oven n).ShutBy (s.pastSpot n) := by
  rw [State.Shut, ← State.pastSpot_iff, Oven.ShutBy]

theorem State.pastSpot_eq : s.pastSpot n = s.offtake.push.any fun p => p.1 == n && p.2 := by
  unfold State.pastSpot State.offtake
  cases s.pu.push <;> rfl

/-- In RUN a shut oven's evaluation gives CLOSED, the node heard or not (R111, R114). -/
theorem State.valveModeBy_of_shut (heard : Bool) (run : s.bk.mode = .run) (shut : (s.oven n).ShutBy (s.pastSpot n)) :
    s.valveModeBy heard n = .closed := by
  rcases shut with stalled | ⟨pushing, past⟩ | ⟨empty, flag⟩
  · simp [State.valveModeBy, stalled]
  · simp [State.valveModeBy, pushing, past]
  · simp [State.valveModeBy, empty, flag, run]

/-- A valve in CLOSED has command 0 (R114). -/
def Valve.ShutTight (v : Valve) : Prop := v.mode = .closed → v.command = 0

theorem turnTo_shutTight (n : Nat) (m : ValveMode) {v : Valve} (tight : v.ShutTight) : (turnTo n m v).1.ShutTight := by
  unfold turnTo
  split_ifs
  · exact tight
  · cases m with
    | closed => exact fun _ => rfl
    | aspirate | manual | auto | hold => exact nofun

/-- The law of R114 but for the ovens of x, whose valves are still to be evaluated, with the table's size and the records' ovens. -/
structure ClosedBut (x : Nat → Prop) (s : State) : Prop where
  size : s.ovens.length = 96
  push : ∀ p ∈ s.offtake.push, 1 ≤ p.1
  stall : ∀ n ∈ s.offtake.stall, 1 ≤ n
  tight : s.EachValve Valve.ShutTight
  shut : s.bk.mode = .run → ∀ n < 97, 0 < n → n ≤ s.ovenCount → ¬ x n →
    (s.oven n).ShutBy (s.pastSpot n) → (s.oven n).valve.mode = .closed

theorem ClosedBut.of_offtake (same : t.offtake = s.offtake) (law : ClosedBut x s) : ClosedBut x t where
  size := by
    have sizes := congrArg (fun f => f.ovens.length) same
    simpa [State.offtake, law.size] using sizes
  push := same ▸ law.push
  stall := same ▸ law.stall
  tight := State.EachValve.of_offtake same law.tight
  shut run n high low count other shut := by
    have oven : (t.oven n).offtake = (s.oven n).offtake := by rw [State.oven_offtake, State.oven_offtake, same]
    have phase : (t.oven n).phase = (s.oven n).phase := congrArg Prod.fst oven
    have valve : (t.oven n).valve = (s.oven n).valve := congrArg Prod.snd oven
    have past : t.pastSpot n = s.pastSpot n := by rw [State.pastSpot_eq, State.pastSpot_eq, same]
    have mode : t.bk.mode = s.bk.mode := congrArg Offtake.mode same
    have numbers : t.ovenCount = s.ovenCount := congrArg Offtake.count same
    rw [Oven.ShutBy, phase, valve, past] at shut
    exact valve ▸ law.shut (mode ▸ run) n high low (numbers ▸ count) other shut

theorem ClosedBut.aside (more : ∀ n, x n → y n) (law : ClosedBut x s) : ClosedBut y s :=
  ⟨law.size, law.push, law.stall, law.tight, fun run n high low count other => law.shut run n high low count (mt (more n) other)⟩

/-- One record rewritten: the law asks of that oven what its new record shows, and of the others what it did. -/
theorem ClosedBut.setOven (law : ClosedBut x s) (low : 1 ≤ n) (tight : o.valve.ShutTight)
    (shut : s.bk.mode = .run → n < 97 → n ≤ s.ovenCount → ¬ y n → o.ShutBy (s.pastSpot n) → o.valve.mode = .closed)
    (others : ∀ m, m ≠ n → x m → y m) :
    ClosedBut y (s.setOven n o) where
  size := (s.setOven_length n o).trans law.size
  push := law.push
  stall := law.stall
  tight := law.tight.setOven tight
  shut run m high positive count other closes := by
    by_cases same : m = n
    · subst same
      have place : m - 1 < s.ovens.length := by rw [law.size]; omega
      rw [s.oven_setOven_self m o place] at closes ⊢
      exact shut run high count other closes
    · have kept : (s.setOven n o).oven m = s.oven m := s.oven_setOven_ne n m o (by omega)
      rw [kept] at closes ⊢
      exact law.shut run m high positive count (mt (others m same) other) closes

/-- The law reads the oven table, N, the part mode and the push and stall records only. -/
theorem ClosedBut.of_same (law : ClosedBut x s) (ovens : t.ovens = s.ovens) (count : t.ovenCount = s.ovenCount) (pu : t.pu = s.pu)
    (mode : t.bk.mode = s.bk.mode) : ClosedBut x t where
  size := ovens ▸ law.size
  push := by rw [show t.offtake.push = s.offtake.push by simp only [State.offtake, pu]]; exact law.push
  stall := by rw [show t.offtake.stall = s.offtake.stall by simp only [State.offtake, pu]]; exact law.stall
  tight := by unfold State.EachValve; rw [ovens]; exact law.tight
  shut run n high low within other shut := by
    have oven : t.oven n = s.oven n := by simp only [State.oven, ovens]
    rw [oven, State.pastSpot, pu] at shut
    rw [oven]
    exact law.shut (mode ▸ run) n high low (count ▸ within) other shut

theorem ClosedBut.pushLow {r : PushRecord} (law : ClosedBut x s) (pushed : s.pu.push = some r) : 1 ≤ r.oven :=
  law.push (r.oven, r.stage != .spot) (by simp [State.offtake, pushed])

theorem ClosedBut.stallLow {r : StallRecord} (law : ClosedBut x s) (stalled : s.pu.stall = some r) : 1 ≤ r.oven :=
  law.stall r.oven (by simp [State.offtake, stalled])

theorem ClosedBut.oven (law : ClosedBut x s) (n : Nat) : (s.oven n).valve.ShutTight :=
  State.EachValve.oven law.tight nofun n

theorem ClosedBut.withPu {u : PushUnit} (pushed : ∀ r, u.push = some r → 1 ≤ r.oven ∧ (x r.oven ∨ r.stage = .spot ∨
    s.pastSpot r.oven = true)) (stalled : ∀ r, u.stall = some r → 1 ≤ r.oven) (law : ClosedBut x s) : ClosedBut x (s.withPu u) where
  size := law.size
  push p hp := by
    obtain ⟨r, present, rfl⟩ := Option.map_eq_some_iff.mp hp
    exact (pushed r present).1
  stall n hn := by
    obtain ⟨r, present, rfl⟩ := Option.map_eq_some_iff.mp hn
    exact stalled r present
  tight := law.tight
  shut run n high low count other shut := by
    refine law.shut run n high low count other (shut.imp_right (Or.imp_left fun ⟨pushing, past⟩ => ⟨pushing, ?_⟩))
    obtain ⟨r, present, oven, late⟩ := State.pastSpot_iff.mp past
    subst oven
    exact ((pushed r present).2.resolve_left other).resolve_left late

/-- No update of the offtake breaks the law of R114: a record past SPOT, a phase that shuts and a flag let go come with an
evaluation. -/
theorem closedBut_kept : Kept (fun n => 1 ≤ n) ClosedBut where
  low low := low
  pushLow := ClosedBut.pushLow
  stallLow := ClosedBut.stallLow
  same := ClosedBut.of_offtake
  aside := ClosedBut.aside
  whole {x s} none law :=
    ⟨law.size, law.push, law.stall, law.tight, fun run n high low count _ => law.shut run n high low count (none n low count)⟩
  oven {x s n o} low valve phase law := by
    refine law.setOven low (valve ▸ law.oven n) (fun run high count other shut => ?_) fun _ _ h => h
    rcases phase.resolve_left other with same | opens
    · rw [Oven.ShutBy, same, valve] at shut
      exact valve ▸ law.shut run n high low count other shut
    · exact absurd shut (Oven.not_shutBy opens)
  turn {x s n} heard low law := by
    refine ClosedBut.of_offtake (State.offtake_issueAll _ _) (law.setOven low (turnTo_shutTight _ _ (law.oven n)) ?_
      fun m other h => ⟨h, other⟩)
    intro run high count _ shut
    obtain ⟨flag, _⟩ := turnTo_inputs n (s.valveModeBy heard n) (s.oven n).valve
    rw [Oven.ShutBy, Oven.setValve, flag] at shut
    exact (turnTo_mode ..).trans (State.valveModeBy_of_shut heard run shut)
  valve {x s n v} low mode flag _ command law := by
    refine law.setOven low (fun closed => ?_) (fun run high count other shut => ?_) fun _ _ h => h
    · exact (command closed).trans (law.oven n (mode ▸ closed))
    · rw [Oven.ShutBy, Oven.setValve, flag.resolve_left other] at shut
      exact mode.trans (law.shut run n high low count other shut)
  pu := ClosedBut.withPu
  main _ law := law.of_same rfl rfl rfl rfl
  mode {x s b} vacuous law :=
    ⟨law.size, law.push, law.stall, law.tight, fun run n _ _ _ other =>
      (vacuous.resolve_left (by rw [show b.mode = .run from run]; nofun) n |> other).elim⟩
  size n u config law :=
    ⟨law.size, law.push, law.stall, law.tight, fun run => absurd (config.symm.trans run) nofun⟩
  floor _ law := law.of_same rfl rfl rfl rfl
  silenced law := law.of_same rfl rfl rfl rfl
  bring _ law := law.of_same rfl rfl rfl rfl
  fallSilent _ law := law.of_same rfl rfl rfl rfl
  hear _ _ law := law.of_same rfl rfl rfl rfl
  tick law := law.of_same rfl rfl rfl rfl
  reset _ _ _ := ⟨rfl, nofun, nofun, State.eachValve_reset nofun _ _ _, nofun⟩
  cutOff law := law.of_same rfl rfl rfl rfl
  held _ law := law.of_same rfl rfl rfl rfl

theorem closedLaw_iff (shape : ShapeLaw s) (push : PushLaw s) : ClosedLaw s ↔ ClosedBut noOven s := by
  constructor
  · intro law
    refine ⟨shape.ovens, fun p hp => ?_, fun n hn => ?_, law.zero, fun run n high low count _ shut =>
      law.shut run n high low count (State.shut_iff.mpr shut)⟩
    · obtain ⟨r, pushed, rfl⟩ := Option.map_eq_some_iff.mp hp
      exact (of_decide_eq_true (push.pushed r pushed).1).1
    · obtain ⟨r, stalled, rfl⟩ := Option.map_eq_some_iff.mp hn
      exact (of_decide_eq_true (push.stalled r stalled).1).1
  · exact fun law => ⟨law.tight, fun run n high low count shut => law.shut run n high low count id (State.shut_iff.mp shut)⟩

theorem closedLaw_step (shape : ShapeLaw s) (push : PushLaw s) (law : ClosedLaw s) (h : step s = .next t) : ClosedLaw t := by
  have kept := closedBut_kept.step h ((closedLaw_iff shape push).mp law)
  exact ⟨kept.tight, fun run n high low count shut => kept.shut run n high low count id (State.shut_iff.mp shut)⟩

end

/-! ### The main floor -/

section
variable {s t : State}

/-- The law reads the main node's entry, the reset pin, the floor, and whether the main node's silence is still to be taken. -/
theorem FloorLaw.of_same (law : FloorLaw s) (entry : t.fl.entry .main = s.fl.entry .main) (pins : t.pins = s.pins)
    (floor : t.pr.floorOn = s.pr.floorOn) (due : Instr.mainNodeSilence ∈ s.due → Instr.mainNodeSilence ∈ t.due) : FloorLaw t where
  inUse := entry ▸ law.inUse
  standing := by
    rw [entry, pins, floor]
    exact law.standing.imp_right (Or.imp_right (Or.imp_right due))

theorem FloorLaw.of_offtake (same : t.offtake = s.offtake) (law : FloorLaw s) : FloorLaw t where
  inUse := (congrArg Offtake.mainInUse same).trans law.inUse
  standing := by
    have due : Instr.mainNodeSilence ∈ t.due ↔ Instr.mainNodeSilence ∈ s.due :=
      decide_eq_decide.mp (congrArg Offtake.silenceDue same)
    rw [show t.pins.inReset = s.pins.inReset from congrArg Offtake.inReset same,
      show t.pr.floorOn = s.pr.floorOn from congrArg Offtake.floorOn same,
      show (t.fl.entry .main).liveness = (s.fl.entry .main).liveness from congrArg Offtake.mainLiveness same, due]
    exact law.standing

/-- The main node's place lies in the table, since its entry is in use (R177). -/
theorem FloorLaw.place (law : FloorLaw s) : Node.main.index < s.fl.nodes.length := by
  by_contra out
  have absent : s.fl.entry .main = ⟨.neverHeard, false, 0, 0⟩ := by
    rw [FieldLink.entry, List.getD_eq_default _ _ (Nat.le_of_not_lt out)]
  exact absurd law.inUse (by simp [absent])

/-- An entry after a pass over the node table (R177). -/
theorem FieldLink.entry_pass (f : FieldLink) (g : NodeEntry × Node → NodeEntry) (place : Node.main.index < f.nodes.length) :
    ({ f with nodes := (f.nodes.zip Node.all).map g } : FieldLink).entry .main = g (f.entry .main, .main) := by
  have here : 5 < f.nodes.length := place
  simp [FieldLink.entry, Node.index, Node.all, here]

/-- SET_BATTERY leaves the main node's entry: it is always in use (R171, R181). -/
theorem FloorLaw.entry_resize (law : FloorLaw s) (n : Nat) : (s.fl.resize n).entry .main = s.fl.entry .main := by
  rw [FieldLink.resize, FieldLink.entry_pass _ _ law.place]
  exact if_pos law.inUse

/-- A battery second counts an entry's quiet seconds only (R178). -/
theorem NodeEntry.tick_same (e : NodeEntry) (w : Nat) : (e.tick w).inUse = e.inUse ∧ (e.tick w).liveness = e.liveness := by
  unfold NodeEntry.tick
  split_ifs <;> exact ⟨rfl, rfl⟩

/-- An entry rewritten: for the main node the floor stands by the entry written, or by the silence still to be taken. -/
theorem FloorLaw.setEntry (law : FloorLaw s) (y : Node) {e : NodeEntry} (use : e.inUse = (s.fl.entry y).inUse)
    (standing : y = .main → e.liveness = .live ∨ Instr.mainNodeSilence ∈ t.due) (nodes : t.fl.nodes = (s.fl.setEntry y e).nodes)
    (pins : t.pins = s.pins) (floor : t.pr.floorOn = s.pr.floorOn)
    (due : Instr.mainNodeSilence ∈ s.due → Instr.mainNodeSilence ∈ t.due) : FloorLaw t := by
  have written : t.fl.entry .main = (s.fl.setEntry y e).entry .main := by simp only [FieldLink.entry, nodes]
  by_cases main : y = .main
  · subst main
    rw [FieldLink.entry_setEntry_self _ _ _ law.place] at written
    exact ⟨by rw [written, use, law.inUse], .inr (.inr (by rw [written]; exact standing rfl))⟩
  · rw [FieldLink.entry_setEntry_ne _ _ _ _ fun same => main (Node.index_injective _ _ same).symm] at written
    exact law.of_same written pins floor due

/-- No update of the offtake breaks the standing of the main floor; it sets no oven aside and asks nothing of an oven's number. -/
theorem floorLaw_kept : Kept (fun _ => True) fun _ s => FloorLaw s where
  low _ := trivial
  pushLow _ _ := trivial
  stallLow _ _ := trivial
  same := FloorLaw.of_offtake
  aside _ law := law
  whole _ law := law
  oven _ _ _ law := law.of_same rfl rfl rfl id
  turn _ _ law := FloorLaw.of_offtake (State.offtake_issueAll _ _) (law.of_same rfl rfl rfl id)
  valve _ _ _ _ _ law := law.of_same rfl rfl rfl id
  pu _ _ law := law.of_same rfl rfl rfl id
  main _ law := law.of_same rfl rfl rfl id
  mode _ law := law.of_same rfl rfl rfl id
  size n _ _ law := law.of_same (law.entry_resize n) rfl rfl id
  floor {_ s on} live law := by
    refine ⟨law.inUse, .inr ?_⟩
    cases on with
    | false => exact .inl rfl
    | true => exact .inr (.inl (live rfl))
  silenced law := ⟨law.inUse, .inr (.inl rfl)⟩
  bring _ law := law.of_same rfl rfl rfl (List.mem_append_left _)
  fallSilent {_ s} y law := law.setEntry y (e := { s.fl.entry y with liveness := .silent }) rfl
    (fun main => .inr (by subst main; exact List.mem_append_right _ (.head _))) rfl rfl rfl (List.mem_append_left _)
  hear {_ s} y w law := law.setEntry y (e := { s.fl.entry y with liveness := .live, quiet := 0, lastReport := w }) rfl
    (fun _ => .inl rfl) rfl rfl rfl id
  tick {_ s} law := by
    have entry : s.fl.tick.entry .main = (s.fl.entry .main).tick 2 := FieldLink.entry_pass _ _ law.place
    obtain ⟨use, liveness⟩ := (s.fl.entry .main).tick_same 2
    refine ⟨(congrArg NodeEntry.inUse entry).trans (use.trans law.inUse), ?_⟩
    rw [State.withFl_fl, entry, liveness]
    exact law.standing
  reset _ _ _ := ⟨rfl, .inr (.inl rfl)⟩
  cutOff law := ⟨law.inUse, .inl rfl⟩
  held _ law := ⟨law.inUse, .inl rfl⟩

end

end Sys2Proof.Machine

/-!
SUPPORT. The standing of the waiting lists and the law of R60 as properties of the crew, what each operation on cars does to the
crew, and what it keeps of the two.
-/

namespace Sys2Proof.Machine

/-! ### The two laws on the crew -/

namespace Crew

/-- The standing of the waiting lists (R148, R150, R152, R156, R159). -/
structure Waits (k : Crew) : Prop where
  once : k.waiters.Nodup ∧ k.bayWaiters.Nodup
  tower : ∀ c ∈ k.waiters, ((k.cars c).1 = .toTower ∨ (k.cars c).1 = .waitingTower) ∧ k.holder ≠ some c
  bay : ∀ c ∈ k.bayWaiters, (k.cars c).1 = .waitingBay
  holder : ∀ c, k.holder = some c →
    (k.cars c).1 = .toTower ∨ (k.cars c).1 = .quenching ∨ (k.cars c).1 = .draining ∨ (k.cars c).1 = .faulted

/-- Car c is SPOTTED or LOADED. -/
def Stands (k : Crew) (c : Car) : Prop := (k.cars c).1 = .spotted ∨ (k.cars c).1 = .loaded

/-- The law of R60, but for a push whose claimed car is one of x: a report or a fault of that car is still to be acted on. -/
structure ClaimsBut (x : Car → Prop) (k : Crew) : Prop where
  stands : ∀ n c stage, k.push = some (n, c, true, stage) → stage ≠ .spot → ¬ x c → k.Stands c ∧ (k.cars c).2 = .oven n
  claimed : ∀ n c stage, k.push = some (n, c, false, stage) → stage = .doorsOn ∨ stage = .retreat
  given : ∀ n c claimed, k.push = some (n, c, claimed, .doorsOn) → claimed = false

/-- Both laws, the second where p asks for it, with at most one of the two records. -/
structure Sound (p : Prop) (x : Car → Prop) (k : Crew) : Prop where
  waits : k.Waits
  one : p → k.push = none ∨ k.stalled = false
  claims : p → k.ClaimsBut x

variable {k l m : Crew} {p : Prop} {x y : Car → Prop} {c : Car} {st : CarState}

theorem ClaimsBut.of_none (none : k.push = none) : k.ClaimsBut x := by
  constructor <;> simp [none]

/-- Without a push there is nothing to claim. -/
theorem Waits.idle (h : k.Waits) (none : k.push = none) : k.Sound p x := ⟨h, fun _ => .inl none, fun _ => .of_none none⟩

theorem Sound.mono (h : k.Sound p x) (fewer : ∀ c, x c → y c) : k.Sound p y :=
  ⟨h.waits, h.one, fun hp => ⟨fun n c stage push late other => (h.claims hp).stands n c stage push late (mt (fewer c) other),
    (h.claims hp).claimed, (h.claims hp).given⟩⟩

/-! ### Updates of the crew -/

/-- Car c takes a state. -/
def turn (k : Crew) (c : Car) (st : CarState) : Crew := { k with cars := Function.update k.cars c (st, (k.cars c).2) }

/-- The tower grant goes to car c (R148, R150). -/
def grant (k : Crew) (c : Car) : Crew := { k.turn c .toTower with holder := some c }

/-- The tower grant is released (R150). -/
def release (k : Crew) : Crew :=
  match k.waiters with
  | [] => { k with holder := none }
  | w :: rest => grant { k with waiters := rest } w

/-- A bay becomes FREE (R156). -/
def freeBay (k : Crew) : Crew :=
  match k.bayWaiters with
  | [] => k
  | w :: rest => turn { k with bayWaiters := rest } w .toWharf

/-- Car c leaves both lists and faults (R159). -/
def fault (k : Crew) (c : Car) : Crew :=
  turn { k with waiters := k.waiters.erase c, bayWaiters := k.bayWaiters.erase c } c .faulted

@[simp] theorem turn_self (k : Crew) (c : Car) (st : CarState) : (k.turn c st).cars c = (st, (k.cars c).2) := by
  simp [turn]

theorem turn_ne {d : Car} (other : d ≠ c) : (k.turn c st).cars d = k.cars d := by simp [turn, other]

/-- A state that stands in no list and holds no grant. -/
def Loose (st : CarState) : Prop :=
  st ≠ .toTower ∧ st ≠ .waitingTower ∧ st ≠ .quenching ∧ st ≠ .draining ∧ st ≠ .faulted ∧ st ≠ .waitingBay

/-- The car stands in neither list and does not hold the grant. -/
structure Out (k : Crew) (c : Car) : Prop where
  tower : c ∉ k.waiters
  bay : c ∉ k.bayWaiters
  holder : k.holder ≠ some c

theorem Waits.out (h : k.Waits) (loose : Loose (k.cars c).1) : k.Out c := by
  obtain ⟨toTower, waiting, quenching, draining, faulted, bay⟩ := loose
  refine ⟨fun hc => ?_, fun hc => bay (h.bay c hc), fun hc => ?_⟩
  · exact (h.tower c hc).1.elim toTower waiting
  · rcases h.holder c hc with e | e | e | e
    · exact toTower e
    · exact quenching e
    · exact draining e
    · exact faulted e

/-- A car's state may change to one that its standing allows. -/
theorem Waits.turn (h : k.Waits) (tower : c ∈ k.waiters → st = .toTower ∨ st = .waitingTower)
    (bay : c ∈ k.bayWaiters → st = .waitingBay)
    (holder : k.holder = some c → st = .toTower ∨ st = .quenching ∨ st = .draining ∨ st = .faulted) : (k.turn c st).Waits where
  once := h.once
  tower d hd := by
    by_cases same : d = c
    · subst same
      exact ⟨by simpa using tower hd, (h.tower d hd).2⟩
    · rw [turn_ne same]
      exact h.tower d hd
  bay d hd := by
    by_cases same : d = c
    · subst same
      simpa using bay hd
    · rw [turn_ne same]
      exact h.bay d hd
  holder d hd := by
    by_cases same : d = c
    · subst same
      simpa using holder hd
    · rw [turn_ne same]
      exact h.holder d hd

theorem Waits.turn_out (h : k.Waits) (out : k.Out c) : (k.turn c st).Waits :=
  h.turn (absurd · out.tower) (absurd · out.bay) (absurd · out.holder)

theorem Waits.turn_loose (h : k.Waits) (loose : Loose (k.cars c).1) : (k.turn c st).Waits := h.turn_out (h.out loose)

theorem Waits.grant (h : k.Waits) (tower : c ∉ k.waiters) (bay : c ∉ k.bayWaiters) : (k.grant c).Waits := by
  have turned : (k.turn c .toTower).Waits := h.turn (absurd · tower) (absurd · bay) fun _ => .inl rfl
  refine ⟨turned.once, fun d hd => ⟨(turned.tower d hd).1, fun same => tower ?_⟩, turned.bay, fun d hd => ?_⟩
  · cases same; exact hd
  · cases hd; exact .inl (by simp [Crew.grant])

/-- The car at the head of the tower's list, taken from it (R150). -/
theorem Waits.tail {w : Car} {rest : List Car} (h : k.Waits) (head : k.waiters = w :: rest) :
    Waits { k with waiters := rest } ∧ w ∉ rest ∧ w ∉ k.bayWaiters := by
  obtain ⟨fresh, once⟩ := List.nodup_cons.mp (head ▸ h.once.1)
  have waiting := (h.tower w (head ▸ .head _)).1
  refine ⟨⟨⟨once, h.once.2⟩, fun d hd => h.tower d (head ▸ .tail _ hd), h.bay, h.holder⟩, fresh, fun hw => ?_⟩
  simp [h.bay w hw] at waiting

theorem Waits.release (h : k.Waits) : k.release.Waits := by
  unfold Crew.release
  split
  · next none => exact ⟨h.once, by simp [none], h.bay, nofun⟩
  · next w rest head =>
    obtain ⟨tail, fresh, bay⟩ := h.tail head
    exact tail.grant fresh bay

/-- The car at the head of the wharf's list, taken from it (R156). -/
theorem Waits.bayTail {w : Car} {rest : List Car} (h : k.Waits) (head : k.bayWaiters = w :: rest) :
    Waits { k with bayWaiters := rest } ∧ Out { k with bayWaiters := rest } w := by
  obtain ⟨fresh, once⟩ := List.nodup_cons.mp (head ▸ h.once.2)
  have waiting := h.bay w (head ▸ .head _)
  refine ⟨⟨⟨h.once.1, once⟩, h.tower, fun d hd => h.bay d (head ▸ .tail _ hd), h.holder⟩, fun hw => ?_, fresh, fun hw => ?_⟩
  · simpa [waiting] using (h.tower w hw).1
  · simpa [waiting] using h.holder w hw

theorem Waits.freeBay (h : k.Waits) : k.freeBay.Waits := by
  unfold Crew.freeBay
  split
  · exact h
  · next w rest head =>
    obtain ⟨tail, out⟩ := h.bayTail head
    exact tail.turn_out out

theorem Waits.fault (h : k.Waits) (c : Car) : (k.fault c).Waits := by
  have unlisted : Waits { k with waiters := k.waiters.erase c, bayWaiters := k.bayWaiters.erase c } :=
    ⟨⟨h.once.1.erase c, h.once.2.erase c⟩, fun d hd => h.tower d (List.mem_of_mem_erase hd),
      fun d hd => h.bay d (List.mem_of_mem_erase hd), h.holder⟩
  exact unlisted.turn (absurd · h.once.1.not_mem_erase) (absurd · h.once.2.not_mem_erase) fun _ => .inr (.inr (.inr rfl))

/-! ### Updates that leave the cars the law of R60 speaks of -/

/-- The records stand, and a car SPOTTED or LOADED stays so, in its place. -/
structure Calm (k l : Crew) : Prop where
  push : l.push = k.push
  stalled : l.stalled = k.stalled
  stands : ∀ c, k.Stands c → l.Stands c ∧ (l.cars c).2 = (k.cars c).2

/-- An update that keeps the waiting lists in their standing and is calm. -/
def Quiet (k l : Crew) : Prop := k.Waits → l.Waits ∧ Calm k l

theorem Calm.refl (k : Crew) : Calm k k := ⟨rfl, rfl, fun _ h => ⟨h, rfl⟩⟩

theorem Calm.trans (h : Calm k l) (g : Calm l m) : Calm k m where
  push := g.push.trans h.push
  stalled := g.stalled.trans h.stalled
  stands c hc := by
    obtain ⟨here, place⟩ := h.stands c hc
    obtain ⟨there, same⟩ := g.stands c here
    exact ⟨there, same.trans place⟩

theorem Quiet.refl (k : Crew) : Quiet k k := fun h => ⟨h, .refl k⟩

theorem Quiet.trans (h : Quiet k l) (g : Quiet l m) : Quiet k m := fun waits => by
  obtain ⟨here, calm⟩ := h waits
  obtain ⟨there, calmer⟩ := g here
  exact ⟨there, calm.trans calmer⟩

theorem Sound.quiet (h : k.Sound p x) (quiet : Quiet k l) : l.Sound p x := by
  obtain ⟨waits, push, stalled, stands⟩ := quiet h.waits
  refine ⟨waits, fun hp => by rw [push, stalled]; exact h.one hp, fun hp => ⟨fun n c stage present late other => ?_, ?_, ?_⟩⟩
  · obtain ⟨stood, place⟩ := (h.claims hp).stands n c stage (push ▸ present) late other
    obtain ⟨stays, same⟩ := stands c stood
    exact ⟨stays, same.trans place⟩
  · exact push ▸ (h.claims hp).claimed
  · exact push ▸ (h.claims hp).given

theorem calm_turn (stays : k.Stands c → st = .spotted ∨ st = .loaded) : Calm k (k.turn c st) where
  push := rfl
  stalled := rfl
  stands d hd := by
    by_cases same : d = c
    · subst same
      simpa [Stands] using stays hd
    · unfold Stands
      rw [turn_ne same]
      exact ⟨hd, rfl⟩

theorem quiet_turn (loose : Loose (k.cars c).1) (stays : k.Stands c → st = .spotted ∨ st = .loaded) : Quiet k (k.turn c st) :=
  fun h => ⟨h.turn_loose loose, calm_turn stays⟩

/-- A car in a list or holding the grant is neither SPOTTED nor LOADED. -/
theorem calm_turn_of_not_loose (busy : ¬ Loose (k.cars c).1) : Calm k (k.turn c st) :=
  calm_turn fun h => (busy (by rcases h with e | e <;> simp [Loose, e])).elim

theorem quiet_release : Quiet k k.release := fun h => by
  refine ⟨h.release, ?_⟩
  unfold Crew.release
  split
  · exact ⟨rfl, rfl, fun _ h => ⟨h, rfl⟩⟩
  · next w rest head =>
    have busy : ¬ Loose (k.cars w).1 := fun ⟨toTower, waiting, _⟩ => (h.tower w (head ▸ .head _)).1.elim toTower waiting
    have calm : Calm _ (Crew.turn { k with waiters := rest } w .toTower) := calm_turn_of_not_loose busy
    exact ⟨calm.push, calm.stalled, calm.stands⟩

theorem quiet_freeBay : Quiet k k.freeBay := fun h => by
  refine ⟨h.freeBay, ?_⟩
  unfold Crew.freeBay
  split
  · exact .refl k
  · next w rest head =>
    have busy : ¬ Loose (k.cars w).1 := fun ⟨_, _, _, _, _, bay⟩ => bay (h.bay w (head ▸ .head _))
    have calm : Calm _ (Crew.turn { k with bayWaiters := rest } w .toWharf) := calm_turn_of_not_loose busy
    exact ⟨calm.push, calm.stalled, calm.stands⟩

end Crew

end Sys2Proof.Machine

/-!
SUPPORT. What the operations of the model do to the crew.
-/

namespace Sys2Proof.Machine

/-! ### Operations that leave the crew -/

section
variable (s : State)

@[simp] theorem State.crew_withOvens (x : List Oven) : (s.withOvens x).crew = s.crew := rfl
@[simp] theorem State.crew_withCc (x : CokingClock) : (s.withCc x).crew = s.crew := rfl
@[simp] theorem State.crew_withSu (x : ScheduleUnit) : (s.withSu x).crew = s.crew := rfl
@[simp] theorem State.crew_withPr (x : PressureUnit) : (s.withPr x).crew = s.crew := rfl
@[simp] theorem State.crew_withFl (x : FieldLink) : (s.withFl x).crew = s.crew := rfl
@[simp] theorem State.crew_withSl (x : SupLink) : (s.withSl x).crew = s.crew := rfl
@[simp] theorem State.crew_withBk (x : BatteryClock) : (s.withBk x).crew = s.crew := rfl
@[simp] theorem State.crew_withDue (x : List Instr) : (s.withDue x).crew = s.crew := rfl
@[simp] theorem State.crew_setOven (n : Nat) (o : Oven) : (s.setOven n o).crew = s.crew := rfl
@[simp] theorem State.crew_setPhase (n : Nat) (p : Phase) : (s.setPhase n p).crew = s.crew := rfl
@[simp] theorem State.crew_withMain (m : MainRecord) : (s.withMain m).crew = s.crew := rfl
@[simp] theorem State.crew_raise (b : NoticeBody) : (s.raise b).crew = s.crew := rfl
@[simp] theorem State.crew_raiseAll (bs : List NoticeBody) : (s.raiseAll bs).crew = s.crew := rfl
@[simp] theorem State.crew_bring (cs : List Instr) : (s.bring cs).crew = s.crew := rfl
@[simp] theorem State.crew_issueAll (cs : List Outgoing) : (s.issueAll cs).crew = s.crew := rfl
@[simp] theorem State.crew_issue (x : Node) (c : FieldCommand) : (s.issue x c).crew = s.crew := rfl
@[simp] theorem State.crew_applyValve (n : Nat) (r : Valve × List Outgoing) : (s.applyValve n r).crew = s.crew := rfl
@[simp] theorem State.crew_evalValve (n : Nat) : (s.evalValve n).crew = s.crew := rfl

@[simp] theorem State.crew_evalValves (ns : List Nat) : (s.evalValves ns).crew = s.crew :=
  List.foldlRecOn (motive := fun t : State => t.crew = s.crew) _ _ rfl fun _ h _ _ => h

@[simp] theorem State.crew_turnMain (m : ValveMode) : (s.turnMain m).crew = s.crew := by
  unfold State.turnMain
  split_ifs <;> rfl

@[simp] theorem State.crew_evalMain : s.evalMain.crew = s.crew := s.crew_turnMain _

@[simp] theorem State.crew_pauseSchedule (a b : Nat) : (s.pauseSchedule a b).crew = s.crew := (s.inert_pauseSchedule a b).crew

@[simp] theorem State.crew_expireOven (n : Nat) : (s.expireOven n).crew = s.crew :=
  iteInduction (motive := fun t : State => t.crew = s.crew) (fun _ => rfl) fun _ => rfl

@[simp] theorem State.crew_stepMinute : s.stepMinute.crew = s.crew :=
  List.foldlRecOn (motive := fun t : State => t.crew = s.crew) _ _ rfl fun t h n _ => (t.crew_expireOven n).trans h

@[simp] theorem State.crew_applyDoor (n : Nat) (x : Side) (a : DoorStep) : (s.applyDoor n x a).crew = s.crew := by
  unfold State.applyDoor
  dsimp only
  split_ifs <;> rfl

@[simp] theorem State.crew_takeDoors (m : Fin 12) (es : List OvenEntry) (n : Nat) : (s.takeDoors m es n).crew = s.crew := by
  unfold State.takeDoors State.takeDoor
  split
  · simp only [State.crew_applyDoor]
  · rfl

theorem crew_ovenReport (m : Fin 12) (es : List OvenEntry) : (ovenReport m es s).crew = s.crew := by
  have doors : ((s.served m).foldl (fun t n => t.takeDoors m es n) s).crew = s.crew :=
    List.foldlRecOn (motive := fun t : State => t.crew = s.crew) _ _ rfl fun t h n _ => (t.crew_takeDoors m es n).trans h
  unfold ovenReport State.dropTaken
  split_ifs
  · exact (Inert.withPu rfl rfl).crew.trans doors
  · exact doors

theorem crew_settleTimerExpiry (n : Nat) (x : Side) : (settleTimerExpiry n x s).crew = s.crew := by
  unfold settleTimerExpiry
  dsimp only
  split_ifs <;> simp

theorem crew_doorOffTimerExpiry (n : Nat) (x : Side) : (doorOffTimerExpiry n x s).crew = s.crew := by
  unfold doorOffTimerExpiry
  dsimp only
  split_ifs <;> simp

@[simp] theorem State.crew_takeSample (n : Nat) (e : OvenEntry) : (s.takeSample n e).crew = s.crew := by
  unfold State.takeSample State.runLoop State.evalSample
  dsimp only
  split <;> split_ifs <;> rfl

theorem crew_ovenSample (m : Fin 12) (es : List OvenEntry) : (ovenSample m es s).crew = s.crew :=
  List.foldlRecOn (motive := fun t : State => t.crew = s.crew) _ _ rfl fun t h n _ => by
    split
    · exact (t.crew_takeSample n _).trans h
    · exact h

theorem crew_mainReport (r : MainReport) : (mainReport r s).crew = s.crew := by
  unfold mainReport State.runMainLoop
  dsimp only
  split <;> split_ifs <;> simp

theorem crew_ovenNodeSilence (m : Fin 12) : (ovenNodeSilence m s).crew = s.crew :=
  List.foldlRecOn (motive := fun t : State => t.crew = s.crew) _ _ rfl fun _ h _ _ => h

theorem crew_mainNodeSilence : (mainNodeSilence s).crew = s.crew := State.crew_turnMain _ _

theorem crew_mainNodeReturn : (mainNodeReturn s).crew = s.crew := State.crew_turnMain _ _

theorem crew_silenceWindowExpiry (x : Node) : (silenceWindowExpiry x s).crew = s.crew := by
  unfold silenceWindowExpiry
  split_ifs <;> rfl

theorem State.crew_takeReport (x : Node) (r : Report) : (s.takeReport x r).crew = s.crew := by
  have refreshed : ((silenceWindowExpiry x s).refresh x).crew = (silenceWindowExpiry x s).crew := by
    unfold State.refresh
    dsimp only
    split <;> rfl
  exact refreshed.trans (crew_silenceWindowExpiry s x)

theorem crew_fieldFrameReceived (id kind : Byte) (body : List Byte) (h : Half) :
    (fieldFrameReceived id kind body h s).crew = s.crew := by
  unfold fieldFrameReceived State.takeFieldFrame
  split_ifs
  · rfl
  · rfl
  · split
    · rfl
    · split_ifs
      · split
        · exact State.crew_takeReport _ _ _
        · rfl
      · rfl

theorem crew_fieldByteReceived (b : Byte) : (fieldByteReceived b s).crew = s.crew := by
  unfold fieldByteReceived State.fieldCollect
  split
  · rfl
  · split
    · rfl
    · rfl
    · split_ifs
      · rfl
      · split
        · exact crew_fieldFrameReceived _ _ _ _ _
        · rfl

theorem crew_batterySecond : (batterySecond s).crew = s.crew := by
  unfold batterySecond State.bringOwed
  dsimp only
  rw [State.crew_bring]
  split_ifs
  · exact (State.inert_tickRun _).crew
  · rfl

end

/-! ### Operations on cars -/

section
variable (s : State) (c : Car)

/-- A record written with its position as it stood. -/
theorem State.crew_setCar {k : CarRecord} (position : k.position = (s.car c).position) :
    (s.setCar c k).crew = s.crew.turn c k.state := by
  have cars : (s.setCar c k).crew.cars = (s.crew.turn c k.state).cars := funext fun d => by
    by_cases same : d = c
    · subst same; simp [State.crew, position]
    · simp [State.crew, State.car, State.setCar, QuenchUnit.car_setCar_ne _ _ _ _ same, Crew.turn_ne same]
  have rest : (s.setCar c k).crew = { s.crew.turn c k.state with cars := (s.setCar c k).crew.cars } := by
    simp [State.crew, State.setCar, Crew.turn]
  rw [rest, cars]

theorem State.crew_setCar_same {k : CarRecord} (state : k.state = (s.car c).state) (position : k.position = (s.car c).position) :
    (s.setCar c k).crew = s.crew := (Inert.setCar state position).crew

theorem State.crew_moveCar (l : Location) {k : CarRecord} (position : k.position = (s.car c).position) :
    (s.moveCar c l k).crew = s.crew.turn c k.state := by
  unfold State.moveCar
  split
  · exact s.crew_setCar c (k := { k with target := some l, travelTimer := none }) position
  · exact s.crew_setCar c (k := { k with target := some l, travelTimer := some s.qu.limits.travel }) position

@[simp] theorem State.crew_claimCar (n : Nat) : (s.claimCar c n).crew = s.crew.turn c .toSpot := s.crew_moveCar c _ rfl

@[simp] theorem State.crew_grantTower : (s.grantTower c).crew = s.crew.grant c :=
  State.crew_moveCar (s.withQu { s.qu with holder := some c }) c _ rfl

@[simp] theorem State.crew_releaseTower : s.releaseTower.crew = s.crew.release := by
  unfold State.releaseTower Crew.release
  cases list : s.qu.waiters with
  | nil => simp only [State.crew, list]; rfl
  | cons w rest =>
    rw [show s.crew.waiters = w :: rest from list]
    exact State.crew_grantTower _ w

@[simp] theorem State.crew_reserveBay (b : Nat) : (s.reserveBay b c).crew = s.crew.turn c .toWharf :=
  State.crew_moveCar (s.withQu (s.qu.setBay b ⟨.reserved, some c, none⟩)) c (.bay b)
    (k := { s.car c with state := .toWharf, reservedBay := some b }) rfl

@[simp] theorem State.crew_freeBay (b : Nat) : (s.freeBay b).crew = s.crew.freeBay := by
  unfold State.freeBay Crew.freeBay
  cases list : s.qu.bayWaiters with
  | nil => rw [show s.crew.bayWaiters = [] from list]; rfl
  | cons w rest =>
    rw [show s.crew.bayWaiters = w :: rest from list]
    exact State.crew_reserveBay _ w b

@[simp] theorem State.crew_enterFaulted (y : FaultCause) : (s.enterFaulted c y).crew = s.crew.fault c := by
  have faulted := s.crew_setCar c (k := { s.car c with
    state := .faulted, lastFault := some y, target := none, travelTimer := none, quenchTimer := none, drainTimer := none,
    dumpTimer := none }) rfl
  have unlisted (t : State) : (t.withQu (t.qu.unlist c)).crew =
      { t.crew with waiters := t.crew.waiters.erase c, bayWaiters := t.crew.bayWaiters.erase c } := rfl
  exact (unlisted (s.setCar c _)).trans (by rw [faulted]; rfl)

/-- A released car TO_SPOT or SPOTTED is PARKED; any other keeps its state (R147). -/
theorem State.crew_releaseCar : (s.releaseCar c).crew =
    if (s.car c).state = .toSpot ∨ (s.car c).state = .spotted then s.crew.turn c .parked else s.crew := by
  unfold State.releaseCar
  dsimp only
  rw [State.crew_issueAll]
  split_ifs
  · exact s.crew_setCar c (k := { { s.car c with target := none, travelTimer := none } with state := .parked }) rfl
  · exact s.crew_setCar c (k := { s.car c with state := .parked }) rfl
  · exact s.crew_setCar_same c rfl rfl
  · exact s.crew_setCar_same c rfl rfl

/-! ### What they keep -/

section
variable {s c} {p : Prop} {x : Car → Prop}

/-- The offered car is available (R142). -/
theorem State.available_of_offerCar {n : Nat} (offer : s.offerCar n = some c) : s.available c = true := by
  unfold State.offerCar at offer
  dsimp only at offer
  split_ifs at offer with preferred
  · cases offer; exact preferred
  · split at offer
    · split_ifs at offer with alternate
      cases offer; exact alternate
    · cases offer

theorem State.loose_of_available (available : s.available c = true) : Crew.Loose (s.crew.cars c).1 := by
  have parked : (s.car c).state = .parked := by simpa [State.available] using available
  show Crew.Loose (s.car c).state
  simp [Crew.Loose, parked]

theorem State.joinWaiters_perm (ws : List Car) : (s.joinWaiters c ws).Perm (c :: ws) := by
  rw [State.joinWaiters_eq]
  exact List.perm_middle.trans (by rw [List.takeWhile_append_dropWhile])

/-- A loaded car dispatched has the grant or waits for it (R148). -/
theorem State.waits_dispatchCar (h : s.crew.Waits) (loaded : (s.car c).state = .loaded) : (s.dispatchCar c).crew.Waits := by
  have loose : Crew.Loose (s.crew.cars c).1 := by simp [Crew.Loose, State.crew, loaded]
  have out := h.out loose
  unfold State.dispatchCar
  split_ifs
  · rw [State.crew_grantTower]
    exact h.grant out.tower out.bay
  · have turned : (s.crew.turn c .toTower).Waits := h.turn_loose loose
    have moved : (State.moveCar (s.withQu { s.qu with waiters := s.joinWaiters c s.qu.waiters }) c .approachT
        { s.car c with state := .toTower }).crew = { s.crew.turn c .toTower with waiters := s.joinWaiters c s.qu.waiters } :=
      State.crew_moveCar (s.withQu { s.qu with waiters := s.joinWaiters c s.qu.waiters }) c _ rfl
    rw [moved]
    have perm := s.joinWaiters_perm (c := c) s.qu.waiters
    refine ⟨⟨perm.nodup_iff.mpr (List.nodup_cons.mpr ⟨out.tower, h.once.1⟩), h.once.2⟩, fun d hd => ?_, turned.bay, turned.holder⟩
    rcases List.mem_cons.mp (perm.mem_iff.mp hd) with rfl | waiting
    · exact ⟨.inl (by simp), out.holder⟩
    · exact turned.tower d waiting

theorem State.waits_releaseCar (h : s.crew.Waits) (c : Car) : (s.releaseCar c).crew.Waits := by
  rw [State.crew_releaseCar]
  split_ifs with waits
  · refine h.turn_loose ?_
    rcases waits with e | e <;> simp [Crew.Loose, State.crew, e]
  · exact h

theorem State.waits_releaseClaimed (h : s.crew.Waits) (r : PushRecord) : (s.releaseClaimed r).crew.Waits := by
  unfold State.releaseClaimed
  split_ifs
  · exact State.waits_releaseCar h _
  · exact h

theorem State.waits_releaseStalled (h : s.crew.Waits) (r : StallRecord) : (s.releaseStalled r).crew.Waits := by
  unfold State.releaseStalled
  split_ifs with _ loaded
  · exact h
  · exact State.waits_dispatchCar h loaded
  · exact State.waits_releaseCar h _

theorem State.quiet_leaveTower : Crew.Quiet s.crew (s.leaveTower c).crew := by
  unfold State.leaveTower
  split_ifs
  · rw [State.crew_releaseTower]; exact Crew.quiet_release
  · exact .refl _

/-- Once it has left the tower, a car that was in no list is out, in the state it had (R141, R152). -/
theorem State.out_leaveTower (tower : c ∉ s.crew.waiters) (bay : c ∉ s.crew.bayWaiters) :
    (s.leaveTower c).crew.Out c ∧ (s.leaveTower c).crew.cars c = s.crew.cars c := by
  unfold State.leaveTower
  split_ifs with holds
  · rw [State.crew_releaseTower]
    unfold Crew.release
    split
    · exact ⟨⟨tower, bay, nofun⟩, rfl⟩
    · next w rest head =>
      have other : c ≠ w := fun same => tower (by cases same; exact head ▸ .head _)
      exact ⟨⟨fun hc => tower (head ▸ .tail _ hc), bay, fun same => other (Option.some.inj same).symm⟩,
        Crew.turn_ne (k := { s.crew with waiters := rest }) other⟩
  · exact ⟨⟨tower, bay, holds⟩, rfl⟩

/-- A bay handed on leaves a car that is out as it is (R156). -/
theorem Crew.Out.freeBay {k : Crew} (out : k.Out c) : k.freeBay.Out c ∧ k.freeBay.cars c = k.cars c := by
  unfold Crew.freeBay
  split
  · exact ⟨out, rfl⟩
  · next w rest head =>
    have other : c ≠ w := fun same => out.bay (by cases same; exact head ▸ .head _)
    exact ⟨⟨out.tower, fun hc => out.bay (head ▸ .tail _ hc), out.holder⟩,
      Crew.turn_ne (k := { k with bayWaiters := rest }) other⟩

/-- A car that is out seeks a bay: it moves to one, or joins the wharf's list (R152). -/
theorem State.quiet_seekBay (out : s.crew.Out c) (stands : ¬ s.crew.Stands c) : Crew.Quiet s.crew (s.seekBay c).crew := fun h => by
  have turned (st : CarState) : (s.crew.turn c st).Waits := h.turn_out out
  have calm (st : CarState) : Crew.Calm s.crew (s.crew.turn c st) := Crew.calm_turn fun here => absurd here stands
  unfold State.seekBay
  split
  · rw [State.crew_reserveBay]
    exact ⟨turned _, calm _⟩
  · have moved : (State.moveCar (s.withQu { s.qu with bayWaiters := s.qu.bayWaiters ++ [c] }) c .approachW
        { s.car c with state := .waitingBay }).crew =
        { s.crew.turn c .waitingBay with bayWaiters := s.qu.bayWaiters ++ [c] } :=
      State.crew_moveCar (s.withQu { s.qu with bayWaiters := s.qu.bayWaiters ++ [c] }) c _ rfl
    rw [moved]
    refine ⟨⟨⟨h.once.1, List.nodup_append_comm.mp (List.nodup_cons.mpr ⟨out.bay, h.once.2⟩)⟩, (turned .waitingBay).tower,
      fun d hd => ?_, (turned .waitingBay).holder⟩, (calm .waitingBay).push, (calm .waitingBay).stalled, (calm .waitingBay).stands⟩
    rcases List.mem_append.mp hd with waiting | same
    · exact (turned .waitingBay).bay d waiting
    · cases List.mem_singleton.mp same
      simp

/-- A reservation ended leaves a car that is out as it is (R141). -/
theorem State.endReservation_out (out : s.crew.Out c) : Crew.Quiet s.crew (s.endReservation c).crew ∧
    (s.endReservation c).crew.Out c ∧ (s.endReservation c).crew.cars c = s.crew.cars c := by
  unfold State.endReservation State.fillBay
  split
  · exact ⟨.refl _, out, rfl⟩
  · have dropped : (s.setCar c { s.car c with reservedBay := none }).crew = s.crew := s.crew_setCar_same c rfl rfl
    dsimp only
    split_ifs
    · have filled (t : State) (b : Nat) : (State.issue (t.withQu (t.qu.occupy b)) .tower (.gate b false)).crew = t.crew := rfl
      rw [filled, dropped]
      exact ⟨.refl _, out, rfl⟩
    · rw [State.crew_freeBay, dropped]
      exact ⟨Crew.quiet_freeBay, out.freeBay⟩

@[simp] theorem State.crew_clearStallClaim : (s.clearStallClaim c).crew = s.crew := by
  unfold State.clearStallClaim
  split_ifs
  · simp [State.crew, State.withPu]; rfl
  · rfl

/-- The recovery of a FAULTED car (R141). -/
theorem State.quiet_recoverCar (faulted : (s.car c).state = .faulted) : Crew.Quiet s.crew (s.recoverCar c).crew := fun h => by
  have tower : c ∉ s.crew.waiters := fun hc => by simpa [State.crew, faulted] using (h.tower c hc).1
  have bay : c ∉ s.crew.bayWaiters := fun hc => by simpa [State.crew, faulted] using h.bay c hc
  obtain ⟨out, same⟩ := State.out_leaveTower tower bay
  have emptied : (((s.leaveTower c).setCar c { (s.leaveTower c).car c with load := none, hotTimer := none, hotLate := false }).raiseAll
      (discardedNotice c ((s.leaveTower c).car c).load)).crew = (s.leaveTower c).crew := State.crew_setCar_same _ c rfl rfl
  obtain ⟨quiet, gone, still⟩ := State.endReservation_out (emptied ▸ out)
  have retired (t : State) : (t.setCar c (t.car c).retire).crew = t.crew.turn c .outOfService := t.crew_setCar c rfl
  have stands : ¬ Crew.Stands _ c := fun here => by
    unfold Crew.Stands at here
    rw [still, emptied, same] at here
    simp [State.crew, faulted] at here
  have ended : Crew.Quiet s.crew _ := State.quiet_leaveTower.trans (emptied ▸ quiet)
  unfold State.recoverCar
  dsimp only
  rw [retired, State.crew_clearStallClaim]
  obtain ⟨waits, calm⟩ := ended h
  exact ⟨waits.turn_out gone, calm.trans (Crew.calm_turn fun here => absurd here stands)⟩

end

end

end Sys2Proof.Machine

/-!
SUPPORT. Every command keeps the waiting lists in their standing, and with it the law of R60: the statement about both, with the laws
of R114 and of the main floor.
-/

namespace Sys2Proof.Machine

/-- The waiting lists are in their standing, and, where p asks for it, the law of R60 holds with at most one of the two records. -/
def State.Manned (p : Prop) (s : State) : Prop := s.crew.Sound p fun _ => False

/-- The same, but that a report or a fault of car c is still to be acted on. -/
def State.MannedBut (p : Prop) (c : Car) (s : State) : Prop := s.crew.Sound p (· = c)

section
variable {p : Prop} {x : Car → Prop} {s t : State} {r r' : PushRecord} {c : Car} {n : Nat}

/-! ### Records written -/

theorem Crew.Sound.of_crew (h : s.crew.Sound p x) (same : t.crew = s.crew) : t.crew.Sound p x := same ▸ h

theorem State.Manned.of_crew (h : s.Manned p) (same : t.crew = s.crew) : t.Manned p := Crew.Sound.of_crew h same

theorem State.Manned.inert (h : s.Manned p) (inert : Inert s t) : t.Manned p := h.of_crew inert.crew

theorem State.Manned.quiet (h : s.Manned p) (quiet : Crew.Quiet s.crew t.crew) : t.Manned p := Crew.Sound.quiet h quiet

/-- Without a push only the lists count. -/
theorem State.manned_of_idle (h : s.crew.Waits) (idle : s.pu.push = none) : s.Manned p :=
  h.idle (by simp [State.crew, idle])

/-- The record behind the crew's view of a push. -/
theorem State.record_of_crew {b : Bool} {stage : Stage} (present : s.crew.push = some (n, c, b, stage)) :
    ∃ r, s.pu.push = some r ∧ r.oven = n ∧ r.car = c ∧ r.claimed = b ∧ r.stage = stage := by
  simpa [State.crew, PushRecord.part] using present

theorem Crew.Sound.push_some (h : s.crew.Sound p x) (pushed : s.pu.push = some r) (hp : p) : s.pu.stall = none := by
  simpa [State.crew, pushed] using h.one hp

theorem State.waits_withPu (h : s.crew.Waits) (u : PushUnit) : (s.withPu u).crew.Waits := ⟨h.once, h.tower, h.bay, h.holder⟩

theorem PushRecord.of_part {b : Bool} {stage : Stage} (present : (s.setPush (some r)).crew.push = some (n, c, b, stage)) :
    r.oven = n ∧ r.car = c ∧ r.claimed = b ∧ r.stage = stage := by
  have parts : r.part = (n, c, b, stage) := Option.some.inj present
  simpa [PushRecord.part] using parts

theorem State.one_setPush (one : p → s.pu.stall = none) (hp : p) :
    (s.setPush (some r)).crew.push = none ∨ (s.setPush (some r)).crew.stalled = false :=
  .inr (Option.isSome_eq_false_iff.mpr (Option.isNone_iff_eq_none.mpr (one hp)))

/-- The push record rewritten: the claim of a car goes on past SPOT, or none is left in DOORS_ON and RETREAT. -/
theorem Crew.Sound.setPush (h : s.crew.Sound p x) (pushed : s.pu.push = some r) (late : r.stage ≠ .spot) (oven : r'.oven = r.oven)
    (car : r'.car = r.car) (kept : r'.claimed = true → r.claimed = true) (given : r'.stage = .doorsOn → r'.claimed = false)
    (claimed : p → r'.claimed = false → r'.stage = .doorsOn ∨ r'.stage = .retreat) : (s.setPush (some r')).crew.Sound p x := by
  refine ⟨State.waits_withPu h.waits _, State.one_setPush (h.push_some pushed), fun hp =>
    ⟨fun n c stage present _ other => ?_, fun n c stage present => ?_, fun n c b present => ?_⟩⟩
  · obtain ⟨rfl, rfl, claims, rfl⟩ := PushRecord.of_part present
    rw [oven, car]
    refine (h.claims hp).stands r.oven r.car r.stage ?_ late (car ▸ other)
    simp [State.crew, pushed, PushRecord.part, kept claims]
  · obtain ⟨_, _, free, rfl⟩ := PushRecord.of_part present
    exact claimed hp free
  · obtain ⟨_, _, rfl, stage⟩ := PushRecord.of_part present
    exact given stage

/-- A push that claims no car, in DOORS_ON or RETREAT. -/
theorem State.manned_unclaimed (h : s.crew.Waits) (one : p → s.pu.stall = none) (free : r'.claimed = false)
    (stage : r'.stage = .doorsOn ∨ r'.stage = .retreat) : (s.setPush (some r')).Manned p := by
  refine ⟨State.waits_withPu h _, State.one_setPush one, fun _ =>
    ⟨fun n c _ present => ?_, fun n c _ present => ?_, fun n c b present => ?_⟩⟩
  · obtain ⟨_, _, claims, _⟩ := PushRecord.of_part present
    exact absurd (free.symm.trans claims) nofun
  · obtain ⟨_, _, _, rfl⟩ := PushRecord.of_part present
    exact stage
  · obtain ⟨_, _, rfl, _⟩ := PushRecord.of_part present
    exact free

/-! ### Push start and candidate evaluation -/

theorem State.manned_startPush (o : Origin) (h : s.crew.Waits) (available : s.available c = true) (one : s.pu.stall = none) :
    (s.startPush n o c).Manned p := by
  have started : (s.startPush n o c).crew = { s.crew.turn c .toSpot with push := some (n, c, true, .spot) } := by
    simp only [State.startPush, State.crew_raise, State.crew_issueAll, State.crew_claimCar]
    rfl
  have none : (s.startPush n o c).crew.stalled = false := by rw [started]; simp [Crew.turn, State.crew, one]
  unfold State.Manned
  refine ⟨?_, fun _ => .inr none, fun _ => ?_⟩
  · have turned : (s.crew.turn c .toSpot).Waits := h.turn_loose (State.loose_of_available available)
    rw [started]
    exact ⟨turned.once, turned.tower, turned.bay, turned.holder⟩
  · rw [started]
    constructor <;> simp +contextual

theorem State.Manned.tryPush (o : Origin) (h : s.Manned p) (one : s.pu.stall = none) : (s.tryPush n o).Manned p := by
  unfold State.tryPush
  split
  · next offer => exact State.manned_startPush o (Crew.Sound.waits h) (State.available_of_offerCar offer) one
  · exact h

theorem State.Manned.judgeCursor (h : s.Manned p) (one : s.pu.stall = none) : (s.judgeCursor n).Manned p := by
  unfold State.judgeCursor
  split_ifs
  · exact h
  · exact h.tryPush _ one
  · split
    case h_1 | h_2 => exact h
    case h_3 | h_4 | h_5 => exact h.inert (s.inert_passOver n)
    case h_6 | h_7 => exact h

theorem State.Manned.evaluate (h : s.Manned p) : s.evaluate.Manned p := by
  unfold State.evaluate
  split_ifs with may
  · have one : s.pu.stall = none := by
      simp only [State.mayEvaluate, Bool.and_eq_true, Option.isNone_iff_eq_none] at may
      exact may.1.2
    split
    · exact h.tryPush _ one
    · split
      · exact h.tryPush _ one
      · exact State.Manned.judgeCursor (s := s.withSu _) h one
  · exact h

/-! ### The ends of a push -/

theorem State.manned_endPush (h : s.crew.Waits) (n : Nat) (silent : Bool) : (s.endPush n silent).Manned p := by
  have ended : ((s.setPush none).evalValve n).Manned p :=
    State.manned_of_idle (s := (s.setPush none).evalValve n) (State.waits_withPu h _) (by rw [State.evalValve_pu]; rfl)
  cases silent with
  | true => exact ended
  | false => exact ended.evaluate

theorem State.manned_completePush (h : s.crew.Waits) (r : PushRecord) (silent : Bool) : (s.completePush r silent).Manned p :=
  State.manned_endPush (by simpa using h) _ _

theorem State.manned_returnReady (h : s.crew.Waits) (r : PushRecord) (y : Stage) (cause : AbortCause) (silent : Bool) :
    (s.returnReady r y cause silent).Manned p :=
  State.manned_endPush (by simpa using h) _ _

theorem State.manned_undoPush (h : s.crew.Waits) (r : PushRecord) (cause : AbortCause) : (s.undoPush r cause).Manned p :=
  State.manned_returnReady (State.waits_releaseClaimed (by simpa using h) _) _ _ _ _

theorem State.manned_completeRetreat (h : s.crew.Waits) (r : PushRecord) : (s.completeRetreat r).Manned p :=
  State.manned_returnReady (State.waits_releaseClaimed (by simpa using h) _) _ _ _ _

theorem State.manned_makeStall (h : s.crew.Waits) (r : PushRecord) (cause : AbortCause) (first : Option AbortCause) :
    (s.makeStall r cause first).Manned p := by
  refine State.manned_of_idle (s := s.makeStall r cause first) ?_ (by simp [State.makeStall])
  simp only [State.makeStall, State.crew_pauseSchedule, State.crew_raise, State.crew_evalValve, State.crew_setPhase]
  exact State.waits_withPu h _

theorem State.Manned.enterRetreat (cause : AbortCause) (h : s.crew.Sound p x) (pushed : s.pu.push = some r) (late : r.stage ≠ .spot)
    (settled : cause = .car ∨ ∀ c, ¬ x c) : (s.enterRetreat r cause).Manned p := by
  rcases settled with rfl | whole
  · exact State.manned_unclaimed (s := s.issueAll _) h.waits (h.push_some pushed) (by simp [State.inStage]) (.inr rfl)
  · exact (Crew.Sound.setPush (s := s.issueAll (toBoth .replace)) (r' := s.inStage
      { r with abortCause := some cause, claimed := r.claimed && cause != .car } .retreat) h pushed late rfl rfl
      (fun claims => (Bool.and_eq_true_iff.mp claims).1) nofun fun _ _ => .inr rfl).mono whole

theorem State.manned_abortRetreat (cause : AbortCause) (h : s.crew.Sound p x) (pushed : s.pu.push = some r)
    (retreat : r.stage = .retreat) : (s.abortRetreat r cause).Manned p := by
  cases cause with
  | car => exact State.manned_unclaimed h.waits (h.push_some pushed) rfl (.inr retreat)
  | estop => exact State.manned_makeStall (s := s.issueAll _) h.waits _ _ _
  | timeout | host | pusherSilent | guideSilent | recheck => exact State.manned_makeStall h.waits _ _ _

/-- An abort for a car's fault detaches that car, so that the law of R60 need not hold of it before. -/
theorem State.manned_abortPush (cause : AbortCause) (h : s.crew.Sound p x) (settled : cause = .car ∨ ∀ c, ¬ x c) :
    (s.abortPush cause).Manned p := by
  unfold State.abortPush
  split
  · next idle => exact State.manned_of_idle h.waits idle
  · next r pushed =>
    split
    case h_1 | h_2 => exact State.manned_undoPush h.waits _ _
    case h_3 stage =>
      split_ifs
      · exact State.manned_makeStall (s := s.issueAll _) h.waits _ _ _
      · exact State.Manned.enterRetreat cause h pushed (by simp [stage]) settled
    case h_4 => exact State.manned_makeStall (s := s.issueAll _) h.waits _ _ _
    case h_5 => exact State.manned_completePush (s := s.issueAll _) h.waits _ _
    case h_6 retreat => exact State.manned_abortRetreat cause h pushed retreat

theorem State.Manned.abortPush (cause : AbortCause) (h : s.Manned p) : (s.abortPush cause).Manned p :=
  State.manned_abortPush cause h (.inr fun _ => id)

/-! ### Stages -/

theorem State.Manned.judgeSpot (h : s.Manned p) : s.judgeSpot.Manned p := by
  unfold State.judgeSpot
  split
  · next r pushed =>
    split_ifs with complete
    · obtain ⟨_, _, _, claimed, spotted, place⟩ := (s.spotComplete_iff r).mp complete.2
      refine Crew.Sound.of_crew (s := s.setPush (some (s.inStage r .isolate))) ?_ rfl
      refine ⟨State.waits_withPu (Crew.Sound.waits h) _, State.one_setPush (Crew.Sound.push_some h pushed), fun _ =>
        ⟨fun n c stage present _ _ => ?_, fun n c stage present => ?_, fun n c b present => ?_⟩⟩
      · obtain ⟨rfl, rfl, _, _⟩ := PushRecord.of_part present
        exact ⟨.inl spotted, place⟩
      · obtain ⟨_, _, free, _⟩ := PushRecord.of_part present
        exact absurd (claimed.symm.trans free) nofun
      · obtain ⟨_, _, _, stage⟩ := PushRecord.of_part present
        cases stage
    · exact h
  · exact h

/-- A push between SPOT and RAM claims its car (R60). -/
theorem State.Manned.claimed (h : s.Manned p) (pushed : s.pu.push = some r) (hp : p) (free : r.claimed = false) :
    r.stage = .doorsOn ∨ r.stage = .retreat :=
  ((Crew.Sound.claims h) hp).claimed r.oven r.car r.stage (by simp [State.crew, pushed, PushRecord.part, free])

/-- A push that stays between ISOLATE and RAM keeps its claim (R60). -/
theorem State.Manned.advance (h : s.Manned p) (pushed : s.pu.push = some r) (late : r.stage ≠ .spot)
    (within : ¬ (r.stage = .doorsOn ∨ r.stage = .retreat)) (oven : r'.oven = r.oven) (car : r'.car = r.car)
    (claimed : r'.claimed = r.claimed) (on : r'.stage ≠ .doorsOn) : (s.setPush (some r')).Manned p :=
  Crew.Sound.setPush h pushed late oven car (fun h => claimed ▸ h) (fun h => absurd h on)
    fun hp free => absurd (h.claimed pushed hp (claimed ▸ free)) within

theorem State.Manned.completeDoorsOff (h : s.Manned p) (pushed : s.pu.push = some r) (stage : r.stage = .doorsOff) :
    (s.completeDoorsOff r).Manned p := by
  unfold State.completeDoorsOff
  split_ifs
  · exact State.Manned.advance (s := s.issueAll _) h pushed (by simp [stage]) (by simp [stage]) rfl rfl rfl nofun
  · exact State.Manned.enterRetreat .recheck h pushed (by simp [stage]) (.inr fun _ => id)

theorem State.Manned.confirm (e : OvenEntry) (h : s.Manned p) (pushed : s.pu.push = some r) : (s.confirm r e).Manned p := by
  have waits := Crew.Sound.waits h
  unfold State.confirm
  split
  case h_1 | h_4 => exact h
  case h_2 stage =>
    split_ifs
    · exact State.Manned.advance (s := s.issueAll _) h pushed (by simp [stage]) (by simp [stage]) rfl rfl rfl nofun
    · exact h
  case h_3 stage =>
    split_ifs
    · exact h.completeDoorsOff pushed stage
    · exact h
  case h_5 =>
    split_ifs
    · exact State.manned_completePush waits _ _
    · exact h
  case h_6 =>
    split_ifs
    · exact State.manned_completeRetreat waits _
    · exact h

theorem stageConfirmation_manned (m : Fin 12) (es : List OvenEntry) (h : s.Manned p) : (stageConfirmation m es s).Manned p := by
  unfold stageConfirmation
  split
  · exact h
  · next pushed =>
    split
    · exact h
    · exact State.Manned.confirm (s := s.withPu _) _ (h.inert (.withPu rfl rfl)) pushed

/-- The car of a stroke is handed over, and the push goes on without it (R68). -/
theorem State.manned_completeRam (h : s.crew.Waits) (one : p → s.pu.stall = none) (r : PushRecord) :
    (s.completeRam r).Manned p := by
  have stroke : (s.judgeStroke r).crew.Waits := (s.inert_judgeStroke r).crew ▸ h
  have handed : ((s.judgeStroke r).handOver r).crew.Waits := by
    unfold State.handOver
    split_ifs with loaded
    · exact State.waits_dispatchCar (State.waits_withPu stroke _) loaded
    · exact State.waits_releaseCar (State.waits_withPu stroke _) _
  have record : ∃ r1, ((s.judgeStroke r).handOver r).pu.push = some r1 ∧ r1.claimed = false := by
    unfold State.handOver
    split_ifs
    · exact ⟨{ r with claimed := false }, by rw [State.dispatchCar_pu]; rfl, rfl⟩
    · exact ⟨{ r with claimed := false, emptyCar := true }, by rw [State.releaseCar_pu]; rfl, rfl⟩
  have stall : ((s.judgeStroke r).handOver r).pu.stall = s.pu.stall := by
    unfold State.handOver
    split_ifs <;> simp [State.setPush]
  obtain ⟨r1, present, free⟩ := record
  simp only [State.completeRam, present]
  have entered : (State.setPush _ (some (((s.judgeStroke r).handOver r).inStage r1 .doorsOn))).Manned p :=
    State.manned_unclaimed handed (fun hp => stall.trans (one hp)) free (.inl rfl)
  exact entered.of_crew rfl

theorem State.Manned.judgeRam (h : s.Manned p) (pushed : s.pu.push = some r) (stage : r.stage = .ram) : (s.judgeRam r).Manned p := by
  have copied : (s.setPush (some (r.stroke s.pu.pusher))).Manned p :=
    h.advance pushed (by simp [stage]) (by simp [stage]) rfl rfl rfl (by simp [PushRecord.stroke, stage])
  unfold State.judgeRam
  dsimp only
  split_ifs
  · exact State.manned_completeRam (Crew.Sound.waits copied) (Crew.Sound.push_some (s := s) h pushed) _
  · exact copied

theorem pusherReport_manned (y : PusherReport) (h : s.Manned p) : (pusherReport y s).Manned p := by
  have seen : (s.withPu { s.pu with pusher := .of y }).Manned p := h.inert (.withPu rfl rfl)
  unfold pusherReport
  dsimp only
  split
  · exact seen
  · next r pushed =>
    split
    case h_1 => exact seen.judgeSpot
    case h_2 stage => exact seen.judgeRam pushed stage
    case h_3 | h_4 | h_5 | h_6 => exact seen

theorem State.inert_sendLatch (s : State) : Inert s s.sendLatch := by
  unfold State.sendLatch
  split
  · exact .refl s
  · next pushed =>
    split_ifs
    · exact (Inert.issueAll _).trans (.withPu (by rw [show (s.issueAll _).pu.push = s.pu.push from rfl, pushed]; rfl) rfl)
    · exact .refl s

theorem guideReport_manned (y : GuideReport) (h : s.Manned p) : (guideReport y s).Manned p := by
  have seen : (s.withPu { s.pu with guide := .of y }).Manned p := h.inert (.withPu rfl rfl)
  exact State.Manned.judgeSpot (seen.inert (State.inert_sendLatch _))

theorem stageTimerExpiry_manned (h : s.Manned p) : (stageTimerExpiry s).Manned p := by
  unfold stageTimerExpiry
  split
  · exact h
  · split_ifs
    · exact h.abortPush _
    · exact h

/-! ### Faults and reports of cars -/

/-- What is still to be acted on of car c is settled where no push past SPOT claims it away from its oven. -/
theorem State.MannedBut.settle (h : s.MannedBut p c)
    (fine : p → ∀ r, s.pu.push = some r → r.car = c → r.claimed = true → r.stage ≠ .spot →
      s.crew.Stands c ∧ (s.car c).position = .oven r.oven) : s.Manned p := by
  refine ⟨Crew.Sound.waits h, Crew.Sound.one h, fun hp => ⟨fun n d stage present late _ => ?_,
    (Crew.Sound.claims h hp).claimed, (Crew.Sound.claims h hp).given⟩⟩
  by_cases same : d = c
  · subst same
    obtain ⟨r, pushed, rfl, car, claimed, rfl⟩ := State.record_of_crew present
    exact fine hp r pushed car claimed late
  · exact (Crew.Sound.claims h hp).stands n d stage present late same

theorem State.MannedBut.faultCar (cause : FaultCause) (h : s.MannedBut p c) : (s.faultCar c cause).Manned p := by
  have faulted : (s.enterFaulted c cause).MannedBut p c := by
    unfold State.MannedBut
    rw [State.crew_enterFaulted]
    refine ⟨(Crew.Sound.waits h).fault c, Crew.Sound.one (k := s.crew) h, fun hp => ⟨fun n d stage present late other => ?_,
      (Crew.Sound.claims h hp).claimed, (Crew.Sound.claims h hp).given⟩⟩
    have kept : (s.crew.fault c).cars d = s.crew.cars d := Crew.turn_ne other
    unfold Crew.Stands
    rw [kept]
    exact (Crew.Sound.claims h hp).stands n d stage present late other
  unfold State.faultCar
  dsimp only
  split_ifs with claims
  · exact State.manned_abortPush .car faulted (.inl rfl)
  · refine faulted.settle fun _ r pushed car claimed _ => (claims ?_).elim
    have same : s.pu.push = some r := pushed
    simp [State.pushClaims, same, car, claimed]

theorem State.Manned.faultCar (c : Car) (cause : FaultCause) (h : s.Manned p) : (s.faultCar c cause).Manned p :=
  State.MannedBut.faultCar cause (Crew.Sound.mono h fun _ => False.elim)

/-- A car's state written, where the car is in no list and holds no grant. -/
theorem State.Manned.setCar {k : CarRecord} (h : s.Manned p) (position : k.position = (s.car c).position)
    (loose : Crew.Loose (s.car c).state)
    (stays : (s.car c).state = .spotted ∨ (s.car c).state = .loaded → k.state = .spotted ∨ k.state = .loaded) :
    (s.setCar c k).Manned p := by
  refine h.quiet ?_
  rw [s.crew_setCar c position]
  exact Crew.quiet_turn loose stays

theorem State.quiet_arriveTower (l : Location) : Crew.Quiet s.crew (s.arriveTower c l).crew := by
  unfold State.arriveTower
  split_ifs with waits
  · rw [s.crew_setCar c (by rfl)]
    intro h
    obtain ⟨state, holder⟩ := h.tower c waits.1
    have bay : c ∉ s.crew.bayWaiters := fun hc => by
      rw [h.bay c hc] at state
      exact state.elim nofun nofun
    exact ⟨h.turn (fun _ => .inr rfl) (absurd · bay) (absurd · holder),
      Crew.calm_turn_of_not_loose fun ⟨toTower, waiting, _⟩ => state.elim toTower waiting⟩
  · exact .refl _
  · exact .refl _

theorem State.Manned.beginDump (h : s.Manned p) (wharf : (s.car c).state = .toWharf) : (s.beginDump c).Manned p := by
  unfold State.beginDump
  split
  · have dumping := h.setCar (k := { s.car c with state := .dumping, dumpTimer := some s.qu.limits.dump }) rfl
      (by simp [Crew.Loose, wharf]) (by simp [wharf])
    exact dumping.of_crew rfl
  · exact h

theorem State.Manned.arrive (l : Location) (h : s.Manned p) : (s.arrive c l).Manned p := by
  have stopped : Inert s (s.setCar c { s.car c with target := none, travelTimer := none }) := .setCar rfl rfl
  have halted := h.inert stopped
  unfold State.arrive
  dsimp only
  split
  case h_1 spot =>
    refine State.Manned.judgeSpot (halted.setCar rfl ?_ fun _ => .inl rfl)
    rw [State.car_setCar_self]
    simp [Crew.Loose, spot]
  case h_2 => exact halted.quiet (State.quiet_arriveTower l)
  case h_3 wharf => exact halted.beginDump (by rw [State.car_setCar_self]; exact wharf)
  all_goals exact halted

theorem State.Manned.loadCar (h : s.Manned p) : (s.loadCar c).Manned p := by
  unfold State.loadCar
  dsimp only
  split
  · next spotted _ =>
    split_ifs
    · exact h.setCar rfl (by simp [Crew.Loose, spotted]) fun _ => .inr rfl
    · exact h
  · exact h

theorem State.Manned.endDump (h : s.Manned p) : (s.endDump c).Manned p := by
  unfold State.endDump
  dsimp only
  split
  · next b dumping _ =>
    have filled : (((s.fillBay b).raiseAll (dumpedNotice c b (s.car c).load))).Manned p :=
      h.inert ((Inert.raiseAll _).after ((Inert.issueAll _).after (.withQu rfl rfl rfl rfl rfl)))
    have state : (((s.fillBay b).raiseAll (dumpedNotice c b (s.car c).load)).car c).state = .dumping := dumping
    exact State.Manned.evaluate (filled.setCar rfl (by simp [Crew.Loose, state]) (by simp [state]))
  · exact h

/-- A report recorded, the car where it stood or elsewhere: the first step of R139 that applies settles the law of R60. -/
theorem State.MannedBut.judgeCar (h : s.MannedBut p c)
    (stood : p → ∀ r, s.pu.push = some r → r.car = c → r.claimed = true → r.stage ≠ .spot → s.crew.Stands c) :
    (s.judgeCar c).Manned p := by
  have settled (there : s.crew.Stands c → ∀ r, s.pu.push = some r → r.car = c → r.claimed = true →
      (s.car c).position = .oven r.oven) : s.Manned p :=
    h.settle fun hp r pushed car claimed late =>
      have stands := stood hp r pushed car claimed late
      ⟨stands, there stands r pushed car claimed⟩
  have onSpot (off : ¬ s.offSpot c = true) : s.Manned p := settled fun stands r pushed car claimed => by
    have standing : (s.car c).state = .spotted ∨ (s.car c).state = .loaded := stands
    simpa [State.offSpot, standing, PushUnit.claim, pushed, car, claimed] using off
  unfold State.judgeCar
  dsimp only
  split_ifs with idle _ off
  · refine settled fun stands => ?_
    have standing : (s.car c).state = .spotted ∨ (s.car c).state = .loaded := stands
    rcases standing with e | e <;> simp [CarRecord.inService, CarRecord.faulted, e] at idle
  · exact h.faultCar _
  · exact h.faultCar _
  · exact (onSpot off).arrive _
  · unfold State.judgeStatus
    split
    case h_1 => exact (onSpot off).loadCar
    case h_2 => exact (onSpot off).endDump
    case h_3 | h_4 => exact onSpot off

theorem carReport_manned (y : CarReport) (h : s.Manned p) : (carReport c y s).Manned p := by
  have others (d : Car) (other : d ≠ c) : (s.setCar c ((s.car c).record y)).crew.cars d = s.crew.cars d := by
    simp [State.crew, State.car, State.setCar, QuenchUnit.car_setCar_ne _ _ _ _ other]
  have state (d : Car) : ((s.setCar c ((s.car c).record y)).crew.cars d).1 = (s.crew.cars d).1 := by
    by_cases same : d = c
    · subst same; simp [State.crew, CarRecord.record]
    · rw [others d same]
  have lists : (s.setCar c ((s.car c).record y)).crew.holder = s.crew.holder ∧
      (s.setCar c ((s.car c).record y)).crew.waiters = s.crew.waiters ∧
      (s.setCar c ((s.car c).record y)).crew.bayWaiters = s.crew.bayWaiters := by
    simp [State.crew, State.setCar]
  obtain ⟨holder, waiters, bays⟩ := lists
  have waits := Crew.Sound.waits h
  have recorded : (s.setCar c ((s.car c).record y)).MannedBut p c := by
    refine ⟨⟨?_, ?_, ?_, ?_⟩, Crew.Sound.one (k := s.crew) h, fun hp => ⟨fun n d stage present late other => ?_,
      (Crew.Sound.claims h hp).claimed, (Crew.Sound.claims h hp).given⟩⟩
    · simpa [waiters, bays] using waits.once
    · simpa [state, waiters, holder] using waits.tower
    · simpa [state, bays] using waits.bay
    · simpa [state, holder] using waits.holder
    · have stands := (Crew.Sound.claims h hp).stands n d stage present late id
      unfold Crew.Stands
      rw [others d other]
      exact stands
  refine recorded.judgeCar fun hp r pushed car claimed late => ?_
  have stands := (Crew.Sound.claims h hp).stands r.oven r.car r.stage
    (by simp [State.crew, show s.pu.push = some r from pushed, PushRecord.part, claimed]) late id
  unfold Crew.Stands
  rw [state, ← car]
  exact stands.1

/-! ### Other events of QU -/

theorem towerReport_manned (y : TowerReport) (h : s.Manned p) : (towerReport y s).Manned p := by
  have seen : (s.withQu { s.qu with sprayReported := y.spray, carInTower := y.carInTower }).Manned p :=
    h.inert (.withQu rfl rfl rfl rfl rfl)
  unfold towerReport
  dsimp only
  split
  · next c _ =>
    split_ifs with begins
    · refine seen.quiet ?_
      simp only [State.awaitsSpray, Bool.and_eq_true, beq_iff_eq] at begins
      obtain ⟨_, ⟨holds, waits⟩, _⟩ := begins
      rw [State.beginQuench, State.crew_setCar _ c (by rfl)]
      refine fun k => ⟨k.turn (fun hc => absurd holds (k.tower c hc).2) (fun hc => ?_) fun _ => .inr (.inl rfl),
        Crew.calm_turn_of_not_loose fun loose => loose.1 waits⟩
      exact absurd (waits.symm.trans (k.bay c hc)) nofun
    · exact seen
  · exact seen

theorem quenchTimerExpiry_manned (c : Car) (h : s.Manned p) : (quenchTimerExpiry c s).Manned p := by
  unfold quenchTimerExpiry
  dsimp only
  split_ifs with _ quenching
  · refine h.quiet ?_
    rw [State.crew_issue, State.crew_setCar _ c (by rfl)]
    have state : (s.crew.cars c).1 = .quenching := quenching
    refine fun k => ⟨k.turn (fun hc => ?_) (fun hc => ?_) fun _ => .inr (.inr (.inl rfl)),
      Crew.calm_turn_of_not_loose fun loose => loose.2.2.1 state⟩
    · simpa [state] using (k.tower c hc).1
    · exact absurd (state.symm.trans (k.bay c hc)) nofun
  · exact h.inert (.setCar rfl rfl)
  · exact h

theorem drainTimerExpiry_manned (c : Car) (h : s.Manned p) : (drainTimerExpiry c s).Manned p := by
  have stopped : (s.setCar c { s.car c with drainTimer := none }).Manned p := h.inert (.setCar rfl rfl)
  unfold drainTimerExpiry
  dsimp only
  split_ifs with _ draining
  · have waits := Crew.Sound.waits h
    have state : (s.crew.cars c).1 = .draining := draining
    have same : (s.setCar c { s.car c with drainTimer := none }).crew = s.crew := s.crew_setCar_same c rfl rfl
    obtain ⟨out, still⟩ := State.out_leaveTower (s := s.setCar c { s.car c with drainTimer := none }) (c := c)
      (same ▸ fun hc => by simpa [state] using (waits.tower c hc).1)
      (same ▸ fun hc => absurd (state.symm.trans (waits.bay c hc)) nofun)
    refine (stopped.quiet State.quiet_leaveTower).quiet (State.quiet_seekBay out fun here => ?_)
    unfold Crew.Stands at here
    rw [still, same, state] at here
    exact here.elim nofun nofun
  · exact stopped
  · exact h

theorem dumpTimerExpiry_manned (c : Car) (h : s.Manned p) : (dumpTimerExpiry c s).Manned p := by
  unfold dumpTimerExpiry
  dsimp only
  split_ifs
  · exact h.faultCar c _
  · exact h.inert (.setCar rfl rfl)
  · exact h

theorem bayHoldTimerExpiry_manned (b : Nat) (h : s.Manned p) : (bayHoldTimerExpiry b s).Manned p := by
  unfold bayHoldTimerExpiry
  split_ifs
  · exact h.quiet (by rw [State.crew_freeBay]; exact Crew.quiet_freeBay)
  · exact h

theorem travelTimerExpiry_manned (c : Car) (h : s.Manned p) : (travelTimerExpiry c s).Manned p := by
  unfold travelTimerExpiry
  dsimp only
  split_ifs
  · exact h.faultCar c _
  · exact h.inert (.setCar rfl rfl)
  · exact h

theorem carNodeSilence_manned (c : Car) (h : s.Manned p) : (carNodeSilence c s).Manned p := by
  unfold carNodeSilence
  split_ifs
  · exact h.faultCar c _
  · exact h

theorem cokeMinuteExpiry_manned (h : s.Manned p) : (cokeMinuteExpiry s).Manned p := by
  unfold cokeMinuteExpiry
  split_ifs
  · exact (h.of_crew s.crew_stepMinute).evaluate
  · exact h

theorem slotCarry_manned (h : s.Manned p) : (slotCarry s).Manned p := by
  unfold slotCarry
  dsimp only
  split_ifs
  · exact h
  · exact State.Manned.evaluate (s := s.withSu _) h
  · exact h

@[simp] theorem State.releaseStalled_pu (s : State) (r : StallRecord) : (s.releaseStalled r).pu = s.pu := by
  unfold State.releaseStalled
  split_ifs <;> simp

/-! ### Requests -/

theorem chargeBegin_manned (b : Byte) (h : s.Manned p) : (chargeBegin b s).state.Manned p := by
  unfold chargeBegin
  dsimp only
  split <;> exact h

theorem chargeEnd_manned (b : Byte) (h : s.Manned p) : (chargeEnd b s).state.Manned p := by
  unfold chargeEnd
  dsimp only
  split_ifs <;> exact h

theorem ovenLoad_manned (b f : Byte) (y m : Word) (k : Half) (h : s.Manned p) : (ovenLoad b f y m k s).state.Manned p := by
  unfold ovenLoad
  dsimp only
  split_ifs
  · exact h
  · exact h
  · split <;> exact h

theorem pushNow_manned (b : Byte) (h : s.Manned p) : (pushNow b s).state.Manned p := by
  unfold pushNow
  dsimp only
  split
  · exact h
  · next taken =>
    split
    · exact h
    · next offer =>
      refine State.manned_startPush _ (Crew.Sound.waits h) (State.available_of_offerCar offer) ?_
      unfold State.pushRefusal at taken
      split_ifs at taken with _ _ pushing
      exact (show s.pu.push = none ∧ s.pu.stall = none by simpa [State.pushing] using pushing).2

theorem abortPush_manned (number : Half) (h : s.Manned p) : (abortPush number s).state.Manned p := by
  unfold Machine.abortPush
  split_ifs
  · exact h
  · split
    · exact h
    · split_ifs
      · exact h
      · exact h
      · exact h.abortPush _

theorem clearStall_manned (b : Byte) (h : s.Manned p) : (clearStall b s).state.Manned p := by
  unfold clearStall
  split_ifs
  · exact h
  · split
    · exact h
    · split
      · exact h
      · next r stalled =>
        have released := State.waits_releaseStalled (s := (s.setOven r.oven ((s.oven r.oven).unstall (b == 1) r.number)).issueAll
          [toOven r.oven (.cap r.oven false)]) (Crew.Sound.waits h) r
        refine ⟨State.waits_withPu released _, fun _ => .inr rfl, fun hp => .of_none ?_⟩
        have idle : s.pu.push = none := by simpa [State.crew, stalled] using Crew.Sound.one h hp
        simp [State.crew, State.reply, State.clearStall, idle]

theorem setValveManual_manned (b : Byte) (x : Half) (h : s.Manned p) : (setValveManual b x s).state.Manned p := by
  unfold setValveManual State.evalManual
  dsimp only
  split_ifs <;> exact h

theorem releaseValve_manned (b : Byte) (h : s.Manned p) : (releaseValve b s).state.Manned p := by
  unfold releaseValve
  dsimp only
  split_ifs <;> exact h

theorem setMain_manned (a : Half) (b c d e : Byte) (f : Half) (h : s.Manned p) : (setMain a b c d e f s).state.Manned p := by
  unfold setMain
  split
  · exact h
  · show (State.evalMainManual _).Manned p
    unfold State.evalMainManual
    split_ifs <;> exact h

theorem carServiceIn_manned (b : Byte) (h : s.Manned p) : (carServiceIn b s).state.Manned p := by
  unfold carServiceIn
  split
  · exact h
  · next c _ =>
    split_ifs with out
    · exact h
    · exact h
    · have state : (s.car c).state = .outOfService := not_not.mp out
      exact State.Manned.evaluate (h.setCar rfl (by simp [Crew.Loose, state]) (by simp [state]))

theorem carServiceOut_manned (b : Byte) (h : s.Manned p) : (carServiceOut b s).state.Manned p := by
  unfold carServiceOut
  split
  · exact h
  · dsimp only
    split
    case h_2 parked => exact h.setCar rfl (by simp [Crew.Loose, parked]) (by simp [parked])
    case h_3 faulted => exact h.quiet (State.quiet_recoverCar faulted)
    all_goals exact h

theorem start_manned (h : s.Manned p) : (start s).state.Manned p := by
  unfold start
  split
  · exact h
  · refine h.of_crew ?_
    simp only [State.reply, State.enterRun, State.crew_evalMain, State.crew_evalValves]
    exact (State.inert_startDoors _).crew

theorem stop_manned (h : s.Manned p) : (stop s).state.Manned p := by
  unfold stop
  split_ifs
  · exact h
  · exact h
  · exact h.of_crew (by simp [State.reply, State.enterConfig])

theorem setBattery_manned (b : Byte) (h : s.Manned p) : (setBattery b s).state.Manned p := by
  unfold setBattery
  split_ifs <;> exact h

theorem ownerOf_manned (c : Instr) (s : State) (h : s.Manned p) : (ownerOf c s).state.Manned p := by
  cases c with
  | chargeBegin => exact chargeBegin_manned _ h
  | chargeEnd => exact chargeEnd_manned _ h
  | pushNow => exact pushNow_manned _ h
  | abortPush => exact abortPush_manned _ h
  | clearStall => exact clearStall_manned _ h
  | setValveManual => exact setValveManual_manned _ _ h
  | releaseValve => exact releaseValve_manned _ h
  | setMain => exact setMain_manned _ _ _ _ _ _ h
  | carServiceIn => exact carServiceIn_manned _ h
  | carServiceOut => exact carServiceOut_manned _ h
  | ovenLoad => exact ovenLoad_manned _ _ _ _ _ h
  | start => exact start_manned h
  | stop => exact stop_manned h
  | setBattery => exact setBattery_manned _ h
  | _ => exact h.inert (inert_ownerOf s trivial)

/-! ### The step -/

theorem manned_linkFree : LinkFree (State.Manned p) where
  sl _ h := State.Manned.of_crew h rfl
  due _ h := State.Manned.of_crew h rfl
  pending _ h := State.Manned.of_crew h rfl

theorem State.manned_takeReset (s : State) (b : Baud) (e : Bool) : (s.takeReset b e).Manned p :=
  State.manned_of_idle ⟨⟨.nil, .nil⟩, nofun, nofun, nofun⟩ rfl

section
variable {c : Instr} {f : State → State}

theorem State.Manned.event (h : s.Manned p) (keeps : ∀ s, (f s).crew = s.crew) (taken : s.event c f = .next t) : t.Manned p :=
  manned_linkFree.event (fun s h => h.of_crew (keeps s)) taken h

theorem State.Manned.checked (h : s.Manned p) (keeps : ∀ s, (f s).crew = s.crew) (taken : s.checked c f = .next t) : t.Manned p :=
  manned_linkFree.checked (fun s h => h.of_crew (keeps s)) taken h

/-- The level of S_RTS reaches a part held in reset too (R210), and reads no car. -/
theorem State.Manned.sRts (h : s.Manned p) (x : Bool) (keeps : ∀ s, (f s).crew = s.crew)
    (taken : (if s.pins.inReset then .next (s.withRts x) else s.event c f) = Host.Outcome.next t) : t.Manned p := by
  split_ifs at taken
  · cases taken; exact h
  · exact h.event keeps taken

theorem powerUp_manned (s : State) (high b1 b0 low : Bool) : (powerUp high b1 b0 low s).Manned p := by
  have fresh := State.manned_takeReset (p := p) s (baudOf b1 b0) low
  unfold powerUp
  dsimp only
  split_ifs
  · exact fresh
  · exact fresh.of_crew rfl

theorem resetReleased_manned (b1 b0 low : Bool) (h : s.Manned p) : (resetReleased b1 b0 low s).Manned p := by
  unfold resetReleased
  split_ifs
  · exact s.manned_takeReset _ _
  · exact h

/-- Every command keeps the two laws. -/
theorem exec_manned (taken : exec c s = .next t) (h : s.Manned p) : t.Manned p := by
  have owned (c : Instr) (s : State) : s.Manned p → (ownerOf c s).state.Manned p := ownerOf_manned c s
  have request : hostRequest c (ownerOf c) s = .next t → t.Manned p := fun k => manned_linkFree.hostRequest (owned c) k h
  cases c with
  | supFrameComplete => exact manned_linkFree.checked (manned_linkFree.supFrameComplete owned _ _) taken h
  | supervisoryByteReceived => exact manned_linkFree.event (manned_linkFree.supervisoryByteReceived owned _) taken h
  | supSilence => exact manned_linkFree.event manned_linkFree.supSilence taken h
  | replySent => exact manned_linkFree.event (manned_linkFree.replySent owned) taken h
  | noticeSent => exact manned_linkFree.event manned_linkFree.noticeSent taken h
  | sRtsAsserted => exact h.sRts (f := sRtsAsserted) true (fun _ => rfl) taken
  | sRtsDeasserted => exact h.sRts (f := sRtsDeasserted) false (fun _ => rfl) taken
  | fieldFrameReceived => exact h.checked (fun s => crew_fieldFrameReceived s _ _ _ _) taken
  | fieldByteReceived => exact h.event (fun s => crew_fieldByteReceived s _) taken
  | fieldLineIdle => exact h.event (fun s => (inert_fieldLineIdle s).crew) taken
  | fieldFrameSent => exact h.event (fun s => (inert_fieldFrameSent s).crew) taken
  | pusherReport => exact manned_linkFree.checked (fun _ => pusherReport_manned _) taken h
  | guideReport => exact manned_linkFree.checked (fun _ => guideReport_manned _) taken h
  | carReport => exact manned_linkFree.checked (fun _ => carReport_manned _) taken h
  | towerReport => exact manned_linkFree.event (fun _ => towerReport_manned _) taken h
  | mainReport => exact h.event (fun s => crew_mainReport s _) taken
  | ovenReport => exact h.checked (fun s => crew_ovenReport s _ _) taken
  | ovenSample => exact h.checked (fun s => crew_ovenSample s _ _) taken
  | stageConfirmation => exact manned_linkFree.checked (fun _ => stageConfirmation_manned _ _) taken h
  | batterySecond => exact h.event crew_batterySecond taken
  | slotCarry => exact manned_linkFree.event (fun _ => slotCarry_manned) taken h
  | cokeMinuteExpiry => exact manned_linkFree.event (fun _ => cokeMinuteExpiry_manned) taken h
  | chargeTimerExpiry => exact h.checked (fun s => (inert_chargeTimerExpiry s _).crew) taken
  | stageTimerExpiry => exact manned_linkFree.event (fun _ => stageTimerExpiry_manned) taken h
  | settleTimerExpiry => exact h.checked (fun s => crew_settleTimerExpiry s _ _) taken
  | doorOffTimerExpiry => exact h.checked (fun s => crew_doorOffTimerExpiry s _ _) taken
  | quenchTimerExpiry => exact manned_linkFree.event (fun _ => quenchTimerExpiry_manned _) taken h
  | drainTimerExpiry => exact manned_linkFree.event (fun _ => drainTimerExpiry_manned _) taken h
  | dumpTimerExpiry => exact manned_linkFree.event (fun _ => dumpTimerExpiry_manned _) taken h
  | bayHoldTimerExpiry => exact manned_linkFree.checked (fun _ => bayHoldTimerExpiry_manned _) taken h
  | travelTimerExpiry => exact manned_linkFree.event (fun _ => travelTimerExpiry_manned _) taken h
  | hotCokeTimerExpiry => exact h.event (fun s => (inert_hotCokeTimerExpiry s _).crew) taken
  | silenceWindowExpiry => exact h.event (fun s => crew_silenceWindowExpiry s _) taken
  | machineSilenceAtPu k => exact manned_linkFree.event (f := machineSilenceAtPu k) (fun _ h => h.abortPush _) taken h
  | silenceAtSu => exact h.checked (fun s => (inert_silenceAtSu s _).crew) taken
  | carNodeSilence => exact manned_linkFree.event (fun _ => carNodeSilence_manned _) taken h
  | towerNodeSilence => exact h.event (f := towerNodeSilence) (fun _ => rfl) taken
  | mainNodeSilence => exact h.event crew_mainNodeSilence taken
  | ovenNodeSilence => exact h.event (fun s => crew_ovenNodeSilence s _) taken
  | ovenNodeReturn m => exact h.event (f := ovenNodeReturn m) (fun s => s.crew_evalValves _) taken
  | mainNodeReturn => exact h.event crew_mainNodeReturn taken
  | towerNodeReturn => exact h.event (f := towerNodeReturn) (fun s => s.crew_issueAll _) taken
  | estopAssertion => exact h.event (fun s => (inert_estopAssertion s).crew) taken
  | estopAtPu => exact manned_linkFree.event (f := estopAtPu) (fun _ h => h.abortPush _) taken h
  | estopAtSu => exact h.event (f := estopAtSu) (fun s => s.crew_pauseSchedule 1 0) taken
  | estopAtQu => exact h.event (fun s => (inert_estopAtQu s).crew) taken
  | estopRelease => exact h.event (fun s => (inert_estopRelease s).crew) taken
  | estopReleaseAtQu => exact h.event (fun s => (inert_estopReleaseAtQu s).crew) taken
  | resetAsserted => cases taken; exact h
  | resetReleased => cases taken; exact resetReleased_manned _ _ _ h
  | powerUp => cases taken; exact powerUp_manned s _ _ _ _
  | _ => exact request taken

end

/-! ### The statement -/

theorem waitLaw_iff : WaitLaw s ↔ s.crew.Waits :=
  ⟨fun ⟨once, tower, bay, holder⟩ => ⟨once, tower, bay, holder⟩, fun ⟨once, tower, bay, holder⟩ => ⟨once, tower, bay, holder⟩⟩

theorem claimLaw_iff : ClaimLaw s ↔ s.crew.ClaimsBut fun _ => False := by
  constructor
  · intro law
    refine ⟨fun n c stage present late _ => ?_, fun n c stage present => ?_, fun n c b present => ?_⟩
    · obtain ⟨r, pushed, rfl, rfl, claimed, rfl⟩ := State.record_of_crew present
      exact (law r pushed).1 late claimed
    · obtain ⟨r, pushed, rfl, rfl, free, rfl⟩ := State.record_of_crew present
      have claims := mt (law r pushed).2.1 (by simp [free])
      cases stage : r.stage <;> simp [stage] at claims ⊢
    · obtain ⟨r, pushed, rfl, rfl, rfl, stage⟩ := State.record_of_crew present
      exact (law r pushed).2.2 stage
  · intro claims r pushed
    have present : s.crew.push = some (r.oven, r.car, r.claimed, r.stage) := by simp [State.crew, pushed, PushRecord.part]
    refine ⟨fun late claimed => claims.stands _ _ _ (claimed ▸ present) late id, fun stage => ?_, fun stage => ?_⟩
    · by_contra free
      rw [Bool.not_eq_true] at free
      have := claims.claimed _ _ _ (free ▸ present)
      rcases stage with e | e | e | e <;> simp [e] at this
    · exact claims.given _ _ _ (stage ▸ present)

/-- The waiting lists stay in their standing whatever the law of R60 says. -/
theorem waitLaw_step (h : step s = .next t) (law : WaitLaw s) : WaitLaw t := by
  have manned : s.Manned False := ⟨waitLaw_iff.mp law, False.elim, False.elim⟩
  exact waitLaw_iff.mpr (Crew.Sound.waits (manned_linkFree.step exec_manned h manned))

theorem claimLaw_step (h : step s = .next t) (push : PushLaw s) (wait : WaitLaw s) (law : ClaimLaw s) : ClaimLaw t := by
  have manned : s.Manned True := ⟨waitLaw_iff.mp wait, fun _ => by simpa [State.crew] using push.one, fun _ => claimLaw_iff.mp law⟩
  exact claimLaw_iff.mpr (Crew.Sound.claims (manned_linkFree.step exec_manned h manned) trivial)

end

/-- Settles O60: the law of R114 and the main floor by the rules of the offtake, the waiting lists and the law of R60 by what every
command does to the crew. -/
theorem everyStepKeepsTheClosedValveAndClaimLaws : Obligations.EveryStepKeepsTheClosedValveAndClaimLaws :=
  ⟨fun _ _ shape push law h => closedLaw_step shape push law h, fun _ _ law h => waitLaw_step h law,
    fun _ _ push wait law h => claimLaw_step h push wait law, fun _ _ law h => floorLaw_kept.step h law⟩

end Sys2Proof.Machine

/-!
SUPPORT. The profile requests and the setpoint (sections 5.4 and 5.5): the two profiles through START and STOP, the rounding of R123
and R127, and the statement.
-/

namespace Sys2Proof.Machine

/-! ### The two profiles -/

/-- The active profile and its shadow (R120, R121). -/
def State.profiles (s : State) : List Int × List Int := (s.pr.active, s.pr.shadow)

section
variable (s : State)

theorem State.profiles_of_pr {s t : State} (h : t.pr = s.pr) : t.profiles = s.profiles := by rw [State.profiles, h, State.profiles]

theorem State.profiles_foldl {α : Type} {f : State → α → State} (each : ∀ s a, (f s a).profiles = s.profiles) (l : List α) :
    ∀ s, (l.foldl f s).profiles = s.profiles := by
  induction l with
  | nil => exact fun _ => rfl
  | cons a l ih => exact fun s => (ih (f s a)).trans (each s a)

theorem State.profiles_startDoor (n : Nat) (x : Side) : (s.startDoor n x).profiles = s.profiles := by
  simp only [State.startDoor]
  split_ifs <;> rfl

theorem State.profiles_startDoors : s.startDoors.profiles = s.profiles :=
  State.profiles_foldl
    (fun t n => (State.profiles_startDoor (t.startDoor n .p) n .c).trans (State.profiles_startDoor t n .p)) _ s

theorem State.profiles_evalMain : s.evalMain.profiles = s.profiles := by
  rw [State.evalMain, State.turnMain_eq]
  rfl

/-- The valve and main evaluations read the profile, and write neither copy. -/
theorem State.profiles_evalModes : s.evalModes.profiles = s.profiles :=
  (State.profiles_evalMain _).trans (State.profiles_foldl (fun t n => State.profiles_of_pr (t.evalValve_pr n)) _ s)

theorem start_profiles : (start s).state.profiles = s.profiles := by
  unfold start
  split
  · rfl
  · exact (State.profiles_evalModes _).trans (State.profiles_startDoors _)

theorem stop_profiles : (stop s).state.profiles = s.profiles := by
  unfold stop
  split_ifs
  · rfl
  · rfl
  · exact State.profiles_evalModes _

end

/-- That the two profiles stand says nothing of the links. -/
theorem linkFree_profiles (p : List Int × List Int) : LinkFree fun s => s.profiles = p := ⟨fun _ h => h, fun _ h => h, fun _ h => h⟩

/-- START and STOP keep both profiles (R121). -/
theorem profiles_kept {s t : State} {tag : Byte} (h : exec (.start tag) s = .next t ∨ exec (.stop tag) s = .next t) :
    t.profiles = s.profiles := by
  rcases h with h | h
  · exact (linkFree_profiles s.profiles).hostRequest (c := .start tag) (owner := start)
      (fun s e => (start_profiles s).trans e) h rfl
  · exact (linkFree_profiles s.profiles).hostRequest (c := .stop tag) (owner := stop)
      (fun s e => (stop_profiles s).trans e) h rfl

/-! ### The profile requests -/

/-- A request that writes PR alone: the frame, PR, and the answer. -/
theorem afterRequest_withPr {s : State} {c : Instr} {f : Frame} {owner : State → Answer} {fields : List Byte} {pr : PressureUnit}
    (h : owner (s.taking c f) = ((s.taking c f).withPr pr).reply fields) :
    FrameOf c [.pr, .sl] s (s.afterRequest c f owner) ∧ (s.afterRequest c f owner).pr = pr ∧
      Answered s (s.afterRequest c f owner) f .ok fields := by
  have writes : Keeps [.pr, .sl] (s.taking c f) (owner (s.taking c f)).state := by
    rw [h]
    intro b hb
    cases b with
    | pr => simp at hb
    | _ => rfl
  refine ⟨frameOf_serve c f owner s writes (by simp) (by simp), ?_, answered_of_sl h rfl⟩
  have kept := s.keeps_afterRequest c f owner .pr (by simp)
  rw [h] at kept
  exact kept

theorem setProfilePoint_of_gt {s : State} {i : Byte} {v : Half} (h : 16 < i.toNat) :
    setProfilePoint i v s = s.refuse .badValue := by
  simp [setProfilePoint, h]

theorem setProfilePoint_of_le {s : State} {i : Byte} {v : Half} (h : i.toNat ≤ 16) : setProfilePoint i v s =
    (s.withPr { s.pr with shadow := s.pr.shadow.set i.toNat (max (-500) (min 500 v.toInt)) }).reply
      (i :: signed (max (-500) (min 500 v.toInt))) := by
  simp [setProfilePoint, Nat.not_lt.mpr h, clampInt, signedOf]

/-! ### The setpoint -/

theorem roundShift_eq (q : Int) (k : Nat) : roundShift q k = (2 * q + 2 ^ k) / 2 ^ (k + 1) := by
  cases k with
  | zero =>
    simp only [roundShift, if_pos, pow_zero, zero_add, pow_one]
    omega
  | succ k =>
    have whole : (2 ^ (k + 1) : Int) = 2 ^ k * 2 := pow_succ 2 k
    have pos : (0 : Int) < 2 ^ k := by positivity
    have halves : q / (2 ^ k * 2) = q / 2 ^ k / 2 := (Int.ediv_ediv_of_nonneg pos.le).symm
    have rounded : (2 * q + 2 ^ k * 2) / (2 ^ k * 2 * 2) = (q / 2 ^ k + 1) / 2 := by
      rw [show 2 * q + 2 ^ k * 2 = (q + 2 ^ k) * 2 by ring, Int.mul_ediv_mul_of_pos_left _ _ (by norm_num),
        ← Int.ediv_ediv_of_nonneg pos.le, Int.add_ediv_of_dvd_right (dvd_refl _), Int.ediv_self pos.ne']
    simp only [roundShift, Nat.succ_ne_zero, if_false, Nat.add_sub_cancel]
    push_cast
    rw [pow_succ 2 (k + 1), whole, rounded, halves]
    omega

/-- The base setpoint, with R123's rounding written out. -/
theorem baseSetpoint_eq (profile : List Int) (u : Nat) : baseSetpoint profile u =
    if u / 1048576 = 16 then profile.getD 16 0
    else profile.getD (u / 1048576) 0 +
      (2 * ((profile.getD (u / 1048576 + 1) 0 - profile.getD (u / 1048576) 0) * ((u / 4096 % 256 : Nat) : Int)) + 256) / 512 := by
  simp only [baseSetpoint, roundShift_eq]
  norm_num

theorem Oven.leaking_iff (o : Oven) : o.leaking = true ↔ o.doorP.state = .leaking ∨ o.doorC.state = .leaking := by
  simp [Oven.leaking]

/-- The larger of the biased setpoint and the main floor, where there is one (R125). -/
def State.floored (s : State) (biased : Int) : Int := (s.mainFloor.map (max biased)).getD biased

theorem State.setpoint_eq (s : State) (o : Oven) {base biased floored : Int}
    (hbase : base = baseSetpoint s.pr.active (profileIndex o))
    (hbiased : biased = if o.leaking then base - (s.pr.leakBias : Int) else base) (hfloored : floored = s.floored biased) :
    s.setpoint o = (max (-500) (min 500 floored), o.leaking, decide (floored ≠ biased),
      decide (max (-500) (min 500 floored) ≠ floored)) := by
  subst hbase hbiased hfloored
  unfold State.setpoint State.floored
  cases s.mainFloor <;> rfl

/-! ### The statement -/

/-- Settles O44: the requests by what they write, the profiles by `profiles_kept`, the setpoint stage by stage. -/
theorem profileRequestsAndSetpoints : Obligations.ProfileRequestsAndSetpoints := by
  refine ⟨⟨fun s tag i v free ht => ⟨fun small => ?point, fun big => ?refused, ?apply⟩, fun s t tag h _ => ?modes, rfl, rfl⟩,
    fun s o u hu k hk f hf d hd base hbase biased hbiased floored hfloored => ?setpoint⟩
  case point =>
    exact ⟨_, exec_of_free (owner := setProfilePoint i v) rfl rfl rfl free ht,
      afterRequest_withPr (setProfilePoint_of_le (s := s.taking _ _) small)⟩
  case refused =>
    exact ⟨_, exec_of_free (owner := setProfilePoint i v) rfl rfl rfl free ht,
      serve_of_refuse _ _ _ s _ (setProfilePoint_of_gt (s := s.taking _ _) big)⟩
  case apply => exact ⟨_, exec_of_free (owner := applyProfile) rfl rfl rfl free ht, afterRequest_withPr rfl⟩
  case modes =>
    have kept := profiles_kept h
    exact ⟨congrArg Prod.fst kept, congrArg Prod.snd kept⟩
  case setpoint =>
    have index : profileIndex o = u := hu.symm
    subst hk hf hd
    rw [← baseSetpoint_eq] at hbase
    simp only [← o.leaking_iff, Bool.decide_eq_true] at hbiased ⊢
    refine s.setpoint_eq o (index ▸ hbase) hbiased ?_
    rw [hfloored]
    unfold State.floored State.mainFloor
    cases s.pr.floorOn <;> cases s.pr.main.pressure <;> rfl

end Sys2Proof.Machine

/-!
SUPPORT. An event that acts on the ovens of one node, one after another (R117, R118, R89): what it leaves of each oven and of the
links.
-/

namespace Sys2Proof.Machine

/-! ### The ovens of a node (R171) -/

section
variable {s : State} {m : Fin 12} {n : Nat}

theorem State.mem_served : n ∈ s.served m ↔ 0 < n ∧ (n - 1) / 8 = m.val ∧ n ≤ s.ovenCount := by
  simp only [State.served, List.mem_filter, List.mem_map, List.mem_range, decide_eq_true_eq]
  constructor
  · rintro ⟨⟨k, small, rfl⟩, within⟩
    exact ⟨by omega, by omega, within⟩
  · rintro ⟨low, node, within⟩
    exact ⟨⟨(n - 1) % 8, by omega, by omega⟩, within⟩

theorem State.served_length_le (s : State) (m : Fin 12) : (s.served m).length ≤ 8 := by
  simpa [State.served] using List.length_filter_le (fun n => decide (n ≤ s.ovenCount)) ((List.range 8).map (8 * m.val + 1 + ·))

theorem ShapeLaw.ovensOf_served (shape : ShapeLaw s) (c : Instr) (m : Fin 12) : OvensOf (s.passed c) (s.served m) where
  once := (List.Nodup.map (fun a b (h : 8 * m.val + 1 + a = 8 * m.val + 1 + b) => by omega) List.nodup_range).filter _
  low _ hn := (State.mem_served.mp hn).1
  high n hn := by
    obtain ⟨-, -, within⟩ := State.mem_served.mp hn
    exact Nat.le_trans within (Nat.le_trans shape.countHigh (ge_of_eq shape.ovens))

theorem nodeNumber_eq (node : (n - 1) / 8 = m.val) : nodeNumber n = m := by
  refine Fin.ext (?_ : (n - 1) / 8 % 12 = m.val)
  omega

theorem servingNode_eq (node : (n - 1) / 8 = m.val) : servingNode n = .oven m := congrArg Node.oven (nodeNumber_eq node)

end

theorem flatMap_length_le {α β : Type} {l : List α} {f : α → List β} {j k : Nat} (few : l.length ≤ j)
    (short : ∀ a, (f a).length ≤ k) : (l.flatMap f).length ≤ j * k := by
  rw [List.length_flatMap]
  refine (List.sum_le_card_nsmul _ k fun x hx => ?_).trans ?_
  · obtain ⟨a, -, rfl⟩ := List.mem_map.mp hx
    exact short a
  · rw [List.length_map, smul_eq_mul]
    exact Nat.mul_le_mul_right k few

/-! ### What an event at those ovens leaves -/

section
variable {s : State} {c : Instr} {m : Fin 12} {act : State → Nat → OvenAct}

theorem State.frameOf_actServed (s : State) (c : Instr) (act : State → Nat → OvenAct) (ns : List Nat) :
    FrameOf c [.ovens, .fl, .sl] s ((s.passed c).actAll act ns) := by
  have keeps := (State.sameContext_actAll act ns (s.passed c)).1
  refine ⟨((s.keeps_withDue _).mono (by simp)).trans (keeps.mono (by simp)), keeps .due (by simp)⟩

variable (shape : ShapeLaw s)
include shape

theorem State.actServed_oven_other {n : Nat} (low : 0 < n) (other : (n - 1) / 8 ≠ m.val ∨ s.ovenCount < n) :
    ((s.passed c).actAll act (s.served m)).oven n = s.oven n :=
  State.actAll_oven_of_not_mem (s := s.passed c) low _ (shape.ovensOf_served c m) fun mem => by
    obtain ⟨-, node, within⟩ := State.mem_served.mp mem
    omega

variable (loc : OvenLocal act)
include loc

theorem State.actServed_oven {n : Nat} (low : 0 < n) (node : (n - 1) / 8 = m.val) (within : n ≤ s.ovenCount) :
    ((s.passed c).actAll act (s.served m)).oven n = (act (s.passed c) n).oven :=
  State.actAll_oven (s := s.passed c) loc _ (shape.ovensOf_served c m) (State.mem_served.mpr ⟨low, node, within⟩)

/-- With room for k commands an oven, all are issued in the order of the ovens, and SL takes the notices in that order. -/
theorem State.actServed_links {k : Nat} (few : ∀ n, (act (s.passed c) n).commands.length ≤ k) (room : s.FieldRoom (8 * k)) :
    Issued s ((s.passed c).actAll act (s.served m)) ((s.served m).flatMap fun n => (act (s.passed c) n).commands) ∧
      ((s.passed c).actAll act (s.served m)).sl =
        (s.raiseAll ((s.served m).flatMap fun n => (act (s.passed c) n).notices)).sl := by
  exact State.actAll_links loc _ (s.passed c) (shape.ovensOf_served c m)
    (room.of_le (flatMap_length_le (s.served_length_le m) few))

end

end Sys2Proof.Machine

/-!
SUPPORT. Silence and return at PR and QU (R118, R133, R153), on the modes of R111 and R130, and the statement.
-/

namespace Sys2Proof.Machine

/-! ### The valve mode (R111) -/

section
variable {s t : State} {n : Nat}

theorem State.valveModeBy_congr {heard : Bool} (mode : t.bk.mode = s.bk.mode) (pu : t.pu = s.pu)
    (inputs : (t.oven n).modeInputs = (s.oven n).modeInputs) : t.valveModeBy heard n = s.valveModeBy heard n := by
  simp only [Oven.modeInputs, Prod.mk.injEq] at inputs
  obtain ⟨phase, manual, doorP, doorC, pressure⟩ := inputs
  have past : t.pastSpot n = s.pastSpot n := by simp [State.pastSpot, pu]
  simp only [State.valveModeBy, past, mode, phase, manual, doorP, doorC, pressure]

theorem SameContext.valveModeBy {heard : Bool} (h : SameContext s t) (inputs : (t.oven n).modeInputs = (s.oven n).modeInputs) :
    t.valveModeBy heard n = s.valveModeBy heard n :=
  State.valveModeBy_congr (congrArg BatteryClock.mode (h.1 .bk (by simp))) (h.1 .pu (by simp)) inputs

/-- R111's table, its conditions written out. -/
theorem State.valveModeBy_eq (s : State) (heard : Bool) (n : Nat) : s.valveModeBy heard n =
    (if (s.oven n).phase = .stalled ∨
        ((s.oven n).phase = .pushing ∧ ∃ r ∈ s.pu.push, r.oven = n ∧ r.stage ≠ .spot) then .closed
      else if (s.oven n).valve.manualFlag = true then .manual
      else if s.bk.mode = .config then .hold
      else if (s.oven n).phase = .empty then .closed
      else if (s.oven n).phase = .charging then .aspirate
      else if ((s.oven n).doorP.state = .off ∧ (s.oven n).doorP.unexpected = true) ∨
        ((s.oven n).doorC.state = .off ∧ (s.oven n).doorC.unexpected = true) then .aspirate
      else if heard = false ∨ (s.oven n).valve.lastPressure = none then .hold
      else .auto) := by
  simp only [State.valveModeBy, State.pastSpot_iff, Option.mem_def, Door.offUnexpected, Bool.or_eq_true, Bool.and_eq_true,
    beq_iff_eq, Bool.not_eq_true', Option.isNone_iff_eq_none]

theorem State.hears_iff (s : State) (x : Node) (back : Instr) :
    s.hears x back = true ↔ (s.fl.entry x).liveness = .live ∧ back ∉ s.due := by
  simp [State.hears, State.live]

/-! ### The main mode (R130) -/

theorem State.mainModeBy_eq (s : State) (heard : Bool) : s.mainModeBy heard =
    (if s.pr.main.manualFlag then .manual
      else if s.bk.mode = .config ∨ heard = false ∨ s.pr.main.pressure = none then .hold else .auto) := by
  simp only [State.mainModeBy, Bool.not_eq_true', Option.isNone_iff_eq_none]

theorem State.mainModeBy_silent (s : State) : s.mainModeBy false = if s.pr.main.manualFlag then .manual else .hold := by
  simp [State.mainModeBy]

/-- Only the manual flag gives MANUAL. -/
theorem State.manualFlag_of_mainModeBy {heard : Bool} (h : s.mainModeBy heard = .manual) : s.pr.main.manualFlag = true := by
  rw [State.mainModeBy_eq] at h
  split_ifs at h
  assumption

/-- A main that is in MANUAL already, or is not to enter it, takes the mode alone. -/
theorem State.turnMain_of_manual {m : ValveMode} (h : m = .manual → s.pr.main.mode = .manual) :
    s.turnMain m = s.withMain { s.pr.main with mode := m } := by
  unfold State.turnMain
  by_cases same : m = s.pr.main.mode
  · rw [if_pos same]
    subst same
    rfl
  · rw [if_neg same, if_neg fun manual => same (manual.trans (h manual).symm)]

end

/-! ### Silence and return of an oven node (R118) -/

/-- PR's evaluation of one oven with its node silent (R118). -/
def State.silentAct (s : State) (n : Nat) : OvenAct :=
  ⟨(s.oven n).setValve (turnTo n (s.valveModeBy false n) (s.oven n).valve).1,
    (turnTo n (s.valveModeBy false n) (s.oven n).valve).2, []⟩

theorem silentAct_local : OvenLocal State.silentAct := by
  intro s t n _ _ context same
  have mode := context.valveModeBy (heard := false) (n := n) (by rw [same])
  simp only [State.silentAct, same, mode]

section
variable {s : State} {m : Fin 12}

theorem ovenNodeSilence_eq (shape : ShapeLaw s) (c : Instr) :
    ovenNodeSilence m (s.passed c) = (s.passed c).actAll State.silentAct (s.served m) :=
  State.foldl_eq_actAll (act := State.silentAct) (fun _ _ _ => rfl) _ (s.passed c) (shape.ovensOf_served c m)

theorem ovenNodeReturn_eq (shape : ShapeLaw s) (c : Instr) :
    ovenNodeReturn m (s.passed c) = (s.passed c).actAll State.valveAct (s.served m) :=
  State.evalValves_eq (s := s.passed c) (shape.ovensOf_served c m)

end

/-- An event that evaluates the valve of each oven of a node, the node heard as told. -/
theorem State.evaluated_served {s : State} {c : Instr} {m : Fin 12} {heard : Bool} {act : State → Nat → OvenAct}
    (shape : ShapeLaw s) (loc : OvenLocal act) (few : ∀ n, (act (s.passed c) n).commands.length ≤ 2)
    (acts : ∀ n, (n - 1) / 8 = m.val → act (s.passed c) n =
      ⟨(s.oven n).setValve (turnTo n (s.valveModeBy heard n) (s.oven n).valve).1,
        (turnTo n (s.valveModeBy heard n) (s.oven n).valve).2, []⟩) {t : State}
    (ht : t = (s.passed c).actAll act (s.served m)) :
    FrameOf c [.ovens, .fl, .sl] s t ∧ t.fl.nodes = s.fl.nodes ∧
      (∀ n < 97, 0 < n → (n - 1) / 8 ≠ m.val ∨ s.ovenCount < n → t.oven n = s.oven n) ∧
      (∀ n < 97, 0 < n → (n - 1) / 8 = m.val → n ≤ s.ovenCount →
        t.oven n = (s.oven n).setValve (turnTo n (s.valveModeBy heard n) (s.oven n).valve).1 ∧
        (t.oven n).valve.mode = t.valveModeBy heard n) ∧
      (s.FieldRoom 16 → t.sl = s.sl ∧
        Issued s t ((s.served m).flatMap fun n => (turnTo n (s.valveModeBy heard n) (s.oven n).valve).2)) := by
  subst ht
  have context : SameContext (s.passed c) ((s.passed c).actAll act (s.served m)) := State.sameContext_actAll act _ _
  refine ⟨s.frameOf_actServed c act _, context.2, fun n _ low other => State.actServed_oven_other shape low other,
    fun n _ low node within => ?oven, fun room => ?links⟩
  case oven =>
    have written : ((s.passed c).actAll act (s.served m)).oven n = _ :=
      (State.actServed_oven shape loc low node within).trans (congrArg OvenAct.oven (acts n node))
    refine ⟨written, ?_⟩
    have mode : ((s.passed c).actAll act (s.served m)).valveModeBy heard n = s.valveModeBy heard n :=
      context.valveModeBy (by rw [written]; exact Oven.modeInputs_turnTo (s.oven n) n _)
    rw [mode, written]
    exact turnTo_mode n _ _
  case links =>
    obtain ⟨issued, sl⟩ := State.actServed_links (m := m) shape loc few room
    have commands : ((s.served m).flatMap fun n => (act (s.passed c) n).commands) =
        (s.served m).flatMap fun n => (turnTo n (s.valveModeBy heard n) (s.oven n).valve).2 :=
      List.flatMap_congr fun n hn => congrArg OvenAct.commands (acts n (State.mem_served.mp hn).2.1)
    have quiet : ((s.served m).flatMap fun n => (act (s.passed c) n).notices) = [] :=
      List.flatMap_eq_nil_iff.mpr fun n hn => congrArg OvenAct.notices (acts n (State.mem_served.mp hn).2.1)
    rw [quiet] at sl
    exact ⟨sl, commands ▸ issued⟩

/-! ### Silence and return of the main node (R133) -/

section
variable {s : State} (manual : s.pr.main.manualFlag = true → s.pr.main.mode = .manual)
include manual

theorem mainNodeSilence_eq : mainNodeSilence s = s.withPr { s.pr with
    floorOn := false, main := { s.pr.main with mode := if s.pr.main.manualFlag then .manual else .hold } } := by
  have turned : mainNodeSilence s = (s.setFloor false).withMain { s.pr.main with mode := s.mainModeBy false } :=
    State.turnMain_of_manual (s := s.setFloor false) fun h => manual (State.manualFlag_of_mainModeBy h)
  rw [turned, State.mainModeBy_silent]
  rfl

theorem mainNodeReturn_eq : mainNodeReturn s = s.withPr { s.pr with
    floorOn := (s.fl.entry .main).liveness == .live, main := { s.pr.main with mode := s.mainMode } } :=
  State.turnMain_of_manual (s := s.setFloor (s.live .main)) fun h => manual (State.manualFlag_of_mainModeBy (s := s) h)

end

/-- An event that writes PR alone. -/
theorem State.frameOf_withPr (s : State) (c : Instr) (pr : PressureUnit) : FrameOf c [.pr] s ((s.passed c).withPr pr) := by
  refine ⟨fun b hb => ?_, rfl⟩
  cases b with
  | pr | due => simp at hb
  | _ => rfl

/-! ### Return of the tower node (R153) -/

theorem State.sprayWanted_iff (s : State) : s.sprayWanted = true ↔ ∃ c ∈ allCars, s.qu.holder = some c ∧
    (((s.car c).state = .toTower ∧ (s.car c).target = none) ∨ (s.car c).state = .quenching) := by
  have every : ∀ c : Car, c ∈ allCars := fun c => by cases c <;> decide
  unfold State.sprayWanted
  cases holder : s.qu.holder with
  | none => simp
  | some c => simp [State.awaitsSpray, holder, every]

theorem State.gateWanted_iff (s : State) (b : Nat) : s.gateWanted b = true ↔ ∃ c ∈ allCars, (s.qu.bay b).car = some c ∧
    ((s.car c).state = .dumping ∨ ((s.car c).state = .faulted ∧ (s.car c).position = .bay b)) := by
  have every : ∀ c : Car, c ∈ allCars := fun c => by cases c <;> decide
  unfold State.gateWanted
  cases car : (s.qu.bay b).car with
  | none => simp
  | some c => simp [CarRecord.faulted, every]

/-- The tower's commands, as its return sends them again. -/
def State.towerCommands (s : State) : List Outgoing := [⟨.tower, .spray s.sprayWanted⟩, ⟨.tower, .gate 1 (s.gateWanted 1)⟩,
  ⟨.tower, .gate 2 (s.gateWanted 2)⟩, ⟨.tower, .gate 3 (s.gateWanted 3)⟩, ⟨.tower, .gate 4 (s.gateWanted 4)⟩]

theorem towerNodeReturn_eq (s : State) : towerNodeReturn s = s.issueAll s.towerCommands := rfl

/-- An event whose commands find room: they are all it changes. -/
theorem State.frameOf_issueAll {s : State} {c : Instr} {cs : List Outgoing} (room : s.FieldRoom cs.length) :
    FrameOf c [.fl] s ((s.passed c).issueAll cs) ∧ Issued s ((s.passed c).issueAll cs) cs := by
  obtain ⟨issued, sl⟩ := State.issueAll_of_room (s.passed c) cs room
  refine ⟨⟨fun b hb => ?_, rfl⟩, issued⟩
  cases b with
  | fl | due => simp at hb
  | sl => exact sl
  | _ => rfl

/-! ### The statement -/

/-- Settles O47: R111's and R130's tables as written out, R113's by `enterMode`, each oven of a node on its own at its silence
and its return, and the commands the tower node is sent again. -/
theorem silenceAndReturnAtTheOwners : Obligations.SilenceAndReturnAtTheOwners := by
  refine ⟨fun s n heard low high => ⟨s.valveModeBy_eq heard n, fun y hy m hm => ?node, s.mainModeBy_eq heard, rfl,
      s.hears_iff _ _⟩, fun n m v y low high hy => ⟨fun h => ?same, fun ne off hoff => ?entered⟩,
    ⟨fun s m c heard events shape run => ?oven, fun s run manual => ⟨?mainSilence, ?mainReturn⟩⟩,
    fun s run room => ⟨State.event_of_run s _ _ run, ?towerReturn⟩⟩
  case node =>
    obtain rfl := eq_servingNode_of_id hy
    obtain rfl := nodeNumber_eq hm.symm
    exact ⟨rfl, s.hears_iff _ _⟩
  case same =>
    subst h
    exact turnTo_same n v
  case entered =>
    obtain rfl := eq_servingNode_of_id hy
    subst hoff
    rw [turnTo_of_ne n (Ne.symm ne)]
    refine ⟨?_, ?_, ?_, ?_, ?_⟩ <;> (rintro rfl; rfl)
  case oven =>
    rcases events with ⟨rfl, rfl⟩ | ⟨rfl, rfl⟩
    · exact ⟨_, State.event_of_run s _ _ run, State.evaluated_served shape silentAct_local (fun n => turnTo_length n _ _)
        (fun _ _ => rfl) (ovenNodeSilence_eq shape _)⟩
    · refine ⟨_, State.event_of_run s _ _ run, State.evaluated_served shape valveAct_local (fun n => turnTo_length n _ _)
        (fun n node => ?_) (ovenNodeReturn_eq shape _)⟩
      rw [← servingNode_eq node]
      rfl
  case mainSilence =>
    exact ⟨_, (State.event_of_run s _ _ run).trans (congrArg _ (mainNodeSilence_eq (s := s.passed _) manual)),
      s.frameOf_withPr _ _, rfl⟩
  case mainReturn =>
    exact ⟨_, (State.event_of_run s _ _ run).trans (congrArg _ (mainNodeReturn_eq (s := s.passed _) manual)),
      s.frameOf_withPr _ _, rfl⟩
  case towerReturn =>
    obtain ⟨frame, issued⟩ := State.frameOf_issueAll (c := .towerNodeReturn) (cs := s.towerCommands) room
    refine ⟨_, (State.event_of_run s _ _ run).trans (congrArg _ (towerNodeReturn_eq _)), frame, _, _, _, _, _,
      issued, s.sprayWanted_iff, ?_⟩
    simp only [List.mem_cons, List.not_mem_nil, or_false, forall_eq_or_imp, forall_eq]
    exact ⟨s.gateWanted_iff 1, s.gateWanted_iff 2, s.gateWanted_iff 3, s.gateWanted_iff 4⟩

end Sys2Proof.Machine

/-!
SUPPORT. The loops (R117, R127, R131): an oven's sample as one operation on that oven, the main's report, and the statement.
-/

namespace Sys2Proof.Machine

/-! ### The loop's arithmetic (R127) -/

theorem rawStep_eq (p sp : Int) (gain shift : Nat) :
    rawStep p sp gain shift = (2 * ((p - sp) * (gain : Int)) + 2 ^ shift) / 2 ^ (shift + 1) := roundShift_eq _ _

theorem stepCommand_eq (command : Nat) (d : Int) : (stepCommand command d : Int) = max 0 (min 1023 ((command : Int) + d)) := by
  simp only [stepCommand, clampInt]
  omega

/-- A command within its range moves by no more than the limit on its step. -/
theorem stepCommand_near {command limit : Nat} {raw : Int} (within : command ≤ 1023) :
    (stepCommand command (limitStep limit raw) : Int) - command ≤ limit ∧
      (command : Int) - stepCommand command (limitStep limit raw) ≤ limit := by
  simp only [stepCommand_eq, limitStep, clampInt]
  omega

/-! ### One sample (R117) -/

/-- The events brought about but this one tell what a node is heard by. -/
theorem State.hears_passed (s : State) (x : Node) {c back : Instr} (ne : back ≠ c) :
    (s.passed c).hears x back = s.hears x back := by
  have mem : back ∈ s.due.erase c ↔ back ∈ s.due := List.mem_erase_of_ne ne
  rw [Bool.eq_iff_iff, State.hears_iff, State.hears_iff]
  exact and_congr_right fun _ => not_congr mem

/-- The valve and the commands after a sample is recorded and, where R117 asks for it, its mode evaluated. -/
def State.sampled (s : State) (n : Nat) (e : OvenEntry) : Valve × List Outgoing :=
  if (s.oven n).valve.lastPressure.isSome = ((s.oven n).valve.record e).lastPressure.isSome ∧
      Instr.ovenNodeReturn (nodeNumber n) ∉ s.due then ((s.oven n).valve.record e, [])
  else turnTo n ((s.setOven n ((s.oven n).setValve ((s.oven n).valve.record e))).valveModeBy (s.hearsOven n) n)
    ((s.oven n).valve.record e)

/-- The loop, where the valve is in AUTO with its last pressure valid (R117, step 4). -/
def State.looped (s : State) (o : Oven) : Valve :=
  match o.valve.mode, o.valve.lastPressure with
  | .auto, some p => s.loopValve o p
  | _, _ => o.valve

/-- The loop's command. -/
def State.loopCommands (s : State) (n : Nat) (o : Oven) : List Outgoing :=
  match o.valve.mode, o.valve.lastPressure with
  | .auto, some _ => [toOven n (.valve n (s.looped o).command)]
  | _, _ => []

/-- What a node report's sample does to one oven. -/
def State.sampleAct (m : Fin 12) (es : List OvenEntry) (s : State) (n : Nat) : OvenAct :=
  match entryFor m es n with
  | some e =>
    ⟨(s.oven n).setValve (s.looped ((s.oven n).setValve (s.sampled n e).1)),
      (s.sampled n e).2 ++ s.loopCommands n ((s.oven n).setValve (s.sampled n e).1), []⟩
  | none => ⟨s.oven n, [], []⟩

section
variable {s t : State} {n : Nat} {e : OvenEntry} {o : Oven} {v : Valve}

theorem State.sampled_of_kept (h : (s.oven n).valve.lastPressure.isSome = ((s.oven n).valve.record e).lastPressure.isSome ∧
    Instr.ovenNodeReturn (nodeNumber n) ∉ s.due) : s.sampled n e = ((s.oven n).valve.record e, []) := if_pos h

theorem State.loop_of_auto {p : Int} (auto : o.valve.mode = .auto) (valid : o.valve.lastPressure = some p) :
    s.looped o = s.loopValve o p ∧ s.loopCommands n o = [toOven n (.valve n (s.loopValve o p).command)] := by
  simp only [State.loopCommands, State.looped, auto, valid, and_self]

theorem State.loop_of_other (h : o.valve.mode ≠ .auto ∨ o.valve.lastPressure = none) :
    s.looped o = o.valve ∧ s.loopCommands n o = [] := by
  unfold State.loopCommands State.looped
  split
  · next auto valid => simp [auto, valid] at h
  · exact ⟨rfl, rfl⟩

/-- The loop writes neither the mode, nor what the mode is evaluated on. -/
theorem State.looped_kept (s : State) (o : Oven) : (s.looped o).mode = o.valve.mode ∧
    (s.looped o).manualFlag = o.valve.manualFlag ∧ (s.looped o).lastPressure = o.valve.lastPressure := by
  unfold State.looped
  split <;> exact ⟨rfl, rfl, rfl⟩

theorem State.sampled_inputs (s : State) (n : Nat) (e : OvenEntry) : (s.sampled n e).1.manualFlag = (s.oven n).valve.manualFlag ∧
    (s.sampled n e).1.lastPressure = ((s.oven n).valve.record e).lastPressure := by
  unfold State.sampled
  split
  · exact ⟨rfl, rfl⟩
  · exact turnTo_inputs n _ _

/-! ### A record written, then a valve and its commands -/

theorem State.act_oven_valve (place : n - 1 < s.ovens.length) (cs ds : List Outgoing) :
    (s.act n ⟨o, cs, []⟩).applyValve n (v, ds) = s.act n ⟨o.setValve v, cs ++ ds, []⟩ := by
  have record : (s.act n ⟨o, cs, []⟩).oven n = o := State.act_oven_self place
  rw [State.applyValve, record]
  have later : (s.act n ⟨o, cs, []⟩).setOven n (o.setValve v) = (s.setOven n (o.setValve v)).issueAll cs :=
    congrArg (fun t => State.issueAll t cs) (s.setOven_setOven n o (o.setValve v))
  rw [later, State.issueAll_append]
  rfl

theorem State.act_kept (s : State) (n : Nat) : s.act n ⟨s.oven n, [], []⟩ = s := s.setOven_oven_self n

theorem State.runLoop_act (place : n - 1 < s.ovens.length) (cs : List Outgoing) :
    (s.act n ⟨o, cs, []⟩).runLoop n = s.act n ⟨o.setValve (s.looped o), cs ++ s.loopCommands n o, []⟩ := by
  have record : (s.act n ⟨o, cs, []⟩).oven n = o := State.act_oven_self place
  by_cases loops : o.valve.mode ≠ .auto ∨ o.valve.lastPressure = none
  · obtain ⟨valve, quiet⟩ := State.loop_of_other (s := s) (n := n) loops
    rw [valve, quiet, List.append_nil, State.runLoop, record]
    split
    · next auto valid => simp [auto, valid] at loops
    · rfl
  · rw [not_or, not_not, ← ne_eq, Option.ne_none_iff_exists'] at loops
    obtain ⟨auto, p, valid⟩ := loops
    obtain ⟨valve, sends⟩ := State.loop_of_auto (s := s) (n := n) auto valid
    rw [valve, sends, ← State.act_oven_valve place]
    simp only [State.runLoop, record, auto, valid]
    rfl

theorem State.takeSample_eq (place : n - 1 < s.ovens.length) (e : OvenEntry) : s.takeSample n e =
    s.act n ⟨(s.oven n).setValve (s.looped ((s.oven n).setValve (s.sampled n e).1)),
      (s.sampled n e).2 ++ s.loopCommands n ((s.oven n).setValve (s.sampled n e).1), []⟩ := by
  have evaluated : (if (s.oven n).valve.lastPressure.isSome == ((s.oven n).valve.record e).lastPressure.isSome &&
        !s.due.contains (.ovenNodeReturn (nodeNumber n)) then
        s.setOven n ((s.oven n).setValve ((s.oven n).valve.record e))
      else (s.setOven n ((s.oven n).setValve ((s.oven n).valve.record e))).evalSample n) =
      s.act n ⟨(s.oven n).setValve (s.sampled n e).1, (s.sampled n e).2, []⟩ := by
    have record : (s.setOven n ((s.oven n).setValve ((s.oven n).valve.record e))).oven n = _ := s.oven_setOven_self n _ place
    have written := State.act_oven_valve (s := s) (n := n) (o := (s.oven n).setValve ((s.oven n).valve.record e))
      (v := (s.sampled n e).1) place [] (s.sampled n e).2
    by_cases kept : (s.oven n).valve.lastPressure.isSome = ((s.oven n).valve.record e).lastPressure.isSome ∧
        Instr.ovenNodeReturn (nodeNumber n) ∉ s.due
    · rw [if_pos (by simpa using kept), State.sampled_of_kept kept]
      rfl
    · rw [if_neg (by simpa using kept), State.evalSample, record]
      refine Eq.trans ?_ written
      rw [State.sampled, if_neg kept]
      rfl
  refine Eq.trans ?_ (State.runLoop_act (o := (s.oven n).setValve (s.sampled n e).1) place (s.sampled n e).2)
  rw [← evaluated]
  rfl

end

/-! ### The samples of a node -/

section
variable {s t : State} {n : Nat} {m : Fin 12} {es : List OvenEntry}

theorem SameContext.sampled {e : OvenEntry} (context : SameContext s t) (same : t.oven n = s.oven n)
    (place : n - 1 < s.ovens.length) (place' : n - 1 < t.ovens.length) : t.sampled n e = s.sampled n e := by
  have due : t.due = s.due := context.1 .due (by simp)
  have hears : t.hearsOven n = s.hearsOven n := by
    simp only [State.hearsOven, State.hears, State.live, FieldLink.entry, context.2, due]
  have mode : ∀ o : Oven, ∀ heard, (t.setOven n o).valveModeBy heard n = (s.setOven n o).valveModeBy heard n := fun o heard =>
    State.valveModeBy_congr (congrArg BatteryClock.mode (context.1 .bk (by simp))) (context.1 .pu (by simp))
      (by rw [State.oven_setOven_self _ _ _ place, State.oven_setOven_self _ _ _ place'])
  simp only [State.sampled, same, due, hears, mode]

theorem SameContext.looped {o : Oven} (context : SameContext s t) : t.looped o = s.looped o := by
  have pr : t.pr = s.pr := context.1 .pr (by simp)
  have floor : t.mainFloor = s.mainFloor := by rw [State.mainFloor, pr, State.mainFloor]
  have setpoint : t.setpoint o = s.setpoint o := by rw [State.setpoint, pr, floor, State.setpoint]
  have loop (p : Int) : t.loopValve o p = s.loopValve o p := by rw [State.loopValve, setpoint, pr, State.loopValve]
  simp only [State.looped, loop]

theorem sampleAct_local : OvenLocal (State.sampleAct m es) := by
  intro s t n place place' context same
  simp only [State.sampleAct, State.loopCommands, context.sampled same place place', context.looped, same]

theorem ovenSample_eq (shape : ShapeLaw s) (c : Instr) :
    ovenSample m es (s.passed c) = (s.passed c).actAll (State.sampleAct m es) (s.served m) := by
  refine State.foldl_eq_actAll (act := State.sampleAct m es) (fun t n place => ?_) _ (s.passed c) (shape.ovensOf_served c m)
  unfold State.sampleAct
  cases entryFor m es n with
  | none => exact (t.act_kept n).symm
  | some e => exact State.takeSample_eq place e

theorem State.loopCommands_length (s : State) (n : Nat) (o : Oven) : (s.loopCommands n o).length ≤ 1 := by
  unfold State.loopCommands
  split <;> simp

/-- A sample that enters AUTO sends at most the end of aspiration, and then the loop's command. -/
theorem State.sampleAct_length (s : State) (n : Nat) : (s.sampleAct m es n).commands.length ≤ 2 := by
  unfold State.sampleAct
  cases entryFor m es n with
  | none => simp
  | some e =>
    rw [List.length_append]
    by_cases auto : (s.sampled n e).1.mode = .auto
    · have loop := s.loopCommands_length n ((s.oven n).setValve (s.sampled n e).1)
      have turn : (s.sampled n e).2.length ≤ 1 := by
        unfold State.sampled at auto ⊢
        split_ifs at auto ⊢ with kept
        · simp
        · rw [turnTo_mode] at auto
          rw [auto, turnTo]
          split_ifs
          · simp
          · exact endAspiration_length n _
      omega
    · have turn : (s.sampled n e).2.length ≤ 2 := by
        unfold State.sampled
        split_ifs
        · simp
        · exact turnTo_length n _ _
      rw [(State.loop_of_other (.inl auto)).2]
      simpa using turn

end

end Sys2Proof.Machine

/-!
SUPPORT. What the samples of a node leave of each oven, the main's report (R131), and the statement about both.
-/

namespace Sys2Proof.Machine

/-! ### The part after a node's samples -/

/-- The part after a node report's samples: each of the node's ovens has taken its own. -/
def State.afterSamples (s : State) (m : Fin 12) (es : List OvenEntry) : State :=
  (s.passed (.ovenSample m es)).actAll (State.sampleAct m es) (s.served m)

section
variable {s : State} {m : Fin 12} {es : List OvenEntry} {n : Nat} {e : OvenEntry}

theorem exec_ovenSample (shape : ShapeLaw s) (run : s.pins.inReset = false) (whole : es.length = 8) :
    exec (.ovenSample m es) s = .next (s.afterSamples m es) :=
  ((State.checked_of_wf s _ _ (by simp [Instr.wf, whole])).trans (State.event_of_run s _ _ run)).trans
    (congrArg _ (ovenSample_eq shape _))

theorem State.sampled_passed : (s.passed (.ovenSample m es)).sampled n e = s.sampled n e := by
  have mem : Instr.ovenNodeReturn (nodeNumber n) ∈ (s.passed (.ovenSample m es)).due ↔
      Instr.ovenNodeReturn (nodeNumber n) ∈ s.due := List.mem_erase_of_ne nofun
  have hears : (s.passed (.ovenSample m es)).hearsOven n = s.hearsOven n := s.hears_passed _ nofun
  simp only [State.sampled, mem, hears]
  rfl

/-- The entry of one of the node's ovens. -/
theorem entryFor_eq (node : (n - 1) / 8 = m.val) (entry : es[(n - 1) % 8]? = some e) : entryFor m es n = some e := by
  rw [entryFor, if_pos (nodeNumber_eq node), entry]

theorem State.sampleAct_passed (node : (n - 1) / 8 = m.val) (entry : es[(n - 1) % 8]? = some e) :
    (s.passed (.ovenSample m es)).sampleAct m es n =
      ⟨(s.oven n).setValve (s.looped ((s.oven n).setValve (s.sampled n e).1)),
        (s.sampled n e).2 ++ s.loopCommands n ((s.oven n).setValve (s.sampled n e).1), []⟩ := by
  simp only [State.sampleAct, entryFor_eq node entry, State.sampled_passed]
  rfl

variable (shape : ShapeLaw s)
include shape

theorem State.afterSamples_oven (low : 0 < n) (node : (n - 1) / 8 = m.val) (within : n ≤ s.ovenCount)
    (entry : es[(n - 1) % 8]? = some e) : (s.afterSamples m es).oven n =
      (s.oven n).setValve (s.looped ((s.oven n).setValve (s.sampled n e).1)) :=
  (State.actServed_oven shape sampleAct_local low node within).trans
    (congrArg OvenAct.oven (State.sampleAct_passed node entry))

/-- The samples leave R111's inputs as recorded: a sample's own evaluation is that of the part after all. -/
theorem State.afterSamples_sampled (low : 0 < n) (node : (n - 1) / 8 = m.val) (within : n ≤ s.ovenCount)
    (entry : es[(n - 1) % 8]? = some e) : s.sampled n e =
      if (s.oven n).valve.lastPressure.isSome = ((s.oven n).valve.record e).lastPressure.isSome ∧
          Instr.ovenNodeReturn m ∉ s.due then ((s.oven n).valve.record e, [])
      else turnTo n ((s.afterSamples m es).valveModeBy (s.hearsOven n) n) ((s.oven n).valve.record e) := by
  have context : SameContext (s.passed (.ovenSample m es)) (s.afterSamples m es) := State.sameContext_actAll _ _ _
  have place : n - 1 < s.ovens.length := by
    have high := shape.high
    omega
  have mode : (s.afterSamples m es).valveModeBy (s.hearsOven n) n =
      (s.setOven n ((s.oven n).setValve ((s.oven n).valve.record e))).valveModeBy (s.hearsOven n) n := by
    refine State.valveModeBy_congr (congrArg BatteryClock.mode (context.1 .bk (by simp))) (context.1 .pu (by simp)) ?_
    obtain ⟨-, manual, pressure⟩ := s.looped_kept ((s.oven n).setValve (s.sampled n e).1)
    obtain ⟨manual', pressure'⟩ := s.sampled_inputs n e
    rw [State.afterSamples_oven shape low node within entry, State.oven_setOven_self _ _ _ place]
    simp only [Oven.modeInputs, Oven.setValve_valve, Oven.setValve_phase, Oven.setValve_doorP, Oven.setValve_doorC]
      at manual pressure ⊢
    rw [manual, pressure, manual', pressure']
    rfl
  rw [mode, State.sampled, nodeNumber_eq node]

theorem State.afterSamples_valvesOnly (whole : es.length = 8) : ValvesOnly s (s.afterSamples m es) := by
  intro n _ low
  by_cases mine : (n - 1) / 8 = m.val ∧ n ≤ s.ovenCount
  · obtain ⟨node, within⟩ := mine
    have entry : es[(n - 1) % 8]? = some es[(n - 1) % 8] := List.getElem?_eq_getElem (by omega)
    rw [State.afterSamples_oven shape low node within entry]
    rfl
  · have other : (s.afterSamples m es).oven n = s.oven n := State.actServed_oven_other shape low (by omega)
    rw [other]
    rfl

end

/-! ### The commands of a node's samples -/

section
variable {s : State} {n : Nat} {e : OvenEntry}

theorem turnTo_commands_record (n : Nat) (m : ValveMode) (v : Valve) (e : OvenEntry) :
    (turnTo n m (v.record e)).2 = (turnTo n m v).2 := by
  have mode : (v.record e).mode = v.mode := rfl
  unfold turnTo
  rw [mode]
  split
  · rfl
  · cases m <;> rfl

theorem State.loopCommands_eq (s : State) (n : Nat) (o : Oven) : s.loopCommands n o =
    if (s.looped o).mode = .auto ∧ (s.looped o).lastPressure ≠ none then [⟨servingNode n, .valve n (s.looped o).command⟩]
    else [] := by
  obtain ⟨mode, -, pressure⟩ := s.looped_kept o
  by_cases loops : o.valve.mode ≠ .auto ∨ o.valve.lastPressure = none
  · rw [(State.loop_of_other loops).2, if_neg (by rw [mode, pressure, not_and_or, not_not]; exact loops)]
  · rw [not_or, not_not] at loops
    rw [if_pos (by rwa [mode, pressure])]
    obtain ⟨auto, valid⟩ := loops
    obtain ⟨p, valid⟩ := Option.ne_none_iff_exists'.mp valid
    obtain ⟨valve, sends⟩ := State.loop_of_auto (s := s) (n := n) auto valid
    rw [valve, sends]
    rfl

end

/-- The commands of a node's samples, oven by oven, told by the valves they leave. -/
theorem State.afterSamples_links {s : State} {m : Fin 12} {es : List OvenEntry} (shape : ShapeLaw s) (whole : es.length = 8)
    (room : s.FieldRoom 16) : (s.afterSamples m es).sl = s.sl ∧
      Issued s (s.afterSamples m es) ((s.served m).flatMap fun n =>
        (if (s.oven n).valve.lastPressure.isSome = ((s.afterSamples m es).oven n).valve.lastPressure.isSome ∧
            Instr.ovenNodeReturn m ∉ s.due then []
          else (turnTo n ((s.afterSamples m es).valveModeBy (s.hearsOven n) n) (s.oven n).valve).2) ++
        (if ((s.afterSamples m es).oven n).valve.mode = .auto ∧ ((s.afterSamples m es).oven n).valve.lastPressure ≠ none then
          [⟨servingNode n, .valve n ((s.afterSamples m es).oven n).valve.command⟩] else [])) := by
  obtain ⟨issued, sl⟩ := State.actServed_links (c := .ovenSample m es) (m := m) shape sampleAct_local
    (State.sampleAct_length _) room
  have entries (n : Nat) : es[(n - 1) % 8]? = some (es[(n - 1) % 8]'(by omega)) := List.getElem?_eq_getElem (by omega)
  have quiet : ((s.served m).flatMap fun n => ((s.passed (.ovenSample m es)).sampleAct m es n).notices) = [] :=
    List.flatMap_eq_nil_iff.mpr fun n hn =>
      congrArg OvenAct.notices (State.sampleAct_passed (State.mem_served.mp hn).2.1 (entries n))
  rw [quiet] at sl
  refine ⟨sl, ?_⟩
  refine Eq.mp (congrArg (Issued s (s.afterSamples m es)) (List.flatMap_congr fun n hn => ?_)) issued
  obtain ⟨low, node, within⟩ := State.mem_served.mp hn
  have oven := State.afterSamples_oven shape low node within (entries n)
  have turn := State.afterSamples_sampled shape low node within (entries n)
  obtain ⟨-, -, pressure⟩ := s.looped_kept ((s.oven n).setValve (s.sampled n (es[(n - 1) % 8]'(by omega))).1)
  obtain ⟨-, pressure'⟩ := s.sampled_inputs n (es[(n - 1) % 8]'(by omega))
  rw [State.sampleAct_passed node (entries n)]
  simp only [oven, Oven.setValve_valve, State.loopCommands_eq, pressure, pressure']
  congr 1
  rw [turn]
  split_ifs
  · rfl
  · exact turnTo_commands_record _ _ _ _

/-! ### A main report (R131) -/

/-- The main record with a report's readings. -/
def MainRecord.reported (r : MainRecord) (x : MainReport) : MainRecord :=
  { r with feedback := feedbackOf x.feedback, pressure := pressureOf x.pressure }

/-- The mode a main report leaves: a main node whose return PR has not taken counts as silent (R133; log 10). -/
def State.reportMode (s : State) (x : MainReport) : ValveMode :=
  (s.withMain (s.pr.main.reported x)).mainModeBy s.hearsMain

section
variable {s : State} {x : MainReport}

theorem pressureOf_eq_none (h : Half) : pressureOf h = none ↔ h = 0x8000 := by
  have invalid : Config.invalidPressure = 0x8000 := rfl
  simp [pressureOf, invalid]

theorem pressureOf_of_valid {h : Half} (valid : h ≠ 0x8000) : pressureOf h = some (max (-1000) (min 1000 h.toInt)) := if_neg valid

theorem State.reportMode_eq (s : State) (x : MainReport) : s.reportMode x = if s.pr.main.manualFlag then .manual
    else if s.bk.mode = .config ∨ s.hearsMain = false ∨ x.pressure = 0x8000 then .hold else .auto := by
  have table := (s.withMain (s.pr.main.reported x)).mainModeBy_eq s.hearsMain
  have pressure : (s.withMain (s.pr.main.reported x)).pr.main.pressure = pressureOf x.pressure := rfl
  simp only [pressure, pressureOf_eq_none] at table
  exact table

/-- The report loops on a heard main in RUN, without the manual flag and with m valid. -/
theorem State.reportMode_auto : s.reportMode x = .auto ↔
    s.bk.mode = .run ∧ s.hearsMain = true ∧ s.pr.main.manualFlag = false ∧ x.pressure ≠ 0x8000 := by
  rw [State.reportMode_eq]
  cases s.pr.main.manualFlag <;> cases s.bk.mode <;> cases s.hearsMain <;> simp

/-- A main in the mode its evaluation gives, or awaiting its return, is left by the evaluation of a report in the mode that gives,
without a command. -/
theorem mainReport_eq (standing : s.pr.main.mode = s.mainModeBy s.hearsMain ∨
      (Instr.mainNodeReturn ∈ s.due ∧ (s.pr.main.manualFlag = true → s.pr.main.mode = .manual))) :
    mainReport x s = (s.withMain { s.pr.main.reported x with mode := s.reportMode x }).runMainLoop := by
  refine congrArg State.runMainLoop ?_
  show (if s.pr.main.pressure.isSome == (pressureOf x.pressure).isSome && !s.due.contains .mainNodeReturn then
    s.withMain (s.pr.main.reported x) else (s.withMain (s.pr.main.reported x)).turnMain (s.reportMode x)) = _
  split_ifs with kept
  · simp only [Bool.and_eq_true, beq_iff_eq, Bool.not_eq_true', List.contains_eq_mem, decide_eq_false_iff_not] at kept
    obtain ⟨valid, taken⟩ := kept
    have mode : s.pr.main.mode = s.mainModeBy s.hearsMain := standing.resolve_right fun h => taken h.1
    have invalid : s.pr.main.pressure = none ↔ x.pressure = 0x8000 := by
      rw [← pressureOf_eq_none, ← Option.not_isSome_iff_eq_none, valid, Option.not_isSome_iff_eq_none]
    have same : s.reportMode x = s.pr.main.mode := by
      rw [mode, State.reportMode_eq, State.mainModeBy_eq]
      simp only [invalid]
    rw [same]
    rfl
  · refine State.turnMain_of_manual (s := s.withMain (s.pr.main.reported x)) fun manual => ?_
    have flag : s.pr.main.manualFlag = true := State.manualFlag_of_mainModeBy (s := s.withMain (s.pr.main.reported x)) manual
    refine standing.elim (fun mode => ?_) fun h => h.2 flag
    exact mode.trans (by rw [State.mainModeBy_eq, if_pos flag])

theorem State.runMainLoop_of_auto {p : Int} (auto : s.pr.main.mode = .auto) (valid : s.pr.main.pressure = some p) :
    ∃ d : Int, d = limitStep s.pr.main.stepLimit (rawStep p s.pr.main.setpoint s.pr.main.gain s.pr.main.shift) ∧
      s.runMainLoop = (s.withMain { s.pr.main with command := stepCommand s.pr.main.command d, lastStep := d }).issueAll
        [⟨.main, .mainValve (stepCommand s.pr.main.command d)⟩] := by
  refine ⟨_, rfl, ?_⟩
  simp only [State.runMainLoop, auto, valid]
  rfl

theorem State.runMainLoop_of_other (h : s.pr.main.mode ≠ .auto) : s.runMainLoop = s := by
  unfold State.runMainLoop
  dsimp only
  split
  · next auto _ => exact absurd auto h
  · rfl

end

/-! ### The statement -/

section
variable {s : State} {x : MainReport} (standing : s.pr.main.mode = s.mainModeBy s.hearsMain ∨
  (Instr.mainNodeReturn ∈ s.due ∧ (s.pr.main.manualFlag = true → s.pr.main.mode = .manual)))

/-- The main record in AUTO after the loop's step d (R131). -/
def MainRecord.stepped (r : MainRecord) (d : Int) : MainRecord :=
  { r with mode := .auto, command := stepCommand r.command d, lastStep := d }

/-- The event is no longer brought about, and a main report's own event is no return. -/
theorem reportMode_passed : (s.passed (.mainReport x)).reportMode x = s.reportMode x := by
  have hears : (s.passed (.mainReport x)).hearsMain = s.hearsMain := s.hears_passed _ nofun
  rw [State.reportMode, hears]
  rfl

include standing

theorem standing_passed : (s.passed (.mainReport x)).pr.main.mode =
      (s.passed (.mainReport x)).mainModeBy (s.passed (.mainReport x)).hearsMain ∨
    (Instr.mainNodeReturn ∈ (s.passed (.mainReport x)).due ∧
      ((s.passed (.mainReport x)).pr.main.manualFlag = true → (s.passed (.mainReport x)).pr.main.mode = .manual)) := by
  have hears : (s.passed (.mainReport x)).hearsMain = s.hearsMain := s.hears_passed _ nofun
  have mem : Instr.mainNodeReturn ∈ (s.passed (.mainReport x)).due ↔ Instr.mainNodeReturn ∈ s.due :=
    List.mem_erase_of_ne nofun
  rw [hears, mem]
  exact standing

/-- Recorded without a loop. -/
theorem mainReport_of_other (other : s.reportMode x ≠ .auto) : mainReport x (s.passed (.mainReport x)) =
    (s.passed (.mainReport x)).withMain { s.pr.main.reported x with mode := s.reportMode x } := by
  rw [mainReport_eq (standing_passed standing), reportMode_passed]
  exact State.runMainLoop_of_other other

/-- Recorded in AUTO, and the loop's step sent (R131). -/
theorem mainReport_of_auto {p : Int} (auto : s.reportMode x = .auto) (valid : pressureOf x.pressure = some p) :
    ∃ d : Int, d = limitStep s.pr.main.stepLimit (rawStep p s.pr.main.setpoint s.pr.main.gain s.pr.main.shift) ∧
      mainReport x (s.passed (.mainReport x)) = ((s.passed (.mainReport x)).withMain ((s.pr.main.reported x).stepped d)).issueAll
        [⟨.main, .mainValve (stepCommand s.pr.main.command d)⟩] := by
  rw [mainReport_eq (standing_passed standing), reportMode_passed, auto]
  exact State.runMainLoop_of_auto
    (s := (s.passed (.mainReport x)).withMain { s.pr.main.reported x with mode := .auto }) rfl valid

end

/-- An event that writes PR and issues commands that find room. -/
theorem State.frameOf_withMain_issueAll {s : State} {c : Instr} {r : MainRecord} {cs : List Outgoing}
    (room : s.FieldRoom cs.length) :
    FrameOf c [.pr, .fl] s (((s.passed c).withMain r).issueAll cs) ∧ Issued s (((s.passed c).withMain r).issueAll cs) cs := by
  obtain ⟨issued, sl⟩ := State.issueAll_of_room ((s.passed c).withMain r) cs room
  refine ⟨⟨fun b hb => ?_, rfl⟩, issued⟩
  cases b with
  | pr | fl | due => simp at hb
  | sl => exact sl
  | _ => rfl

/-- Settles O46: a node's samples oven by oven, and a main report by the mode it leaves. -/
theorem samplesRunTheLoops : Obligations.SamplesRunTheLoops := by
  refine ⟨fun s m es shape law run whole => ⟨_, exec_ovenSample shape run whole, State.frameOf_actServed s _ _ _,
      State.afterSamples_valvesOnly shape whole, (State.sameContext_actAll _ _ _).2,
      fun n _ low other => State.actServed_oven_other shape low other,
      fun n _ low node within e entry v hv r hr => ?oven, fun room => State.afterSamples_links shape whole room⟩,
    fun s x run room standing => ?main⟩
  case oven =>
    obtain rfl : v = (s.oven n).valve.record e := hv
    rw [← State.afterSamples_sampled shape low node within entry] at hr
    subst hr
    have written := congrArg Oven.valve (State.afterSamples_oven shape low node within entry)
    refine ⟨fun other => ?still, fun p valid auto q hq raw hraw k hk => ?loop⟩
    case still => exact written.trans (State.loop_of_other (n := n) other).1
    case loop =>
      have looped : k = s.loopValve ((s.oven n).setValve (s.sampled n e).1) p :=
        hk.trans (written.trans (State.loop_of_auto (n := n) auto valid).1)
      have computed : raw = rawStep p (s.setpoint (s.oven n)).1 s.pr.gain s.pr.shift := by rw [hraw, hq, rawStep_eq]
      have inRange : (s.sampled n e).1.command ≤ 1023 := by
        have lawful : ((s.oven n).valve.record e).Lawful := law.oven n
        unfold State.sampled
        split_ifs
        · exact lawful.2.2.1
        · exact (turnTo_lawful n _ lawful).2.2.1
      have moved : k.command = stepCommand (s.sampled n e).1.command (limitStep s.pr.stepLimit raw) := by
        rw [looped, computed]
        rfl
      have step : k.lastStep = limitStep s.pr.stepLimit raw := by
        rw [looped, computed]
        rfl
      obtain ⟨up, down⟩ := stepCommand_near (limit := s.pr.stepLimit) (raw := raw) inRange
      refine ⟨?_, by rw [moved, step, stepCommand_eq], by rwa [moved], by rwa [moved]⟩
      rw [looped, computed]
      rfl
  case main =>
    have taken : exec (.mainReport x) s = .next (mainReport x (s.passed (.mainReport x))) := State.event_of_run s _ _ run
    by_cases auto : s.reportMode x = .auto
    · obtain ⟨inRun, heard, noFlag, valid⟩ := State.reportMode_auto.mp auto
      obtain ⟨d, hd, reported⟩ := mainReport_of_auto standing auto (pressureOf_of_valid valid)
      obtain ⟨frame, issued⟩ := State.frameOf_withMain_issueAll (c := .mainReport x) (s := s)
        (r := (s.pr.main.reported x).stepped d) (cs := [⟨.main, .mainValve (stepCommand s.pr.main.command d)⟩]) room
      rw [reported] at taken
      refine ⟨_, taken, frame, rfl, rfl, rfl, auto.symm.trans (s.reportMode_eq x), fun h => ?_, fun _ _ _ _ q hq raw hraw => ?_⟩
      · rw [inRun, heard, noFlag] at h
        exact h.elim nofun fun h => h.elim nofun fun h => h.elim nofun fun h => absurd h valid
      · have step : d = limitStep s.pr.main.stepLimit raw := by rw [hd, rawStep_eq, ← hq, ← hraw]
        exact ⟨rfl, step, stepCommand_eq _ _, issued⟩
    · rw [mainReport_of_other standing auto] at taken
      refine ⟨_, taken, ⟨(s.frameOf_withPr _ _).1.mono (by simp), rfl⟩, rfl, rfl, rfl, s.reportMode_eq x,
        fun _ => ⟨rfl, rfl, rfl⟩, fun inRun heard noFlag valid => ?_⟩
      exact absurd (State.reportMode_auto.mpr ⟨inRun, heard, noFlag, valid⟩) auto

end Sys2Proof.Machine

/-!
SUPPORT. The requests that set a valve or the main by hand (R115, R116, R132): what each evaluates and sends, and the statement.
-/

namespace Sys2Proof.Machine

/-! ### A request that acts on one oven -/

section
variable {s : State} {c : Instr} {f : Frame} {owner : State → Answer} {fields : List Byte} {n : Nat}

/-- A request that is answered and changes nothing. -/
theorem afterRequest_same (taken : owner (s.taking c f) = (s.taking c f).reply fields) :
    FrameOf c [.sl] s (s.afterRequest c f owner) ∧ Answered s (s.afterRequest c f owner) f .ok fields :=
  ⟨frameOf_serve c f owner s (by rw [taken]; exact Keeps.refl _ _) (by simp) (by simp), answered_of_sl taken rfl⟩

/-- A request that writes one oven's record. -/
theorem afterRequest_setOven {o : Oven} (taken : owner (s.taking c f) = ((s.taking c f).setOven n o).reply fields) :
    FrameOf c [.ovens, .sl] s (s.afterRequest c f owner) ∧ (s.afterRequest c f owner).ovens = s.ovens.set (n - 1) o ∧
      Answered s (s.afterRequest c f owner) f .ok fields := by
  refine ⟨frameOf_serve c f owner s ?_ (by simp) (by simp), ?_, answered_of_sl taken rfl⟩
  · rw [taken]
    exact ((s.taking c f).keeps_setOven n o).mono (by simp)
  · have kept := s.keeps_afterRequest c f owner .ovens (by simp)
    rw [taken] at kept
    exact kept

/-- A request that writes one oven's record and issues commands that find room. -/
theorem afterRequest_act {o : Oven} {cs : List Outgoing} (room : s.FieldRoom cs.length)
    (taken : owner (s.taking c f) = ((s.taking c f).act n ⟨o, cs, []⟩).reply fields) :
    FrameOf c [.ovens, .fl, .sl] s (s.afterRequest c f owner) ∧
      (s.afterRequest c f owner).ovens = s.ovens.set (n - 1) o ∧ Issued s (s.afterRequest c f owner) cs ∧
      Answered s (s.afterRequest c f owner) f .ok fields := by
  obtain ⟨issued, sl⟩ := State.act_links (s := s.taking c f) (n := n) (a := ⟨o, cs, []⟩) room
  have kept := s.keeps_afterRequest c f owner
  rw [taken] at kept
  refine ⟨frameOf_serve c f owner s ?_ (by simp) (by simp), kept .ovens (by simp), ?_, answered_of_sl taken sl⟩
  · rw [taken]
    exact (State.sameContext_act _ n _).1
  · have fl : (s.afterRequest c f owner).fl = ((s.taking c f).act n ⟨o, cs, []⟩).fl := kept .fl (by simp)
    rw [Issued, fl]
    exact issued

end

/-! ### SET_VALVE_MANUAL (R115) -/

/-- A valve sent its manual position, entering MANUAL or in it already: the valve and the commands (R113, R115; log 9). -/
def manualTurn (n : Nat) (v : Valve) : Valve × List Outgoing :=
  ({ v with mode := .manual, command := v.manualPosition, aspiration := v.mode == .manual && v.aspiration },
    ⟨servingNode n, .valve n v.manualPosition⟩ ::
      (if v.mode ≠ .manual ∧ v.aspiration = true then [⟨servingNode n, .aspiration n false⟩] else []))

section
variable {s : State} {n : Nat}

theorem State.evalManual_of_manual (h : s.valveMode n = .manual) :
    s.evalManual n = s.applyValve n (manualTurn n (s.oven n).valve) := by
  unfold State.evalManual State.evalValve
  rw [h]
  generalize (s.oven n).valve = v
  by_cases inForce : v.mode = .manual
  · have position : manualTurn n v = sendManual n v := by
      obtain ⟨mode, _⟩ := v
      obtain rfl : mode = .manual := inForce
      simp [manualTurn, sendManual, toOven]
    simp only [inForce, and_self, if_true, position]
  · have entry : manualTurn n v = turnTo n .manual v := by
      rw [turnTo_of_ne n inForce]
      simp [manualTurn, enterMode, endAspiration, toOven, inForce]
    simp only [inForce, false_and, if_false, entry]

theorem State.evalManual_of_inForce (h : s.valveMode n = (s.oven n).valve.mode) (other : (s.oven n).valve.mode ≠ .manual) :
    s.evalManual n = s := by
  unfold State.evalManual
  rw [if_neg fun manual => other manual.1, State.evalValve, h, turnTo_same]
  exact s.setOven_oven_self n

/-- The valve with the manual flag and the position of SET_VALVE_MANUAL. -/
def Valve.byHand (v : Valve) (p : Half) : Valve := { v with manualFlag := true, manualPosition := min 1023 p.toNat }

theorem clampNat_zero (hi x : Nat) : clampNat 0 hi x = min hi x := Nat.zero_max _

variable {b : Byte} {p : Half}

theorem setValveManual_outside (out : ¬(1 ≤ b.toNat ∧ b.toNat ≤ s.ovenCount)) : setValveManual b p s = s.refuse .badOven := by
  simp [setValveManual, State.inRange, out]

theorem setValveManual_eq (low : 1 ≤ b.toNat) (within : b.toNat ≤ s.ovenCount) {t : State}
    (ht : t = (s.setOven b.toNat ((s.oven b.toNat).setValve ((s.oven b.toNat).valve.byHand p))).evalManual b.toNat) :
    setValveManual b p s = t.reply (b :: (half (min 1023 p.toNat) ++ [byteOf (t.oven b.toNat).valve.mode.code])) := by
  subst ht
  simp only [setValveManual, State.inRange, low, within, and_self, decide_true, Bool.not_true, Bool.false_eq_true, if_false,
    clampNat_zero]
  rfl

/-- With the manual flag, an oven is CLOSED by a push or a stall, or it is in MANUAL (R111). -/
theorem State.valveMode_of_flag (flag : (s.oven n).valve.manualFlag = true) : s.valveMode n =
    if (s.oven n).phase = .stalled ∨ ((s.oven n).phase = .pushing ∧ s.pastSpot n = true) then .closed else .manual := by
  simp [State.valveMode, State.valveModeBy, flag]

theorem setValveManual_of_open (place : b.toNat - 1 < s.ovens.length) (low : 1 ≤ b.toNat) (within : b.toNat ≤ s.ovenCount)
    (standing : (s.oven b.toNat).phase ≠ .stalled) (unpushed : (s.oven b.toNat).phase = .pushing → s.pastSpot b.toNat = false) :
    setValveManual b p s = (s.act b.toNat
      ⟨(s.oven b.toNat).setValve (manualTurn b.toNat ((s.oven b.toNat).valve.byHand p)).1,
        (manualTurn b.toNat ((s.oven b.toNat).valve.byHand p)).2, []⟩).reply (b :: (half (min 1023 p.toNat) ++ [4])) := by
  have record : (s.setOven b.toNat ((s.oven b.toNat).setValve ((s.oven b.toNat).valve.byHand p))).oven b.toNat = _ :=
    s.oven_setOven_self _ _ place
  have mode : (s.setOven b.toNat ((s.oven b.toNat).setValve ((s.oven b.toNat).valve.byHand p))).valveMode b.toNat = .manual := by
    rw [State.valveMode_of_flag (by rw [record]; rfl), record, if_neg]
    rintro (stalled | ⟨pushing, past⟩)
    · exact standing stalled
    · exact Bool.false_ne_true ((unpushed pushing).symm.trans past)
  have acted := State.evalManual_of_manual mode
  rw [record] at acted
  rw [setValveManual_eq low within (acted.trans (State.act_oven_valve place [] _)).symm, State.act_oven_self place]
  rfl

theorem setValveManual_of_closed (place : b.toNat - 1 < s.ovens.length) (low : 1 ≤ b.toNat) (within : b.toNat ≤ s.ovenCount)
    (shut : (s.oven b.toNat).phase = .stalled ∨ ((s.oven b.toNat).phase = .pushing ∧ s.pastSpot b.toNat = true))
    (closed : (s.oven b.toNat).valve.mode = .closed) : setValveManual b p s =
      (s.setOven b.toNat ((s.oven b.toNat).setValve ((s.oven b.toNat).valve.byHand p))).reply
        (b :: (half (min 1023 p.toNat) ++ [2])) := by
  have record : (s.setOven b.toNat ((s.oven b.toNat).setValve ((s.oven b.toNat).valve.byHand p))).oven b.toNat = _ :=
    s.oven_setOven_self _ _ place
  have written : ((s.setOven b.toNat ((s.oven b.toNat).setValve ((s.oven b.toNat).valve.byHand p))).oven b.toNat).valve.mode =
      .closed := by
    rw [record]
    exact closed
  have mode : (s.setOven b.toNat ((s.oven b.toNat).setValve ((s.oven b.toNat).valve.byHand p))).valveMode b.toNat = .closed := by
    rw [State.valveMode_of_flag (by rw [record]; rfl), record]
    exact if_pos shut
  have kept := State.evalManual_of_inForce (mode.trans written.symm) (by rw [written]; nofun)
  rw [setValveManual_eq low within kept.symm, written]
  rfl

/-! ### RELEASE_VALVE (R116) -/

theorem releaseValve_outside (out : ¬(1 ≤ b.toNat ∧ b.toNat ≤ s.ovenCount)) : releaseValve b s = s.refuse .badOven := by
  simp [releaseValve, State.inRange, out]

theorem releaseValve_of_clear (low : 1 ≤ b.toNat) (within : b.toNat ≤ s.ovenCount)
    (clear : (s.oven b.toNat).valve.manualFlag = false) :
    releaseValve b s = s.reply [b, byteOf (s.oven b.toNat).valve.mode.code] := by
  simp [releaseValve, State.inRange, low, within, clear]

/-- The valve with the manual flag cleared. -/
def Valve.released (v : Valve) : Valve := { v with manualFlag := false }

/-- The mode a release gives. -/
def State.releasedMode (s : State) (n : Nat) : ValveMode :=
  (s.setOven n ((s.oven n).setValve (s.oven n).valve.released)).valveMode n

theorem releaseValve_of_set (place : b.toNat - 1 < s.ovens.length) (low : 1 ≤ b.toNat) (within : b.toNat ≤ s.ovenCount)
    (flag : (s.oven b.toNat).valve.manualFlag = true) : releaseValve b s = (s.act b.toNat
      ⟨(s.oven b.toNat).setValve (turnTo b.toNat (s.releasedMode b.toNat) (s.oven b.toNat).valve.released).1,
        (turnTo b.toNat (s.releasedMode b.toNat) (s.oven b.toNat).valve.released).2, []⟩).reply
      [b, byteOf (s.releasedMode b.toNat).code] := by
  have evaluated := State.evalValve_act (s := s) place ((s.oven b.toNat).setValve (s.oven b.toNat).valve.released) []
  have record := State.act_oven_self (s := s) (a := ⟨(s.oven b.toNat).setValve
    (turnTo b.toNat (s.releasedMode b.toNat) (s.oven b.toNat).valve.released).1,
    (turnTo b.toNat (s.releasedMode b.toNat) (s.oven b.toNat).valve.released).2, []⟩) place
  have mode := turnTo_mode b.toNat (s.releasedMode b.toNat) (s.oven b.toNat).valve.released
  simp only [releaseValve, State.inRange, low, within, and_self, decide_true, Bool.not_true, Bool.false_eq_true, if_false, flag]
  refine Eq.trans (congrArg (fun t : State => t.reply [b, byteOf (t.oven b.toNat).valve.mode.code]) evaluated) ?_
  refine congrArg (State.reply _) ?_
  refine congrArg (fun o : Oven => [b, byteOf o.valve.mode.code]) record |>.trans ?_
  rw [Oven.setValve_valve, mode]

/-- The oven a release has written stands in the mode its evaluation gives. -/
theorem State.released_oven {t : State} {c : Instr} {m : ValveMode} (place : n - 1 < s.ovens.length)
    (frame : FrameOf c [.ovens, .fl, .sl] s t) (nodes : t.fl.nodes = s.fl.nodes) (hm : m = s.releasedMode n)
    (ovens : t.ovens = s.ovens.set (n - 1) ((s.oven n).setValve (turnTo n m (s.oven n).valve.released).1)) :
    t.oven n = (s.oven n).setValve (turnTo n m (s.oven n).valve.released).1 ∧ m = t.valveMode n := by
  have record : t.oven n = _ := (congrArg (fun os : List Oven => os.getD (n - 1) Oven.reset) ovens).trans
    (s.oven_setOven_self n _ place)
  refine ⟨record, hm.trans (Eq.symm ?_)⟩
  refine State.valveMode_congr (congrArg BatteryClock.mode (frame.1 .bk (by simp))) (frame.1 .pu (by simp)) nodes ?_
  rw [record, State.oven_setOven_self _ _ _ place]
  exact Oven.modeInputs_turnTo ((s.oven n).setValve (s.oven n).valve.released) n m

theorem turnTo_position (n : Nat) (m : ValveMode) (v : Valve) : (turnTo n m v).1.manualPosition = v.manualPosition := by
  unfold turnTo
  split
  · rfl
  · cases m <;> rfl

theorem turnTo_auto_command (n : Nat) (v : Valve) : (turnTo n .auto v).1.command = v.command := by
  unfold turnTo
  split <;> rfl

end

/-! ### SET_MAIN (R132) -/

/-- The main record as SET_MAIN leaves it: its values, and the mode and the command they give. -/
def MainRecord.byHand (r : MainRecord) (sp pos : Half) (g k l a : Byte) (unmanned : ValveMode) : MainRecord :=
  { r with
    setpoint := max (-200) (min 200 sp.toInt), gain := min 16 (g.toNat + 1), shift := min 15 k.toNat
    stepLimit := max 1 (min 64 l.toNat), manualFlag := a == 1, manualPosition := min 1023 pos.toNat
    mode := if a = 1 then .manual else unmanned, command := if a = 1 then min 1023 pos.toNat else r.command }

/-- The main mode without the manual flag (R130). -/
def State.unmannedMode (s : State) : ValveMode :=
  if s.bk.mode = .config ∨ s.live .main = false ∨ s.pr.main.pressure = none then .hold else .auto

section
variable {s : State} {g k l a : Byte} {sp pos : Half}

theorem setMain_of_gt (big : 1 < a.toNat) : setMain sp g k l a pos s = s.refuse .badValue := by
  simp [setMain, boolOfCode_of_gt big]

/-- The values as R132 clamps them. -/
theorem MainRecord.written_eq (r : MainRecord) (manual : Bool) : r.written sp g k l manual pos = { r with
    setpoint := max (-200) (min 200 sp.toInt), gain := min 16 (g.toNat + 1), shift := min 15 k.toNat
    stepLimit := max 1 (min 64 l.toNat), manualFlag := manual, manualPosition := min 1023 pos.toNat } := by
  have gain : clampNat 1 16 (g.toNat + 1) = min 16 (g.toNat + 1) := max_eq_right (by omega)
  simp only [MainRecord.written, clampNat_zero, gain]
  rfl

/-- The state SET_MAIN leaves. -/
def State.mainByHand (s : State) (sp pos : Half) (g k l a : Byte) : State :=
  (s.withMain (s.pr.main.byHand sp pos g k l a s.unmannedMode)).issueAll
    (if a = 1 then [⟨.main, .mainValve (min 1023 pos.toNat)⟩] else [])

theorem State.evalMainManual_of_flag (flag : s.pr.main.manualFlag = true) : s.evalMainManual = s.sendMainManual :=
  if_pos (by rw [State.mainMode, State.mainModeBy_eq, if_pos flag])

theorem State.evalMainManual_of_clear (clear : s.pr.main.manualFlag = false) :
    s.evalMainManual = s.withMain { s.pr.main with mode := s.unmannedMode } := by
  have mode : s.mainMode = s.unmannedMode := by
    rw [State.mainMode, State.mainModeBy_eq, clear, if_neg Bool.false_ne_true, State.unmannedMode]
  have unmanned : s.unmannedMode ≠ .manual := by
    unfold State.unmannedMode
    split_ifs <;> nofun
  rw [State.evalMainManual, mode, if_neg unmanned]

theorem evalMainManual_written : (s.withMain (s.pr.main.written sp g k l (a == 1) pos)).evalMainManual =
    s.mainByHand sp pos g k l a := by
  rw [MainRecord.written_eq, State.mainByHand]
  by_cases manual : a = 1
  · subst manual
    exact State.evalMainManual_of_flag rfl
  · refine (State.evalMainManual_of_clear (beq_eq_false_iff_ne.mpr manual)).trans ?_
    rw [if_neg manual, State.issueAll_nil, MainRecord.byHand, if_neg manual, if_neg manual]
    rfl

theorem setMain_of_le (small : a.toNat ≤ 1) : setMain sp g k l a pos s = (s.mainByHand sp pos g k l a).reply
    ((s.mainByHand sp pos g k l a).pr.main.fields a) := by
  simp only [setMain, boolOfCode_of_le small, evalMainManual_written]

end

/-- A request that sets the main by hand, its command finding room. -/
theorem afterRequest_mainByHand {s : State} {c : Instr} {f : Frame} {owner : State → Answer} {fields : List Byte}
    {g k l a : Byte} {sp pos : Half} (room : s.FieldRoom 1)
    (taken : owner (s.taking c f) = ((s.taking c f).mainByHand sp pos g k l a).reply fields) :
    FrameOf c [.pr, .fl, .sl] s (s.afterRequest c f owner) ∧
      (s.afterRequest c f owner).pr = { s.pr with main := s.pr.main.byHand sp pos g k l a s.unmannedMode } ∧
      Issued s (s.afterRequest c f owner) (if a = 1 then [⟨.main, .mainValve (min 1023 pos.toNat)⟩] else []) ∧
      Answered s (s.afterRequest c f owner) f .ok fields := by
  obtain ⟨issued, sl⟩ := State.issueAll_of_room
    ((s.taking c f).withMain ((s.taking c f).pr.main.byHand sp pos g k l a (s.taking c f).unmannedMode))
    (if a = 1 then [⟨.main, .mainValve (min 1023 pos.toNat)⟩] else []) (room.of_le (by split_ifs <;> simp))
  have kept := s.keeps_afterRequest c f owner
  rw [taken] at kept
  refine ⟨frameOf_serve c f owner s ?_ (by simp) (by simp), kept .pr (by simp), ?_, answered_of_sl taken sl⟩
  · rw [taken]
    intro b hb
    cases b with
    | pr | fl | sl => simp at hb
    | _ => rfl
  · have fl : (s.afterRequest c f owner).fl = ((s.taking c f).mainByHand sp pos g k l a).fl := kept .fl (by simp)
    rw [Issued, fl]
    exact issued

/-! ### The statement -/

/-- Settles O45: the valve by the mode its evaluation gives with the flag set and cleared, the main by its record written. -/
theorem manualValvesAndMainAreSet : Obligations.ManualValvesAndMainAreSet := by
  refine ⟨fun s tag n p shape free ht => ?valve, fun s tag g k l a sp pos free ht => ⟨fun big => ?refused, fun small room => ?main⟩⟩
  case valve =>
    have set : exec (.setValveManual tag n p) s = .next
        (s.afterRequest (.setValveManual tag n p) ⟨0x53, tag, n :: halfBytes p⟩ (setValveManual n p)) :=
      exec_of_free rfl rfl rfl free ht
    have release : exec (.releaseValve tag n) s = .next
        (s.afterRequest (.releaseValve tag n) ⟨0x54, tag, [n]⟩ (releaseValve n)) := exec_of_free rfl rfl rfl free ht
    refine ⟨fun out => ⟨⟨_, set, serve_of_refuse _ _ _ s _ (setValveManual_outside (s := s.taking _ _) out)⟩,
        ⟨_, release, serve_of_refuse _ _ _ s _ (releaseValve_outside (s := s.taking _ _) out)⟩⟩, fun low within => ?_⟩
    have place : n.toNat - 1 < s.ovens.length := by
      have high := shape.high
      omega
    refine ⟨fun standing unpushed room => ⟨_, set, ?opened⟩, fun shut closed => ⟨_, set, ?closed⟩,
      fun flag room => ⟨_, release, ?released⟩, fun clear => ⟨_, release, ?clear⟩⟩
    case opened =>
      exact afterRequest_act (room.of_le (by split_ifs <;> simp))
        (setValveManual_of_open (s := s.taking _ _) place low within standing unpushed)
    case closed => exact afterRequest_setOven (setValveManual_of_closed (s := s.taking _ _) place low within shut closed)
    case clear => exact afterRequest_same (releaseValve_of_clear (s := s.taking _ _) low within clear)
    case released =>
      have taken := releaseValve_of_set (s := s.taking (.releaseValve tag n) ⟨0x54, tag, [n]⟩) place low within flag
      obtain ⟨frame, ovens, issued, answered⟩ := afterRequest_act (room.of_le (turnTo_length _ _ _)) taken
      obtain ⟨record, mode⟩ := State.released_oven place frame issued.2.1 rfl ovens
      have same : (s.taking (.releaseValve tag n) ⟨0x54, tag, [n]⟩).releasedMode n.toNat = s.releasedMode n.toNat := rfl
      rw [same, mode] at issued answered
      rw [mode] at record
      refine ⟨frame, fun m _ low' other => ?_, record, ?_, ?_, fun auto => ?_, issued, ?_⟩
      · exact (congrArg (fun os : List Oven => os.getD (m - 1) Oven.reset) ovens).trans (s.oven_setOven_ne _ _ _ (by omega))
      · rw [record]
        exact turnTo_mode _ _ _
      · rw [record]
        exact turnTo_position _ _ _
      · rw [record] at auto ⊢
        rw [Oven.setValve_valve, turnTo_mode] at auto
        rw [auto]
        exact turnTo_auto_command _ _
      · rw [record, Oven.setValve_valve, turnTo_mode]
        exact answered
  case refused =>
    exact ⟨_, exec_of_free (owner := setMain sp g k l a pos) rfl rfl rfl free ht,
      serve_of_refuse _ _ _ s _ (setMain_of_gt (s := s.taking _ _) big)⟩
  case main =>
    obtain ⟨frame, pr, issued, answered⟩ := afterRequest_mainByHand room
      (setMain_of_le (s := s.taking (.setMain tag sp g k l a pos) ⟨0x55, tag, halfBytes sp ++ [g, k, l, a] ++ halfBytes pos⟩)
        (sp := sp) (g := g) (k := k) (l := l) (pos := pos) small)
    refine ⟨_, exec_of_free (owner := setMain sp g k l a pos) rfl rfl rfl free ht, frame, pr, issued, ?_⟩
    rw [pr]
    exact answered

end Sys2Proof.Machine

/-!
SUPPORT. Deeds on one oven after another: where each reads its own oven and the parts no other of them writes, the whole is told by
what each does in the state before all of them, whatever order its commands and notices come in.
-/

namespace Sys2Proof.Machine

/-- What an operation on one oven does, as a deed that leaves SU, PU and QU. -/
def State.deed (s : State) (a : OvenAct) : Deed := ⟨a.oven, s.su, s.pu, s.qu, a.commands, a.notices⟩

/-- The operation f does to each oven what act says. -/
def ActsAs (f : State → Nat → State) (act : State → Nat → OvenAct) : Prop :=
  ∀ s n, n - 1 < s.ovens.length → Does n s (f s n) (s.deed (act s n))

theorem Does.raiseAll {n : Nat} {s : State} (bs : List NoticeBody) : ∀ {t : State} {d : Deed}, Does n s t d →
    Does n s (t.raiseAll bs) { d with notices := d.notices ++ bs } := by
  induction bs with
  | nil => intro t d h; rwa [List.append_nil]
  | cons b bs ih =>
    intro t d h
    have rest := ih (h.raise b)
    rw [Deed.raise, List.append_assoc, List.singleton_append] at rest
    exact rest

theorem Does.sameContext {n : Nat} {s t : State} {a : OvenAct} (h : Does n s t (s.deed a)) : SameContext s t := by
  refine ⟨fun b hb => ?_, h.nodes⟩
  by_cases unit : b ∈ [Block.su, .pu, .qu]
  · simp only [List.mem_cons, List.not_mem_nil, or_false] at unit
    rcases unit with rfl | rfl | rfl
    · exact h.su
    · exact h.pu
    · exact h.qu
  · exact h.keeps b fun mem => by cases b <;> simp at hb unit mem

theorem Does.oven_ne {n m : Nat} {s t : State} {d : Deed} (h : Does n s t d) (ne : m - 1 ≠ n - 1) : t.oven m = s.oven m := by
  simp [State.oven, h.ovens, List.getD_eq_getElem?_getD, List.getElem?_set_ne ne.symm]

theorem OvensOf.of_length {s t : State} {ns : List Nat} (h : OvensOf s ns) (length : t.ovens.length = s.ovens.length) :
    OvensOf t ns := ⟨h.once, h.low, fun n hn => length ▸ h.high n hn⟩

theorem OvensOf.rest {s : State} {n : Nat} {ns : List Nat} (h : OvensOf s (n :: ns)) : OvensOf s ns :=
  ⟨(List.nodup_cons.mp h.once).2, fun m hm => h.low m (.tail _ hm), fun m hm => h.high m (.tail _ hm)⟩

namespace ActsAs

section
variable {f : State → Nat → State} {act : State → Nat → OvenAct} (acts : ActsAs f act)
include acts

theorem ovensOf_rest {s : State} {n : Nat} {ns : List Nat} (h : OvensOf s (n :: ns)) : OvensOf (f s n) ns :=
  h.rest.of_length (by rw [(acts s n (h.place (.head _))).ovens, List.length_set])

/-- Each of the others finds its own oven as it was before the first. -/
theorem oven_rest {s : State} {n m : Nat} {ns : List Nat} (h : OvensOf s (n :: ns)) (hm : m ≠ n) (low : 1 ≤ m) :
    (f s n).oven m = s.oven m := by
  have := h.low n (.head _)
  exact (acts s n (h.place (.head _))).oven_ne (by omega)

theorem sameContext (ns : List Nat) : ∀ s, OvensOf s ns → SameContext s (ns.foldl f s) := by
  induction ns with
  | nil => exact fun s _ => .refl s
  | cons n ns ih => exact fun s h => (acts s n (h.place (.head _))).sameContext.trans (ih _ (acts.ovensOf_rest h))

theorem oven_of_not_mem {n : Nat} (low : 1 ≤ n) (ns : List Nat) :
    ∀ s, OvensOf s ns → n ∉ ns → (ns.foldl f s).oven n = s.oven n := by
  induction ns with
  | nil => exact fun _ _ _ => rfl
  | cons m ns ih =>
    intro s h hn
    exact (ih _ (acts.ovensOf_rest h) fun mem => hn (.tail _ mem)).trans
      (acts.oven_rest h (fun e => hn (e ▸ .head _)) low)

variable (loc : OvenLocal act)
include loc

theorem act_rest {s : State} {n m : Nat} {ns : List Nat} (h : OvensOf s (n :: ns)) (hm : m ∈ ns) : act (f s n) m = act s m :=
  loc s _ m (h.place (.tail _ hm)) ((acts.ovensOf_rest h).place hm) (acts s n (h.place (.head _))).sameContext
    (acts.oven_rest h (fun e => (List.nodup_cons.mp h.once).1 (e ▸ hm)) (h.low m (.tail _ hm)))

theorem oven {n : Nat} (ns : List Nat) : ∀ s, OvensOf s ns → n ∈ ns → (ns.foldl f s).oven n = (act s n).oven := by
  induction ns with
  | nil => exact fun _ _ hn => nomatch hn
  | cons m ns ih =>
    intro s h hn
    rcases List.mem_cons.mp hn with rfl | hn
    · have place := h.place (.head _)
      exact (acts.oven_of_not_mem (h.low n (.head _)) ns _ (acts.ovensOf_rest h) (List.nodup_cons.mp h.once).1).trans
        ((acts s n place).oven_self place)
    · exact (ih _ (acts.ovensOf_rest h) hn).trans (congrArg OvenAct.oven (acts.act_rest loc h hn))

/-- With room for all the commands, they and the notices come in the order of the ovens. -/
theorem links (ns : List Nat) : ∀ s, OvensOf s ns → s.FieldRoom (ns.flatMap fun n => (act s n).commands).length →
    Issued s (ns.foldl f s) (ns.flatMap fun n => (act s n).commands) ∧
      (ns.foldl f s).sl = (s.raiseAll (ns.flatMap fun n => (act s n).notices)).sl := by
  induction ns with
  | nil => exact fun s _ _ => ⟨⟨by simp, rfl, rfl⟩, rfl⟩
  | cons n ns ih =>
    intro s h room
    have commands : (ns.flatMap fun m => (act (f s n) m).commands) = ns.flatMap fun m => (act s m).commands :=
      List.flatMap_congr fun m hm => congrArg OvenAct.commands (acts.act_rest loc h hm)
    have notices : (ns.flatMap fun m => (act (f s n) m).notices) = ns.flatMap fun m => (act s m).notices :=
      List.flatMap_congr fun m hm => congrArg OvenAct.notices (acts.act_rest loc h hm)
    simp only [List.flatMap_cons, List.length_append, State.FieldRoom] at room
    have first := acts s n (h.place (.head _))
    obtain ⟨issued, sl⟩ := first.links (Nat.le_trans (Nat.add_le_add_left (Nat.le_add_right _ _) _) room)
    have room' : (f s n).FieldRoom (ns.flatMap fun m => (act (f s n) m).commands).length := by
      rw [State.FieldRoom, issued.1, List.length_append, commands]
      simp only [State.deed]
      omega
    obtain ⟨issued', sl'⟩ := ih (f s n) (acts.ovensOf_rest h) room'
    rw [commands] at issued'
    rw [notices] at sl'
    refine ⟨issued.trans issued', sl'.trans ?_⟩
    rw [List.flatMap_cons, ← State.raiseAll_append]
    exact State.raiseAll_sl_congr _ sl first.bk

end

end ActsAs

end Sys2Proof.Machine

/-!
SUPPORT. An oven node report at DU (R89 to R91, R97, R98, R103): the table of a door, and what the report does to one oven.
-/

namespace Sys2Proof.Machine

/-! ### One door (section 4.2, R103) -/

section
variable {d : Door} {l : DoorLimits} {n : Nat} {x : Side} {expected present : Bool}

theorem Door.takeRun_removed (h : d.state ≠ .off) : d.takeRun l n x expected false = d.remove l n x expected := by
  cases state : d.state <;> simp_all [Door.takeRun]

theorem Door.takeRun_sealed (h : d.state = .sealed) : d.takeRun l n x expected true = d.judgeSealed l n x := by
  simp [Door.takeRun, h]

theorem Door.takeRun_leaking (h : d.state = .leaking) : d.takeRun l n x expected true = d.judgeLeaking l n x := by
  simp [Door.takeRun, h]

/-- A door's report in CONFIG (R103). -/
theorem Door.takeConfig_absent (d : Door) (l : DoorLimits) (n : Nat) (x : Side) : d.takeConfig l n x false =
    .keep (if d.state = .off then d else { d with state := .off, persistence := 0, settleTimer := none }) := by
  cases state : d.state <;> simp [Door.takeConfig, state]

theorem Door.takeConfig_present (d : Door) (l : DoorLimits) (n : Nat) (x : Side) : d.takeConfig l n x true =
    if d.state = .off ∨ d.state = .seated then d.sealInConfig l n x else .keep d := by
  cases state : d.state <;> simp [Door.takeConfig, state]

/-- What a door's report in CONFIG sends and raises. -/
theorem Door.takeConfig_shows (d : Door) (l : DoorLimits) (n : Nat) (x : Side) (present : Bool) :
    ((d.takeConfig l n x present).commands, (d.takeConfig l n x present).notices) =
      (if present = true ∧ (d.state = .off ∨ d.state = .seated) then
        [⟨servingNode n, .clamp n x (max l.baseStep (d.learnedStep - 1))⟩] else [], []) := by
  cases present
  · rw [Door.takeConfig_absent]
    rfl
  · rw [Door.takeConfig_present]
    by_cases seats : d.state = .off ∨ d.state = .seated
    · rw [if_pos seats, if_pos ⟨rfl, seats⟩]
      rfl
    · rw [if_neg seats, if_neg fun h => seats h.2]
      rfl

/-- A report has a door send at most one command and raise at most one notice. -/
theorem Door.takeRun_short (d : Door) (l : DoorLimits) (n : Nat) (x : Side) (expected present : Bool) :
    (d.takeRun l n x expected present).commands.length ≤ 1 ∧ (d.takeRun l n x expected present).notices.length ≤ 1 := by
  unfold Door.takeRun
  split
  case h_1 | h_6 => exact ⟨Nat.zero_le _, Nat.zero_le _⟩
  case h_2 | h_3 | h_4 => cases expected <;> exact ⟨Nat.zero_le _, by simp [Door.remove]⟩
  case h_5 => exact ⟨Nat.le_refl _, Nat.zero_le _⟩
  case h_7 =>
    simp only [Door.judgeSealed]
    split_ifs <;> simp [DoorStep.keep]
  case h_8 =>
    simp only [Door.judgeLeaking]
    split_ifs <;> simp [DoorStep.keep]

theorem Door.takeConfig_short (d : Door) (l : DoorLimits) (n : Nat) (x : Side) (present : Bool) :
    (d.takeConfig l n x present).commands.length ≤ 1 ∧ (d.takeConfig l n x present).notices.length ≤ 1 := by
  cases present
  · rw [Door.takeConfig_absent]
    exact ⟨Nat.zero_le _, Nat.zero_le _⟩
  · rw [Door.takeConfig_present]
    split_ifs <;> simp [Door.sealInConfig, DoorStep.keep]

end

/-! ### Which removals a push accounts for (R90) -/

theorem Stage.takesDoors_iff (x : Stage) : x.takesDoors = true ↔ x = .doorsOff ∨ x = .retreat := by
  cases x <;> decide

/-- A push record names oven n at a stage that takes doors off. -/
def State.removes (s : State) (n : Nat) : Prop := ∃ r ∈ s.pu.push, r.oven = n ∧ (r.stage = .doorsOff ∨ r.stage = .retreat)

section
variable {s : State} {es : List OvenEntry} {n : Nat}

theorem State.pushTakesDoors_unnoted (h : s.pu.taken = none) : s.pushTakesDoors es n = true ↔ s.removes n := by
  unfold State.pushTakesDoors State.removes
  rw [h]
  cases s.pu.push with
  | none => simp
  | some r => simp [Stage.takesDoors_iff]

theorem State.pushTakesDoors_noted {k : TakenReport} (h : s.pu.taken = some k) (same : k.oven = n ∧ k.entries = es) :
    s.pushTakesDoors es n = true ↔ k.stage = .doorsOff ∨ k.stage = .retreat := by
  unfold State.pushTakesDoors
  rw [h, ← Stage.takesDoors_iff]
  cases s.pu.push with
  | none => simp [same.1, same.2]
  | some r => simp [same.1, same.2]

theorem State.pushTakesDoors_elsewhere {k : TakenReport} (h : s.pu.taken = some k) (other : k.oven ≠ n ∨ k.entries ≠ es) :
    s.pushTakesDoors es n = true ↔ s.removes n := by
  have apart : ¬(k.oven = n ∧ k.entries = es) := fun same => other.elim (· same.1) (· same.2)
  unfold State.pushTakesDoors State.removes
  rw [h]
  cases s.pu.push with
  | none =>
    simp only [Bool.and_eq_true, beq_iff_eq, Option.mem_def, reduceCtorEq, false_and, exists_false, iff_false]
    exact fun all => apart all.1
  | some r => simp [apart, Stage.takesDoors_iff]

end

/-! ### One oven's entry (R89, R112) -/

/-- What the entry has one door do. -/
def State.doorStep (s : State) (es : List OvenEntry) (n : Nat) (e : OvenEntry) (x : Side) : DoorStep :=
  if s.running then { (s.oven n).door x with leakLevel := leakOf e x }.takeRun s.du n x
    (s.pushTakesDoors es n || ((s.oven n).door x).permit) (presentOf e x)
  else { (s.oven n).door x with leakLevel := leakOf e x }.takeConfig s.du n x (presentOf e x)

/-- The step changes what R111 reads of the door. -/
def DoorStep.moves (a : DoorStep) (d : Door) : Bool := decide (a.door.state ≠ d.state ∨ a.door.unexpected ≠ d.unexpected)

/-- The oven with the P door as the entry leaves it, and with both. -/
def State.afterDoorP (s : State) (es : List OvenEntry) (n : Nat) (e : OvenEntry) : Oven :=
  (s.oven n).setDoor .p (s.doorStep es n e .p).door

def State.afterDoors (s : State) (es : List OvenEntry) (n : Nat) (e : OvenEntry) : Oven :=
  (s.afterDoorP es n e).setDoor .c (s.doorStep es n e .c).door

/-- The valve and the commands of its evaluation after the P door, and of that after the C door. -/
def State.valveP (s : State) (es : List OvenEntry) (n : Nat) (e : OvenEntry) : Valve × List Outgoing :=
  if (s.doorStep es n e .p).moves (s.oven n).doorP then
    turnTo n ((s.setOven n (s.afterDoorP es n e)).valveMode n) (s.oven n).valve
  else ((s.oven n).valve, [])

def State.valveC (s : State) (es : List OvenEntry) (n : Nat) (e : OvenEntry) : Valve × List Outgoing :=
  if (s.doorStep es n e .c).moves (s.oven n).doorC then
    turnTo n ((s.setOven n (s.afterDoors es n e)).valveMode n) (s.valveP es n e).1
  else ((s.valveP es n e).1, [])

/-- What a report does to one oven. -/
def State.doorsAct (m : Fin 12) (es : List OvenEntry) (s : State) (n : Nat) : OvenAct :=
  match entryFor m es n with
  | some e =>
    ⟨(s.afterDoors es n e).setValve (s.valveC es n e).1,
      (s.doorStep es n e .p).commands ++ (s.valveP es n e).2 ++ (s.doorStep es n e .c).commands ++ (s.valveC es n e).2,
      (s.doorStep es n e .p).notices ++ (s.doorStep es n e .c).notices⟩
  | none => ⟨s.oven n, [], []⟩

section
variable {n : Nat} {s t : State} {d : Deed}

/-- A door's step is a deed: the door, and where it moves the evaluation (R112). -/
theorem Does.applyDoor (place : n - 1 < s.ovens.length) (h : Does n s t d) (x : Side) (a : DoorStep) {o : Oven}
    {v : Valve × List Outgoing} (ho : o = d.oven.setDoor x a.door)
    (hv : v = if a.moves (d.oven.door x) then turnTo n ((s.setOven n o).valveMode n) d.oven.valve else (d.oven.valve, []))
    (pu : d.pu = s.pu) :
    Does n s (t.applyDoor n x a)
      { d with oven := o.setValve v.1, commands := d.commands ++ a.commands ++ v.2, notices := d.notices ++ a.notices } := by
  have written := ((h.setOven o).issueAll a.commands).raiseAll a.notices
  have shape : t.applyDoor n x a = (if a.moves (d.oven.door x) then
      (((t.setOven n o).issueAll a.commands).raiseAll a.notices).evalValve n
      else ((t.setOven n o).issueAll a.commands).raiseAll a.notices) := by
    simp only [State.applyDoor, h.oven_self place, ho, DoorStep.moves, decide_eq_true_eq, ← not_and_or, ite_not, ne_eq]
  have valve : o.valve = d.oven.valve := by rw [ho, Oven.setDoor_valve]
  rw [shape, hv]
  by_cases moves : a.moves (d.oven.door x) = true
  · have evaluated := written.evalValve place
    have mode : ((((t.setOven n o).issueAll a.commands).raiseAll a.notices).evalValve n).valveMode n =
        (s.setOven n o).valveMode n :=
      evaluated.valveMode_eq place ((s.does_idle n).setOven o) pu (Oven.modeInputs_turnTo o n _)
    rw [if_pos moves, if_pos moves, ← mode, ← valve]
    exact evaluated
  · rw [if_neg moves, if_neg moves, ← valve]
    simp only [List.append_nil]
    exact written

end

section
variable {m : Fin 12} {es : List OvenEntry} {s t : State} {n : Nat} {e : OvenEntry}

/-- An evaluation of a door's step leaves what R111 reads of the valve. -/
theorem State.valveP_inputs (s : State) (es : List OvenEntry) (n : Nat) (e : OvenEntry) :
    (s.valveP es n e).1.manualFlag = (s.oven n).valve.manualFlag ∧
      (s.valveP es n e).1.lastPressure = (s.oven n).valve.lastPressure := by
  unfold State.valveP
  split
  · exact turnTo_inputs n _ _
  · exact ⟨rfl, rfl⟩

theorem State.valveC_inputs (s : State) (es : List OvenEntry) (n : Nat) (e : OvenEntry) :
    (s.valveC es n e).1.manualFlag = (s.oven n).valve.manualFlag ∧
    (s.valveC es n e).1.lastPressure = (s.oven n).valve.lastPressure := by
  obtain ⟨manual, pressure⟩ := s.valveP_inputs es n e
  unfold State.valveC
  split
  · obtain ⟨manual', pressure'⟩ := turnTo_inputs n ((s.setOven n (s.afterDoors es n e)).valveMode n) (s.valveP es n e).1
    exact ⟨manual'.trans manual, pressure'.trans pressure⟩
  · exact ⟨manual, pressure⟩

theorem State.afterDoors_valve (s : State) (es : List OvenEntry) (n : Nat) (e : OvenEntry) :
    (s.afterDoors es n e).valve = (s.oven n).valve := by
  rw [State.afterDoors, State.afterDoorP, Oven.setDoor_valve, Oven.setDoor_valve]

/-- The mode the C door's evaluation gives is read of the doors alone, whatever the P door's has done to the valve. -/
theorem State.afterDoors_mode (place : n - 1 < s.ovens.length) :
    (s.setOven n ((s.afterDoors es n e).setValve (s.valveP es n e).1)).valveMode n =
      (s.setOven n (s.afterDoors es n e)).valveMode n := by
  refine State.valveMode_congr rfl rfl rfl ?_
  obtain ⟨manual, pressure⟩ := s.valveP_inputs es n e
  rw [State.oven_setOven_self _ _ _ place, State.oven_setOven_self _ _ _ place]
  simp only [Oven.modeInputs, Oven.setValve_valve, Oven.setValve_phase, Oven.setValve_doorP, Oven.setValve_doorC,
    State.afterDoors_valve, manual, pressure]

/-- An entry at one oven: P, then C (R89). -/
theorem State.does_takeDoors (place : n - 1 < s.ovens.length) :
    Does n s (s.takeDoors m es n) (s.deed (s.doorsAct m es n)) := by
  unfold State.takeDoors State.doorsAct
  cases entry : entryFor m es n with
  | none => exact s.does_idle n
  | some e =>
    have first := (s.does_idle n).applyDoor place .p (s.doorStep es n e .p) (o := s.afterDoorP es n e) (v := s.valveP es n e)
      rfl rfl rfl
    have second := first.applyDoor place .c (s.doorStep es n e .c)
      (o := (s.afterDoors es n e).setValve (s.valveP es n e).1) (v := s.valveC es n e) rfl
      (by rw [State.afterDoors_mode place]; rfl) rfl
    have doorC : ((s.takeDoor n .p (s.pushTakesDoors es n) e).oven n).door .c = (s.oven n).door .c := by
      rw [show (s.takeDoor n .p (s.pushTakesDoors es n) e).oven n = _ from first.oven_self place]
      rfl
    have running : (s.takeDoor n .p (s.pushTakesDoors es n) e).running = s.running := by
      rw [State.running, show (s.takeDoor n .p (s.pushTakesDoors es n) e).bk = s.bk from first.bk, State.running]
    have du : (s.takeDoor n .p (s.pushTakesDoors es n) e).du = s.du := first.keeps .du (by simp)
    have step : (s.takeDoor n .p (s.pushTakesDoors es n) e).takeDoor n .c (s.pushTakesDoors es n) e =
        (s.takeDoor n .p (s.pushTakesDoors es n) e).applyDoor n .c (s.doorStep es n e .c) := by
      rw [State.takeDoor, doorC, running, du, State.doorStep]
    dsimp only
    rw [step]
    exact second

theorem actsAs_doorsAct : ActsAs (fun s n => s.takeDoors m es n) (State.doorsAct m es) := fun _ _ place =>
  State.does_takeDoors place

theorem SameContext.doorStep (context : SameContext s t) (same : t.oven n = s.oven n) (x : Side) :
    t.doorStep es n e x = s.doorStep es n e x := by
  have du : t.du = s.du := context.1 .du (by simp)
  have running : t.running = s.running := congrArg (·.mode == .run) (show t.bk = s.bk from context.1 .bk (by simp))
  have takes : t.pushTakesDoors es n = s.pushTakesDoors es n := by
    rw [State.pushTakesDoors, show t.pu = s.pu from context.1 .pu (by simp)]
    rfl
  rw [State.doorStep, same, running, du, takes, State.doorStep]

theorem SameContext.valveMode_setOven (context : SameContext s t) (place : n - 1 < s.ovens.length)
    (place' : n - 1 < t.ovens.length) (o : Oven) : (t.setOven n o).valveMode n = (s.setOven n o).valveMode n :=
  State.valveMode_congr (congrArg BatteryClock.mode (context.1 .bk (by simp))) (context.1 .pu (by simp)) context.2
    (by rw [State.oven_setOven_self _ _ _ place, State.oven_setOven_self _ _ _ place'])

theorem doorsAct_local : OvenLocal (State.doorsAct m es) := by
  intro s t n place place' context same
  simp only [State.doorsAct, State.valveC, State.valveP, State.afterDoors, State.afterDoorP, context.doorStep same, same,
    context.valveMode_setOven place place']

theorem State.doorStep_short (s : State) (es : List OvenEntry) (n : Nat) (e : OvenEntry) (x : Side) :
    (s.doorStep es n e x).commands.length ≤ 1 ∧ (s.doorStep es n e x).notices.length ≤ 1 := by
  unfold State.doorStep
  split_ifs
  · exact Door.takeRun_short ..
  · exact Door.takeConfig_short ..

theorem State.doorsAct_short (s : State) (n : Nat) :
    (s.doorsAct m es n).commands.length ≤ 6 ∧ (s.doorsAct m es n).notices.length ≤ 2 := by
  unfold State.doorsAct
  cases entryFor m es n with
  | none => simp
  | some e =>
    obtain ⟨commandP, noticeP⟩ := s.doorStep_short es n e .p
    obtain ⟨commandC, noticeC⟩ := s.doorStep_short es n e .c
    have evaluatedP : (s.valveP es n e).2.length ≤ 2 := by
      unfold State.valveP
      split_ifs
      · exact turnTo_length n _ _
      · simp
    have evaluatedC : (s.valveC es n e).2.length ≤ 2 := by
      unfold State.valveC
      split_ifs
      · exact turnTo_length n _ _
      · simp
    simp only [List.length_append]
    omega

end

end Sys2Proof.Machine

/-!
SUPPORT. The part after an oven node report at DU, and the statement.
-/

namespace Sys2Proof.Machine

/-- The part after a report. -/
def State.afterReport (s : State) (m : Fin 12) (es : List OvenEntry) : State := ovenReport m es (s.passed (.ovenReport m es))

/-- The same before PU's note of the report is dropped (log 21). -/
def State.reported (s : State) (m : Fin 12) (es : List OvenEntry) : State :=
  (s.served m).foldl (fun t n => t.takeDoors m es n) (s.passed (.ovenReport m es))

section
variable {s : State} {m : Fin 12} {es : List OvenEntry} {n : Nat} {e : OvenEntry}

theorem exec_ovenReport (run : s.pins.inReset = false) (whole : es.length = 8) :
    exec (.ovenReport m es) s = .next (s.afterReport m es) :=
  (State.checked_of_wf s _ _ (by simp [Instr.wf, whole])).trans (State.event_of_run s _ _ run)

theorem State.dropTaken_eq (s : State) (m : Fin 12) : ∃ k, s.dropTaken m = s.withPu { s.pu with taken := k } := by
  unfold State.dropTaken
  split_ifs
  · exact ⟨none, rfl⟩
  · exact ⟨s.pu.taken, rfl⟩

/-- Dropping PU's note changes nothing else. -/
theorem State.afterReport_eq : ∃ k, s.afterReport m es = (s.reported m es).withPu { (s.reported m es).pu with taken := k } :=
  State.dropTaken_eq _ m

theorem State.afterReport_oven_eq (n : Nat) : (s.afterReport m es).oven n = (s.reported m es).oven n := by
  obtain ⟨k, eq⟩ := State.afterReport_eq (s := s) (m := m) (es := es)
  rw [eq]
  rfl

variable (shape : ShapeLaw s)
include shape

theorem State.reported_context : SameContext (s.passed (.ovenReport m es)) (s.reported m es) :=
  actsAs_doorsAct.sameContext _ _ (shape.ovensOf_served _ m)

theorem State.frameOf_afterReport : FrameOf (.ovenReport m es) [.ovens, .pu, .fl, .sl] s (s.afterReport m es) ∧
    (s.afterReport m es).pu = { s.pu with taken := (s.afterReport m es).pu.taken } ∧
    (s.afterReport m es).fl.nodes = s.fl.nodes := by
  obtain ⟨k, eq⟩ := State.afterReport_eq (s := s) (m := m) (es := es)
  have context := State.reported_context (m := m) (es := es) shape
  have pu : (s.reported m es).pu = s.pu := context.1 .pu (by simp)
  rw [eq]
  refine ⟨⟨?_, context.1 .due (by simp)⟩, by rw [pu]; rfl, context.2⟩
  refine ((s.keeps_withDue _).mono (by simp)).trans ((context.1.mono (by simp)).trans fun b hb => ?_)
  cases b with
  | pu => simp at hb
  | _ => rfl

theorem State.afterReport_other (low : 0 < n) (other : (n - 1) / 8 ≠ m.val ∨ s.ovenCount < n) :
    (s.afterReport m es).oven n = s.oven n := by
  rw [State.afterReport_oven_eq]
  refine actsAs_doorsAct.oven_of_not_mem low _ (s.passed (.ovenReport m es)) (shape.ovensOf_served _ m) fun mem => ?_
  obtain ⟨-, node, within⟩ := State.mem_served.mp mem
  omega

/-! ### One of the node's ovens -/

section
variable (low : 0 < n) (node : (n - 1) / 8 = m.val) (within : n ≤ s.ovenCount) (entry : es[(n - 1) % 8]? = some e)
include low node within entry

theorem State.afterReport_oven : (s.afterReport m es).oven n = (s.afterDoors es n e).setValve (s.valveC es n e).1 := by
  rw [State.afterReport_oven_eq]
  refine (actsAs_doorsAct.oven doorsAct_local _ (s.passed (.ovenReport m es)) (shape.ovensOf_served _ m)
    (State.mem_served.mpr ⟨low, node, within⟩)).trans ?_
  rw [State.doorsAct, entryFor_eq node entry]
  rfl

theorem State.afterReport_door (x : Side) : ((s.afterReport m es).oven n).door x = (s.doorStep es n e x).door := by
  rw [State.afterReport_oven shape low node within entry]
  cases x <;> rfl

theorem State.afterReport_mode : (s.afterReport m es).valveMode n = (s.setOven n (s.afterDoors es n e)).valveMode n := by
  have place : n - 1 < s.ovens.length := by
    have high := shape.high
    omega
  have record := State.afterReport_oven shape low node within entry
  obtain ⟨k, eq⟩ := State.afterReport_eq (s := s) (m := m) (es := es)
  have context := State.reported_context (m := m) (es := es) shape
  have same : (s.afterReport m es).valveMode n = (s.reported m es).valveMode n := by rw [eq]; rfl
  rw [same]
  refine State.valveMode_congr (congrArg BatteryClock.mode (context.1 .bk (by simp))) (context.1 .pu (by simp)) context.2 ?_
  obtain ⟨manual, pressure⟩ := s.valveC_inputs es n e
  rw [← State.afterReport_oven_eq, record, State.oven_setOven_self _ _ _ place]
  simp only [Oven.modeInputs, Oven.setValve_valve, Oven.setValve_phase, Oven.setValve_doorP, Oven.setValve_doorC,
    State.afterDoors_valve, manual, pressure]

/-- With neither door moved, no evaluation touches the valve. -/
theorem State.afterReport_valve_kept (stillP : (s.doorStep es n e .p).moves (s.oven n).doorP = false)
    (stillC : (s.doorStep es n e .c).moves (s.oven n).doorC = false) :
    ((s.afterReport m es).oven n).valve = (s.oven n).valve := by
  rw [State.afterReport_oven shape low node within entry, Oven.setValve_valve, State.valveC, stillC, State.valveP, stillP]
  rfl

/-- With a door moved, the valve stands in the mode an evaluation gives (R112). -/
theorem State.afterReport_valve_mode (moved : (s.doorStep es n e .p).moves (s.oven n).doorP = true ∨
      (s.doorStep es n e .c).moves (s.oven n).doorC = true) :
    ((s.afterReport m es).oven n).valve.mode = (s.afterReport m es).valveMode n := by
  rw [State.afterReport_mode shape low node within entry, State.afterReport_oven shape low node within entry, Oven.setValve_valve]
  cases movedC : (s.doorStep es n e .c).moves (s.oven n).doorC with
  | true =>
    rw [State.valveC, if_pos movedC]
    exact turnTo_mode n _ _
  | false =>
    have movedP := moved.resolve_right (by simp [movedC])
    have place : n - 1 < s.ovens.length := by
      have high := shape.high
      omega
    rw [State.valveC, if_neg (by simp [movedC]), State.valveP, if_pos movedP, turnTo_mode]
    refine State.valveMode_congr rfl rfl rfl ?_
    simp only [DoorStep.moves, decide_eq_false_iff_not, not_or, not_not] at movedC
    obtain ⟨state, unexpected⟩ := movedC
    have doorC : (s.afterDoors es n e).doorC.offUnexpected = (s.oven n).doorC.offUnexpected := by
      have written : (s.afterDoors es n e).doorC = (s.doorStep es n e .c).door := rfl
      rw [written, Door.offUnexpected, state, unexpected, Door.offUnexpected]
    rw [State.oven_setOven_self _ _ _ place, State.oven_setOven_self _ _ _ place]
    simp only [Oven.modeInputs, doorC]
    rfl

end

end

/-! ### The statement -/

/-- Section 4.2's table, as `takeRun` acts on it. -/
theorem doorTable (d : Door) (l : DoorLimits) (n : Nat) (x : Side) (expected : Bool) :
    (d.state = .off → d.takeRun l n x expected false = ⟨d, [], []⟩) ∧
    (d.state ≠ .off → d.takeRun l n x expected false = d.remove l n x expected) ∧
    (d.state = .off → d.takeRun l n x expected true = d.seat l n x) ∧
    (d.state = .seated → d.takeRun l n x expected true = ⟨d, [], []⟩) :=
  ⟨fun h => by simp [Door.takeRun, h, DoorStep.keep], Door.takeRun_removed, fun h => by simp [Door.takeRun, h],
    fun h => by simp [Door.takeRun, h, DoorStep.keep]⟩

section
variable {d : Door} {l : DoorLimits} {n : Nat} {x : Side} {expected : Bool}

/-- A SEALED door (R97). -/
theorem sealedTable (h : d.state = .sealed) :
    (d.leakLevel < l.leakThreshold → 0 < l.leakPersistence →
      d.takeRun l n x expected true = ⟨{ d with persistence := 0 }, [], []⟩) ∧
    (l.leakThreshold ≤ d.leakLevel → d.persistence + 1 < l.leakPersistence →
      d.takeRun l n x expected true = ⟨{ d with persistence := d.persistence + 1 }, [], []⟩) ∧
    (l.leakThreshold ≤ d.leakLevel → l.leakPersistence ≤ d.persistence + 1 → d.clampStep < 15 →
      d.takeRun l n x expected true =
        ⟨{ d with clampStep := d.clampStep + 1, learnedStep := d.clampStep + 1, persistence := 0 },
          [⟨servingNode n, .clamp n x (d.clampStep + 1)⟩], []⟩) ∧
    (l.leakThreshold ≤ d.leakLevel → l.leakPersistence ≤ d.persistence + 1 → 15 ≤ d.clampStep →
      d.takeRun l n x expected true =
        ⟨{ d with state := .leaking, persistence := 0 }, [], [.doorLeaking n x d.leakLevel]⟩) := by
  rw [Door.takeRun_sealed h]
  refine ⟨fun low many => ?_, fun high few => ?_, fun high enough room => ?_, fun high enough full => ?_⟩
  · simp [Door.judgeSealed, Door.counted, Nat.not_le.mpr low, many, DoorStep.keep]
  · simp [Door.judgeSealed, Door.counted, high, few, DoorStep.keep]
  · simp [Door.judgeSealed, Door.counted, high, Nat.not_lt.mpr enough, room, toOven]
  · simp [Door.judgeSealed, Door.counted, high, Nat.not_lt.mpr enough, Nat.not_lt.mpr full]

/-- A LEAKING door (R98). -/
theorem leakingTable (h : d.state = .leaking) :
    (l.leakThreshold ≤ d.leakLevel → 0 < l.leakPersistence →
      d.takeRun l n x expected true = ⟨{ d with persistence := 0 }, [], []⟩) ∧
    (d.leakLevel < l.leakThreshold → d.persistence + 1 < l.leakPersistence →
      d.takeRun l n x expected true = ⟨{ d with persistence := d.persistence + 1 }, [], []⟩) ∧
    (d.leakLevel < l.leakThreshold → l.leakPersistence ≤ d.persistence + 1 →
      d.takeRun l n x expected true = ⟨{ d with state := .sealed, persistence := 0 }, [], [.doorResealed n x]⟩) := by
  rw [Door.takeRun_leaking h]
  refine ⟨fun high many => ?_, fun low few => ?_, fun low enough => ?_⟩
  · simp [Door.judgeLeaking, Door.counted, Nat.not_lt.mpr high, many, DoorStep.keep]
  · simp [Door.judgeLeaking, Door.counted, low, few, DoorStep.keep]
  · simp [Door.judgeLeaking, Door.counted, low, Nat.not_lt.mpr enough]

end

section
variable {s : State} {m : Fin 12} {es : List OvenEntry}

/-- With room, the commands and notices of a report come oven by oven, P before C, each evaluation after its door. -/
theorem State.afterReport_links (shape : ShapeLaw s) (whole : es.length = 8) (field : s.FieldRoom 48) (notice : s.NoticeRoom 16)
    (wait : s.NoticesWait) {commands : Nat → List Outgoing} {notices : Nat → List NoticeBody}
    (each : ∀ n, 0 < n → (n - 1) / 8 = m.val → n ≤ s.ovenCount → ∀ e, es[(n - 1) % 8]? = some e →
      commands n = (s.doorStep es n e .p).commands ++ (s.valveP es n e).2 ++ (s.doorStep es n e .c).commands ++
        (s.valveC es n e).2 ∧
      notices n = (s.doorStep es n e .p).notices ++ (s.doorStep es n e .c).notices) :
    Issued s (s.afterReport m es) ((s.served m).flatMap commands) ∧
      NoticesOnly s (s.afterReport m es) ((s.served m).flatMap notices) := by
  have acts (n : Nat) (hn : n ∈ s.served m) : (State.doorsAct m es (s.passed (.ovenReport m es)) n).commands = commands n ∧
      (State.doorsAct m es (s.passed (.ovenReport m es)) n).notices = notices n := by
    obtain ⟨low, node, within⟩ := State.mem_served.mp hn
    have entry : es[(n - 1) % 8]? = some (es[(n - 1) % 8]'(by omega)) := List.getElem?_eq_getElem (by omega)
    obtain ⟨sends, tells⟩ := each n low node within _ entry
    rw [sends, tells, State.doorsAct, entryFor_eq node entry]
    exact ⟨rfl, rfl⟩
  have sent : ((s.served m).flatMap fun n => (State.doorsAct m es (s.passed (.ovenReport m es)) n).commands) =
      (s.served m).flatMap commands := List.flatMap_congr fun n hn => (acts n hn).1
  have told : ((s.served m).flatMap fun n => (State.doorsAct m es (s.passed (.ovenReport m es)) n).notices) =
      (s.served m).flatMap notices := List.flatMap_congr fun n hn => (acts n hn).2
  have few := s.served_length_le m
  have links := (actsAs_doorsAct (m := m) (es := es)).links doorsAct_local (s.served m) (s.passed (.ovenReport m es))
    (shape.ovensOf_served _ m)
    (field.of_le (flatMap_length_le few fun n => (State.doorsAct_short _ n).1))
  have bound := flatMap_length_le few fun n => (State.doorsAct_short (m := m) (es := es) (s.passed (.ovenReport m es)) n).2
  rw [sent, told] at links
  rw [told] at bound
  obtain ⟨issued, sl⟩ := links
  have raised := s.raiseAll_noticesOnly _ (notice.of_le bound) wait
  obtain ⟨k, eq⟩ := State.afterReport_eq (s := s) (m := m) (es := es)
  rw [eq]
  exact ⟨issued, sl.trans raised⟩

end

/-- Settles O42: the table of one door, the stages that account for a removal, and the report oven by oven. -/
theorem ovenReportsDriveTheDoors : Obligations.OvenReportsDriveTheDoors := by
  refine ⟨fun d l n x expected => ?table, fun s es n => ⟨State.pushTakesDoors_unnoted, fun k noted =>
      ⟨State.pushTakesDoors_noted noted, State.pushTakesDoors_elsewhere noted⟩⟩, fun s m es shape run whole => ?report⟩
  case table =>
    obtain ⟨off, removed, seated, still⟩ := doorTable d l n x expected
    exact ⟨off, removed, seated, still, sealedTable, leakingTable⟩
  case report =>
    obtain ⟨frame, pu, nodes⟩ := State.frameOf_afterReport (m := m) (es := es) shape
    refine ⟨_, exec_ovenReport run whole, frame, pu, nodes, fun n _ low other => State.afterReport_other shape low other,
      fun n _ low node within e entry => ⟨?record, ?kept, ?moved, fun x d hd present hpresent =>
        ⟨fun inRun => ?run, fun config => ?config⟩⟩,
      fun changed hchanged afterP hafterP afterC hafterC => ?evaluations⟩
    case record =>
      rw [State.afterReport_oven shape low node within entry]
      rfl
    case kept =>
      intro same
      simp only [State.afterReport_door shape low node within entry] at same
      have still (x : Side) : (s.doorStep es n e x).moves ((s.oven n).door x) = false :=
        decide_eq_false fun moves => moves.elim (· (same x).1) (· (same x).2)
      exact State.afterReport_valve_kept shape low node within entry (still .p) (still .c)
    case moved =>
      rintro ⟨x, moves⟩
      rw [State.afterReport_door shape low node within entry] at moves
      refine State.afterReport_valve_mode shape low node within entry ?_
      cases x with
      | p => exact .inl (decide_eq_true moves)
      | c => exact .inr (decide_eq_true moves)
    case run =>
      rw [State.afterReport_door shape low node within entry, hd, hpresent]
      cases x <;> exact congrArg DoorStep.door (if_pos (s.running_eq_true_iff.mpr inRun))
    case config =>
      have step : s.doorStep es n e x = d.takeConfig s.du n x present := by
        have notRunning : ¬s.running = true := by simp [State.running, config]
        subst hd hpresent
        cases x <;> exact if_neg notRunning
      rw [State.afterReport_door shape low node within entry, step]
      refine ⟨fun absent => ?_, fun here => ?_⟩
      · rw [absent, Door.takeConfig_absent]
        rfl
      · rw [here, Door.takeConfig_present]
        split_ifs <;> rfl
    case evaluations =>
      have onP (n : Nat) (low : 0 < n) (node : (n - 1) / 8 = m.val) (within : n ≤ s.ovenCount) (e : OvenEntry)
          (entry : es[(n - 1) % 8]? = some e) : afterP n = s.valveP es n e := by
        have door := State.afterReport_door shape low node within entry .p
        have written : ((s.afterReport m es).oven n).doorP = (s.doorStep es n e .p).door := door
        subst hafterP hchanged
        simp only [door, written]
        rfl
      have onC (n : Nat) (low : 0 < n) (node : (n - 1) / 8 = m.val) (within : n ≤ s.ovenCount) (e : OvenEntry)
          (entry : es[(n - 1) % 8]? = some e) : afterC n = s.valveC es n e := by
        have door := State.afterReport_door shape low node within entry .c
        rw [hafterC, hchanged]
        simp only [door, onP n low node within e entry, State.afterReport_mode shape low node within entry]
        rfl
      refine ⟨fun n _ low node within => ?valve, fun field notice wait ovens hovens act hact => ?links⟩
      case valve =>
        have entry : es[(n - 1) % 8]? = some (es[(n - 1) % 8]'(by omega)) := List.getElem?_eq_getElem (by omega)
        rw [onC n low node within _ entry, State.afterReport_oven shape low node within entry]
        rfl
      case links =>
        subst hovens
        refine State.afterReport_links shape whole field notice wait fun n low node within e entry => ?_
        have onAct (x : Side) : act n x = ((s.doorStep es n e x).commands, (s.doorStep es n e x).notices) := by
          rw [hact, State.doorStep]
          simp only [entry]
          cases mode : s.bk.mode with
          | run =>
            rw [if_pos (s.running_eq_true_iff.mpr mode)]
            cases x <;> rfl
          | config =>
            have notRunning : ¬s.running = true := by simp [State.running, mode]
            rw [if_neg notRunning]
            refine Eq.trans ?_ (Door.takeConfig_shows ..).symm
            cases x <;> rfl
        rw [onAct, onAct, onP n low node within e entry, onC n low node within e entry]
        exact ⟨rfl, rfl⟩

end Sys2Proof.Machine

/-!
SUPPORT. The law of R150 one operation at a time: which cars stand at the tower, and what the shared operations of QU and PU keep
of it.
-/

namespace Sys2Proof.Machine

/-- A state in which a car has the tower to itself (R150). -/
def CarState.AtTower (x : CarState) : Prop := x = .quenching ∨ x = .draining

@[simp] theorem CarState.atTower_iff (x : CarState) : x.AtTower ↔ x = .quenching ∨ x = .draining := Iff.rfl

/-- None but the cars of p stand at the tower. The law of R150 says it of the holder of the grant. -/
def State.TowerOnly (p : Car → Prop) (s : State) : Prop := ∀ d, (s.car d).state.AtTower → p d

section
variable {s t : State} {p q : Car → Prop} {c : Car} {k : CarRecord} {r : PushRecord} {n : Nat}

theorem TowerLaw.only (law : TowerLaw s) : s.TowerOnly (s.qu.holder = some ·) := law

/-- While car c holds the grant no other car is at the tower. -/
theorem TowerLaw.only_holder (law : TowerLaw s) (holds : s.qu.holder = some c) : s.TowerOnly (· = c) :=
  fun d tower => Option.some.inj ((law d tower).symm.trans holds)

/-- With the grant free no car is at the tower. -/
theorem TowerLaw.none_of_free (law : TowerLaw s) (free : s.qu.holder = none) : s.TowerOnly fun _ => False :=
  fun d tower => nomatch (law d tower).symm.trans free

/-- An empty tower keeps the law, whoever holds the grant. -/
theorem State.TowerOnly.law (h : s.TowerOnly fun _ => False) : TowerLaw s := fun d tower => (h d tower).elim

/-- A law of the states of the cars and of the holder. -/
theorem TowerLaw.of_crew (law : TowerLaw s) (same : t.crew = s.crew) : TowerLaw t := fun d tower => by
  have state : (t.car d).state = (s.car d).state := congrArg (fun k : Crew => (k.cars d).1) same
  exact (congrArg Crew.holder same).trans (law d (state ▸ tower))

theorem TowerLaw.inert (law : TowerLaw s) (same : Inert s t) : TowerLaw t := law.of_crew same.crew

theorem TowerLaw.of_qu (law : TowerLaw s) (same : t.qu = s.qu) : TowerLaw t := by
  unfold TowerLaw State.car at *
  rwa [same]

theorem State.TowerOnly.withQu (h : s.TowerOnly p) {x : QuenchUnit} (cars : x.car = s.qu.car) : (s.withQu x).TowerOnly p := by
  unfold State.TowerOnly State.car at *
  rwa [State.withQu_qu, cars]

/-- The lists, the bays and the settings of QU are not read by the law. -/
theorem TowerLaw.withQu (law : TowerLaw s) {x : QuenchUnit} (cars : x.car = s.qu.car) (holder : x.holder = s.qu.holder) :
    TowerLaw (s.withQu x) := by
  unfold TowerLaw State.car at *
  rwa [State.withQu_qu, cars, holder]

/-! ### One rule per update of a car -/

/-- A record of car c written: of the other cars as much stands as before. -/
theorem State.TowerOnly.setCar (h : s.TowerOnly p) (here : k.state.AtTower → q c) (others : ∀ d, d ≠ c → p d → q d) :
    (s.setCar c k).TowerOnly q := by
  intro d tower
  by_cases same : d = c
  · subst same
    rw [State.car_setCar_self] at tower
    exact here tower
  · have kept : (s.setCar c k).car d = s.car d := QuenchUnit.car_setCar_ne _ _ _ _ same
    exact others d same (h d (kept ▸ tower))

theorem State.TowerOnly.moveCar (h : s.TowerOnly p) (away : ¬ k.state.AtTower) (others : ∀ d, d ≠ c → p d → q d)
    (l : Location) : (s.moveCar c l k).TowerOnly q := by
  rw [State.moveCar_eq]
  exact State.TowerOnly.setCar (k := { k with target := some l, travelTimer := s.moveTimer }) h
    (fun tower => (away tower).elim) others

/-- A record of a car written, its state away from the tower or that of the holder. -/
theorem TowerLaw.setCar (law : TowerLaw s) (here : k.state.AtTower → s.qu.holder = some c) : TowerLaw (s.setCar c k) := by
  have kept : (s.setCar c k).qu.holder = s.qu.holder := QuenchUnit.setCar_holder _ _ _
  have only := law.only.setCar (k := k) here fun _ _ => id
  exact fun d tower => kept.trans (only d tower)

theorem TowerLaw.setCar_away (law : TowerLaw s) (away : ¬ k.state.AtTower) : TowerLaw (s.setCar c k) :=
  law.setCar fun tower => (away tower).elim

/-- A record of a car written in the state it had. -/
theorem TowerLaw.setCar_same (law : TowerLaw s) (state : k.state = (s.car c).state) : TowerLaw (s.setCar c k) :=
  law.setCar fun tower => law c (state ▸ tower)

theorem TowerLaw.moveCar (law : TowerLaw s) (away : ¬ k.state.AtTower) (l : Location) : TowerLaw (s.moveCar c l k) := by
  rw [State.moveCar_eq]
  exact law.setCar_away (k := { k with target := some l, travelTimer := s.moveTimer }) away

/-! ### The grant (R147, R148, R150) -/

theorem TowerLaw.releaseCar (law : TowerLaw s) (c : Car) : TowerLaw (s.releaseCar c) := by
  rw [State.releaseCar_eq]
  refine law.setCar (k := (s.car c).released) fun tower => law c ?_
  unfold CarRecord.released at tower
  dsimp only at tower
  split_ifs at tower
  · exact tower.elim nofun nofun
  · exact tower

/-- The grant goes to a car that is on its way: at the tower no one joins. -/
theorem State.TowerOnly.grantTower (h : s.TowerOnly p) (w : Car) : (s.grantTower w).TowerOnly p :=
  State.TowerOnly.moveCar (k := { s.car w with state := .toTower }) (h.withQu (x := { s.qu with holder := some w }) rfl)
    (by simp) (fun _ _ => id) .tower

/-- A loaded car has a free grant or waits for it: it is not at the tower yet (R148). -/
theorem TowerLaw.dispatchCar (law : TowerLaw s) (c : Car) : TowerLaw (s.dispatchCar c) := by
  unfold State.dispatchCar
  split_ifs with free
  · exact ((law.none_of_free free.1).grantTower c).law
  · exact TowerLaw.moveCar (k := { s.car c with state := .toTower })
      (law.withQu (x := { s.qu with waiters := s.joinWaiters c s.qu.waiters }) rfl rfl) (by simp) .approachT

theorem State.TowerOnly.releaseTower (h : s.TowerOnly p) : s.releaseTower.TowerOnly p := by
  unfold State.releaseTower
  split
  · exact h.withQu rfl
  · next rest _ => exact (h.withQu (x := { s.qu with waiters := rest }) rfl).grantTower _

/-- A car away from the tower may give the grant up (R141). -/
theorem TowerLaw.leaveTower (law : TowerLaw s) (away : ¬ (s.car c).state.AtTower) : TowerLaw (s.leaveTower c) := by
  unfold State.leaveTower
  split_ifs with holds
  · have empty : s.TowerOnly fun _ => False := fun d tower => away (law.only_holder holds d tower ▸ tower)
    exact empty.releaseTower.law
  · exact law

/-! ### Bays (R152, R156) -/

/-- A car that moves to a bay is not at the tower (R152, R156). -/
theorem State.TowerOnly.reserveBay (h : s.TowerOnly p) (others : ∀ d, d ≠ c → p d → q d) (b : Nat) :
    (s.reserveBay b c).TowerOnly q :=
  State.TowerOnly.moveCar (k := { s.car c with state := .toWharf, reservedBay := some b })
    (h.withQu (x := s.qu.setBay b ⟨.reserved, some c, none⟩) rfl) (by simp) others (.bay b)

theorem TowerLaw.freeBay (law : TowerLaw s) (b : Nat) : TowerLaw (s.freeBay b) := by
  unfold State.freeBay
  split
  · exact law.withQu rfl rfl
  · next w rest _ =>
    have listed : TowerLaw (s.withQu { s.qu with bayWaiters := rest }) := law.withQu rfl rfl
    have kept : (State.reserveBay (s.withQu { s.qu with bayWaiters := rest }) b w).qu.holder = s.qu.holder :=
      congrArg Crew.holder (State.crew_reserveBay _ w b)
    exact fun d tower => kept.trans (listed.only.reserveBay (fun _ _ => id) b d tower)

/-- The one car at the tower seeks a bay, and leaves it empty (R152). -/
theorem State.TowerOnly.seekBay (h : s.TowerOnly (· = c)) : (s.seekBay c).TowerOnly fun _ => False := by
  unfold State.seekBay
  split
  · exact h.reserveBay (fun _ other => other) _
  · exact State.TowerOnly.moveCar (k := { s.car c with state := .waitingBay })
      (h.withQu (x := { s.qu with bayWaiters := s.qu.bayWaiters ++ [c] }) rfl) (by simp)
      (fun _ other => other) .approachW

/-! ### Push start and candidate evaluation -/

theorem TowerLaw.startPush (law : TowerLaw s) (n : Nat) (o : Origin) (c : Car) : TowerLaw (s.startPush n o c) := by
  have claimed := law.setCar_away (c := c)
    (k := { s.car c with state := .toSpot, target := some (.oven n), travelTimer := s.moveTimer }) (by simp)
  rw [State.startPush_eq]
  exact claimed.of_qu State.pushWritten_qu

theorem TowerLaw.tryPush (law : TowerLaw s) (n : Nat) (o : Origin) : TowerLaw (s.tryPush n o) := by
  unfold State.tryPush
  split
  · exact law.startPush n o _
  · exact law

theorem TowerLaw.judgeCursor (law : TowerLaw s) (n : Nat) : TowerLaw (s.judgeCursor n) := by
  unfold State.judgeCursor
  split_ifs
  · exact law
  · exact law.tryPush _ _
  · split
    case h_1 | h_2 => exact law
    case h_3 | h_4 | h_5 => exact law.inert (s.inert_passOver n)
    case h_6 | h_7 => exact law

theorem TowerLaw.evaluate (law : TowerLaw s) : TowerLaw s.evaluate := by
  unfold State.evaluate
  split_ifs
  · split
    · exact law.tryPush _ _
    · split
      · exact law.tryPush _ _
      · have skipped : TowerLaw (s.withSu { s.su with cursor := s.skipExcluded s.ovenCount s.su.cursor }) := law.of_qu rfl
        exact skipped.judgeCursor _
  · exact law

/-! ### The ends of a push -/

theorem TowerLaw.endPush (law : TowerLaw s) (n : Nat) (silent : Bool) : TowerLaw (s.endPush n silent) := by
  have ended : TowerLaw ((s.setPush none).evalValve n) := law.of_qu (by simp)
  cases silent with
  | true => exact ended
  | false => exact ended.evaluate

theorem TowerLaw.completePush (law : TowerLaw s) (r : PushRecord) (silent : Bool) : TowerLaw (s.completePush r silent) :=
  TowerLaw.endPush (law.of_qu (by simp)) _ _

theorem TowerLaw.returnReady (law : TowerLaw s) (r : PushRecord) (x : Stage) (cause : AbortCause) (silent : Bool) :
    TowerLaw (s.returnReady r x cause silent) :=
  TowerLaw.endPush (law.of_qu (by simp)) _ _

theorem TowerLaw.releaseClaimed (law : TowerLaw s) (r : PushRecord) : TowerLaw (s.releaseClaimed r) := by
  unfold State.releaseClaimed
  split_ifs
  · exact law.releaseCar _
  · exact law

theorem TowerLaw.undoPush (law : TowerLaw s) (r : PushRecord) (cause : AbortCause) : TowerLaw (s.undoPush r cause) :=
  (TowerLaw.releaseClaimed (law.of_qu (by simp)) r).returnReady r _ _ _

theorem TowerLaw.completeRetreat (law : TowerLaw s) (r : PushRecord) : TowerLaw (s.completeRetreat r) :=
  (TowerLaw.releaseClaimed (law.of_qu (by simp)) r).returnReady r _ _ _

theorem TowerLaw.makeStall (law : TowerLaw s) (r : PushRecord) (cause : AbortCause) (first : Option AbortCause) :
    TowerLaw (s.makeStall r cause first) :=
  law.of_qu (by simp [State.makeStall])

theorem TowerLaw.abortRetreat (law : TowerLaw s) (r : PushRecord) (cause : AbortCause) : TowerLaw (s.abortRetreat r cause) := by
  cases cause with
  | car => exact law
  | estop => exact TowerLaw.makeStall (law.of_qu (by simp)) _ _ _
  | timeout | host | pusherSilent | guideSilent | recheck => exact law.makeStall _ _ _

theorem TowerLaw.abortPush (law : TowerLaw s) (cause : AbortCause) : TowerLaw (s.abortPush cause) := by
  unfold State.abortPush
  split
  · exact law
  · split
    case h_1 | h_2 => exact law.undoPush _ _
    case h_3 =>
      split_ifs
      · exact TowerLaw.makeStall (law.of_qu (by simp)) _ _ _
      · exact law
    case h_4 => exact TowerLaw.makeStall (law.of_qu (by simp)) _ _ _
    case h_5 => exact TowerLaw.completePush (law.of_qu (by simp)) _ _
    case h_6 => exact law.abortRetreat _ _

/-! ### The stages of a push -/

theorem TowerLaw.judgeSpot (law : TowerLaw s) : TowerLaw s.judgeSpot := by
  unfold State.judgeSpot
  split
  · split_ifs <;> exact law
  · exact law

theorem TowerLaw.confirm (law : TowerLaw s) (r : PushRecord) (e : OvenEntry) : TowerLaw (s.confirm r e) := by
  unfold State.confirm
  split
  case h_1 | h_4 => exact law
  case h_2 => split_ifs <;> exact law
  case h_3 =>
    unfold State.completeDoorsOff
    split_ifs <;> exact law
  case h_5 =>
    split_ifs
    · exact law.completePush _ _
    · exact law
  case h_6 =>
    split_ifs
    · exact law.completeRetreat _
    · exact law

theorem TowerLaw.handOver (law : TowerLaw s) (r : PushRecord) : TowerLaw (s.handOver r) := by
  unfold State.handOver
  split_ifs
  · exact TowerLaw.dispatchCar (law.of_qu (by simp)) _
  · exact TowerLaw.releaseCar (law.of_qu (by simp)) _

theorem TowerLaw.completeRam (law : TowerLaw s) (r : PushRecord) : TowerLaw (s.completeRam r) := by
  have handed := (law.inert (s.inert_judgeStroke r)).handOver r
  unfold State.completeRam
  dsimp only
  split <;> exact handed

theorem TowerLaw.judgeRam (law : TowerLaw s) (r : PushRecord) : TowerLaw (s.judgeRam r) := by
  unfold State.judgeRam
  dsimp only
  split_ifs
  · exact TowerLaw.completeRam (law.of_qu (by simp)) _
  · exact law

theorem TowerLaw.releaseStalled (law : TowerLaw s) (r : StallRecord) : TowerLaw (s.releaseStalled r) := by
  unfold State.releaseStalled
  split_ifs
  · exact law
  · exact law.dispatchCar _
  · exact law.releaseCar _

/-! ### Car faults (R159) -/

theorem TowerLaw.faultCar (law : TowerLaw s) (c : Car) (cause : FaultCause) : TowerLaw (s.faultCar c cause) := by
  have faulted : TowerLaw (s.enterFaulted c cause) := by
    have written := law.setCar_away (c := c) (k := { s.car c with
      state := .faulted, lastFault := some cause, target := none, travelTimer := none, quenchTimer := none, drainTimer := none
      dumpTimer := none }) (by simp)
    exact written
  unfold State.faultCar
  dsimp only
  split_ifs
  · exact faulted.abortPush _
  · exact faulted

end

end Sys2Proof.Machine

/-!
SUPPORT. The law of R150 through the events of every block and the requests, and the statement that every step keeps it.
-/

namespace Sys2Proof.Machine

section
variable {s t : State}

/-! ### Reports and timers of the push unit -/

theorem pusherReport_tower (x : PusherReport) (s : State) (law : TowerLaw s) : TowerLaw (pusherReport x s) := by
  unfold pusherReport
  dsimp only
  split
  · exact law
  · split
    case h_1 => exact TowerLaw.judgeSpot (law.of_qu (by simp))
    case h_2 => exact TowerLaw.judgeRam (law.of_qu (by simp)) _
    case h_3 | h_4 | h_5 | h_6 => exact law

theorem guideReport_tower (x : GuideReport) (s : State) (law : TowerLaw s) : TowerLaw (guideReport x s) := by
  have seen : TowerLaw (s.withPu { s.pu with guide := .of x }) := law
  exact (seen.inert (State.inert_sendLatch _)).judgeSpot

theorem stageConfirmation_tower (m : Fin 12) (es : List OvenEntry) (s : State) (law : TowerLaw s) :
    TowerLaw (stageConfirmation m es s) := by
  unfold stageConfirmation
  split
  · exact law
  · split
    · exact law
    · exact TowerLaw.confirm (law.of_qu (by simp)) _ _

theorem stageTimerExpiry_tower (s : State) (law : TowerLaw s) : TowerLaw (stageTimerExpiry s) := by
  unfold stageTimerExpiry
  split
  · exact law
  · split_ifs
    · exact law.abortPush _
    · exact law

/-! ### Car and tower reports (R139, R151) -/

theorem TowerLaw.arriveTower (law : TowerLaw s) (c : Car) (l : Location) : TowerLaw (s.arriveTower c l) := by
  unfold State.arriveTower
  split_ifs
  · exact law.setCar_away (by simp)
  · exact law
  · exact law

theorem TowerLaw.beginDump (law : TowerLaw s) (c : Car) : TowerLaw (s.beginDump c) := by
  unfold State.beginDump
  split
  · have dumping := law.setCar_away (c := c) (k := { s.car c with state := .dumping, dumpTimer := some s.qu.limits.dump })
      (by simp)
    exact dumping
  · exact law

theorem TowerLaw.arrive (law : TowerLaw s) (c : Car) (l : Location) : TowerLaw (s.arrive c l) := by
  have stopped : TowerLaw (s.setCar c { s.car c with target := none, travelTimer := none }) := law.setCar_same rfl
  unfold State.arrive
  dsimp only
  split
  case h_1 => exact (stopped.setCar_away (by simp)).judgeSpot
  case h_2 => exact stopped.arriveTower c l
  case h_3 => exact stopped.beginDump c
  all_goals exact stopped

theorem TowerLaw.loadCar (law : TowerLaw s) (c : Car) : TowerLaw (s.loadCar c) := by
  unfold State.loadCar
  dsimp only
  split
  · split_ifs
    · exact law.setCar_away (by simp)
    · exact law
  · exact law

theorem TowerLaw.fillBay (law : TowerLaw s) (b : Nat) : TowerLaw (s.fillBay b) :=
  (law.withQu (x := s.qu.occupy b) rfl rfl).of_qu rfl

theorem TowerLaw.endDump (law : TowerLaw s) (c : Car) : TowerLaw (s.endDump c) := by
  unfold State.endDump
  dsimp only
  split
  · exact (((law.fillBay _).of_qu (State.raiseAll_qu _ _)).setCar_away (by simp)).evaluate
  · exact law

theorem TowerLaw.judgeCar (law : TowerLaw s) (c : Car) : TowerLaw (s.judgeCar c) := by
  unfold State.judgeCar
  dsimp only
  split_ifs
  · exact law
  · exact law.faultCar c _
  · exact law.faultCar c _
  · exact law.arrive c _
  · unfold State.judgeStatus
    split
    case h_1 => exact law.loadCar c
    case h_2 => exact law.endDump c
    case h_3 | h_4 => exact law

theorem carReport_tower (c : Car) (x : CarReport) (s : State) (law : TowerLaw s) : TowerLaw (carReport c x s) :=
  (law.setCar_same (k := (s.car c).record x) rfl).judgeCar c

/-- The quench begins for the holder alone (R151). -/
theorem towerReport_tower (x : TowerReport) (s : State) (law : TowerLaw s) : TowerLaw (towerReport x s) := by
  have seen : TowerLaw (s.withQu { s.qu with sprayReported := x.spray, carInTower := x.carInTower }) := law.withQu rfl rfl
  unfold towerReport State.beginQuench
  dsimp only
  split
  · split_ifs with begins
    · simp only [State.awaitsSpray, Bool.and_eq_true, beq_iff_eq] at begins
      obtain ⟨_, ⟨holds, _⟩, _⟩ := begins
      exact seen.setCar fun _ => holds
    · exact seen
  · exact seen

/-! ### Timers and silences of the quench unit -/

/-- A quench goes over into a drain under the same grant (R151). -/
theorem quenchTimerExpiry_tower (c : Car) (s : State) (law : TowerLaw s) : TowerLaw (quenchTimerExpiry c s) := by
  unfold quenchTimerExpiry
  dsimp only
  split_ifs with _ quenching
  · have drains := law.setCar (c := c) (k := { s.car c with
      state := .draining, quenchTimer := none, drainTimer := some s.qu.limits.drain }) fun _ => law c (.inl quenching)
    exact drains
  · exact law.setCar_same rfl
  · exact law

/-- A drained car held the grant: it gives it up and leaves the tower empty behind it (R152). -/
theorem drainTimerExpiry_tower (c : Car) (s : State) (law : TowerLaw s) : TowerLaw (drainTimerExpiry c s) := by
  have stopped : TowerLaw (s.setCar c { s.car c with drainTimer := none }) := law.setCar_same rfl
  unfold drainTimerExpiry
  dsimp only
  split_ifs with _ draining
  · have holds : (s.setCar c { s.car c with drainTimer := none }).qu.holder = some c :=
      stopped c (by rw [State.car_setCar_self]; exact .inr draining)
    rw [State.leaveTower, if_pos holds]
    exact (stopped.only_holder holds).releaseTower.seekBay.law
  · exact stopped
  · exact law

theorem dumpTimerExpiry_tower (c : Car) (s : State) (law : TowerLaw s) : TowerLaw (dumpTimerExpiry c s) := by
  unfold dumpTimerExpiry
  dsimp only
  split_ifs
  · exact law.faultCar c _
  · exact law.setCar_same rfl
  · exact law

theorem bayHoldTimerExpiry_tower (b : Nat) (s : State) (law : TowerLaw s) : TowerLaw (bayHoldTimerExpiry b s) := by
  unfold bayHoldTimerExpiry
  split_ifs
  · exact law.freeBay b
  · exact law

theorem travelTimerExpiry_tower (c : Car) (s : State) (law : TowerLaw s) : TowerLaw (travelTimerExpiry c s) := by
  unfold travelTimerExpiry
  dsimp only
  split_ifs
  · exact law.faultCar c _
  · exact law.setCar_same rfl
  · exact law

theorem carNodeSilence_tower (c : Car) (s : State) (law : TowerLaw s) : TowerLaw (carNodeSilence c s) := by
  unfold carNodeSilence
  split_ifs
  · exact law.faultCar c _
  · exact law

/-! ### The oven table and the schedule -/

theorem cokeMinuteExpiry_tower (s : State) (law : TowerLaw s) : TowerLaw (cokeMinuteExpiry s) := by
  unfold cokeMinuteExpiry
  split_ifs
  · exact (law.of_crew s.crew_stepMinute).evaluate
  · exact law

theorem slotCarry_tower (s : State) (law : TowerLaw s) : TowerLaw (slotCarry s) := by
  unfold slotCarry
  dsimp only
  split_ifs
  · exact law
  · exact TowerLaw.evaluate (law.of_qu (by simp))
  · exact law

/-! ### Requests -/

theorem pushNow_tower (n : Byte) (law : TowerLaw s) : TowerLaw (pushNow n s).state := by
  unfold pushNow
  dsimp only
  split
  · exact law
  · split
    · exact law
    · exact law.startPush _ _ _

theorem abortPush_tower (number : Half) (law : TowerLaw s) : TowerLaw (Machine.abortPush number s).state := by
  unfold Machine.abortPush
  split_ifs
  · exact law
  · split
    · exact law
    · split_ifs
      · exact law
      · exact law
      · exact law.abortPush _

theorem clearStall_tower (x : Byte) (law : TowerLaw s) : TowerLaw (clearStall x s).state := by
  unfold clearStall
  split_ifs
  · exact law
  · split
    · exact law
    · split
      · exact law
      · next r _ =>
        exact TowerLaw.releaseStalled (s := (s.setOven r.oven ((s.oven r.oven).unstall (x == 1) r.number)).issueAll
          [toOven r.oven (.cap r.oven false)]) law r

theorem carServiceIn_tower (x : Byte) (law : TowerLaw s) : TowerLaw (carServiceIn x s).state := by
  unfold carServiceIn
  split
  · exact law
  · split_ifs
    · exact law
    · exact law
    · exact (law.setCar_away (by simp)).evaluate

theorem TowerLaw.endReservation (law : TowerLaw s) (c : Car) : TowerLaw (s.endReservation c) := by
  have dropped : TowerLaw (s.setCar c { s.car c with reservedBay := none }) := law.setCar_same rfl
  unfold State.endReservation
  dsimp only
  split
  · exact law
  · split_ifs
    · exact dropped.fillBay _
    · exact dropped.freeBay _

/-- A FAULTED car is at the tower no more, so its recovery may give the grant up (R141). -/
theorem TowerLaw.recoverCar (law : TowerLaw s) {c : Car} (faulted : (s.car c).state = .faulted) : TowerLaw (s.recoverCar c) := by
  have left : TowerLaw (s.leaveTower c) := law.leaveTower (by simp [faulted])
  have emptied := left.setCar_same (c := c)
    (k := { (s.leaveTower c).car c with load := none, hotTimer := none, hotLate := false }) rfl
  have told := emptied.of_qu (State.raiseAll_qu _ (discardedNotice c ((s.leaveTower c).car c).load))
  have ended := told.endReservation c
  exact (ended.of_crew State.crew_clearStallClaim).setCar_away (by simp [CarRecord.retire])

theorem carServiceOut_tower (x : Byte) (law : TowerLaw s) : TowerLaw (carServiceOut x s).state := by
  unfold carServiceOut
  split
  · exact law
  · dsimp only
    split
    case h_2 => exact law.setCar_away (by simp)
    case h_3 faulted => exact law.recoverCar faulted
    all_goals exact law

theorem start_tower (law : TowerLaw s) : TowerLaw (start s).state := by
  unfold start
  split
  · exact law
  · refine law.of_crew ?_
    simp only [State.reply, State.enterRun, State.crew_evalMain, State.crew_evalValves]
    exact (State.inert_startDoors _).crew

theorem stop_tower (law : TowerLaw s) : TowerLaw (stop s).state := by
  unfold stop
  split_ifs
  · exact law
  · exact law
  · exact law.of_crew (by simp [State.reply, State.enterConfig])

/-! Requests of the oven table, of PR and of set-up write no car and no grant -/

theorem crew_chargeBegin (n : Byte) : (chargeBegin n s).state.crew = s.crew := by
  unfold chargeBegin
  dsimp only
  split <;> rfl

theorem crew_chargeEnd (n : Byte) : (chargeEnd n s).state.crew = s.crew := by
  unfold chargeEnd
  dsimp only
  split_ifs <;> rfl

theorem crew_ovenLoad (n p : Byte) (y m : Word) (k : Half) : (ovenLoad n p y m k s).state.crew = s.crew := by
  unfold ovenLoad
  dsimp only
  split_ifs
  · rfl
  · rfl
  · split <;> rfl

theorem crew_setValveManual (n : Byte) (x : Half) : (setValveManual n x s).state.crew = s.crew := by
  unfold setValveManual State.evalManual
  dsimp only
  split_ifs <;> rfl

theorem crew_releaseValve (n : Byte) : (releaseValve n s).state.crew = s.crew := by
  unfold releaseValve
  dsimp only
  split_ifs <;> rfl

theorem crew_setMain (a : Half) (b c d e : Byte) (f : Half) : (setMain a b c d e f s).state.crew = s.crew := by
  unfold setMain
  split
  · rfl
  · dsimp only [State.reply]
    unfold State.evalMainManual
    split_ifs <;> rfl

theorem crew_setBattery (n : Byte) : (setBattery n s).state.crew = s.crew := by
  unfold setBattery
  split_ifs <;> rfl

theorem ownerOf_tower (c : Instr) (s : State) (law : TowerLaw s) : TowerLaw (ownerOf c s).state := by
  cases c with
  | pushNow => exact pushNow_tower _ law
  | abortPush => exact abortPush_tower _ law
  | clearStall => exact clearStall_tower _ law
  | carServiceIn => exact carServiceIn_tower _ law
  | carServiceOut => exact carServiceOut_tower _ law
  | start => exact start_tower law
  | stop => exact stop_tower law
  | chargeBegin => exact law.of_crew (crew_chargeBegin _)
  | chargeEnd => exact law.of_crew (crew_chargeEnd _)
  | ovenLoad => exact law.of_crew (crew_ovenLoad _ _ _ _ _)
  | setValveManual => exact law.of_crew (crew_setValveManual _ _)
  | releaseValve => exact law.of_crew (crew_releaseValve _)
  | setMain => exact law.of_crew (crew_setMain _ _ _ _ _ _)
  | setBattery => exact law.of_crew (crew_setBattery _)
  | _ => exact law.inert (inert_ownerOf s trivial)

/-! ### The step -/

theorem towerLaw_linkFree : LinkFree TowerLaw where
  sl _ law := law.of_qu rfl
  due _ law := law.of_qu rfl
  pending _ law := law.of_qu rfl

section
variable {c : Instr} {f : State → State}

theorem TowerLaw.event (law : TowerLaw s) (keeps : ∀ s, (f s).crew = s.crew) (taken : s.event c f = .next t) : TowerLaw t :=
  towerLaw_linkFree.event (fun s law => law.of_crew (keeps s)) taken law

theorem TowerLaw.checked (law : TowerLaw s) (keeps : ∀ s, (f s).crew = s.crew) (taken : s.checked c f = .next t) : TowerLaw t :=
  towerLaw_linkFree.checked (fun s law => law.of_crew (keeps s)) taken law

/-- The level of S_RTS reaches a part held in reset too (R210), and reads no car. -/
theorem TowerLaw.sRts (law : TowerLaw s) (x : Bool) (keeps : ∀ s, (f s).crew = s.crew)
    (taken : (if s.pins.inReset then .next (s.withRts x) else s.event c f) = Host.Outcome.next t) : TowerLaw t := by
  split_ifs at taken
  · cases taken; exact law.of_qu rfl
  · exact law.event keeps taken

theorem towerLaw_takeReset (s : State) (b : Baud) (e : Bool) : TowerLaw (s.takeReset b e) := fun c tower => by
  cases c <;> exact tower.elim nofun nofun

theorem resetReleased_tower (b1 b0 low : Bool) (law : TowerLaw s) : TowerLaw (resetReleased b1 b0 low s) := by
  unfold resetReleased
  split_ifs
  · exact towerLaw_takeReset s _ _
  · exact law

theorem powerUp_tower (s : State) (high b1 b0 low : Bool) : TowerLaw (powerUp high b1 b0 low s) := by
  have fresh := towerLaw_takeReset s (baudOf b1 b0) low
  unfold powerUp
  dsimp only
  split_ifs
  · exact fresh
  · exact fresh.of_qu rfl

/-- Every command keeps the law of R150. -/
theorem exec_tower (taken : exec c s = .next t) (law : TowerLaw s) : TowerLaw t := by
  have request : hostRequest c (ownerOf c) s = .next t → TowerLaw t :=
    fun k => towerLaw_linkFree.hostRequest (ownerOf_tower c) k law
  cases c with
  | supFrameComplete => exact towerLaw_linkFree.checked (towerLaw_linkFree.supFrameComplete ownerOf_tower _ _) taken law
  | supervisoryByteReceived => exact towerLaw_linkFree.event (towerLaw_linkFree.supervisoryByteReceived ownerOf_tower _) taken law
  | supSilence => exact towerLaw_linkFree.event towerLaw_linkFree.supSilence taken law
  | replySent => exact towerLaw_linkFree.event (towerLaw_linkFree.replySent ownerOf_tower) taken law
  | noticeSent => exact towerLaw_linkFree.event towerLaw_linkFree.noticeSent taken law
  | sRtsAsserted => exact law.sRts (f := sRtsAsserted) true (fun _ => rfl) taken
  | sRtsDeasserted => exact law.sRts (f := sRtsDeasserted) false (fun _ => rfl) taken
  | fieldFrameReceived => exact law.checked (fun s => crew_fieldFrameReceived s _ _ _ _) taken
  | fieldByteReceived => exact law.event (fun s => crew_fieldByteReceived s _) taken
  | fieldLineIdle => exact law.event (fun s => (inert_fieldLineIdle s).crew) taken
  | fieldFrameSent => exact law.event (fun s => (inert_fieldFrameSent s).crew) taken
  | pusherReport => exact towerLaw_linkFree.checked (pusherReport_tower _) taken law
  | guideReport => exact towerLaw_linkFree.checked (guideReport_tower _) taken law
  | carReport => exact towerLaw_linkFree.checked (carReport_tower _ _) taken law
  | towerReport => exact towerLaw_linkFree.event (towerReport_tower _) taken law
  | mainReport => exact law.event (fun s => crew_mainReport s _) taken
  | ovenReport => exact law.checked (fun s => crew_ovenReport s _ _) taken
  | ovenSample => exact law.checked (fun s => crew_ovenSample s _ _) taken
  | stageConfirmation => exact towerLaw_linkFree.checked (stageConfirmation_tower _ _) taken law
  | batterySecond => exact law.event crew_batterySecond taken
  | slotCarry => exact towerLaw_linkFree.event slotCarry_tower taken law
  | cokeMinuteExpiry => exact towerLaw_linkFree.event cokeMinuteExpiry_tower taken law
  | chargeTimerExpiry => exact law.checked (fun s => (inert_chargeTimerExpiry s _).crew) taken
  | stageTimerExpiry => exact towerLaw_linkFree.event stageTimerExpiry_tower taken law
  | settleTimerExpiry => exact law.checked (fun s => crew_settleTimerExpiry s _ _) taken
  | doorOffTimerExpiry => exact law.checked (fun s => crew_doorOffTimerExpiry s _ _) taken
  | quenchTimerExpiry => exact towerLaw_linkFree.event (quenchTimerExpiry_tower _) taken law
  | drainTimerExpiry => exact towerLaw_linkFree.event (drainTimerExpiry_tower _) taken law
  | dumpTimerExpiry => exact towerLaw_linkFree.event (dumpTimerExpiry_tower _) taken law
  | bayHoldTimerExpiry => exact towerLaw_linkFree.checked (bayHoldTimerExpiry_tower _) taken law
  | travelTimerExpiry => exact towerLaw_linkFree.event (travelTimerExpiry_tower _) taken law
  | hotCokeTimerExpiry => exact law.event (fun s => (inert_hotCokeTimerExpiry s _).crew) taken
  | silenceWindowExpiry => exact law.event (fun s => crew_silenceWindowExpiry s _) taken
  | machineSilenceAtPu k => exact towerLaw_linkFree.event (f := machineSilenceAtPu k) (fun _ law => law.abortPush _) taken law
  | silenceAtSu => exact law.checked (fun s => (inert_silenceAtSu s _).crew) taken
  | carNodeSilence => exact towerLaw_linkFree.event (carNodeSilence_tower _) taken law
  | towerNodeSilence => exact law.event (f := towerNodeSilence) (fun _ => rfl) taken
  | mainNodeSilence => exact law.event crew_mainNodeSilence taken
  | ovenNodeSilence => exact law.event (fun s => crew_ovenNodeSilence s _) taken
  | ovenNodeReturn m => exact law.event (f := ovenNodeReturn m) (fun s => s.crew_evalValves _) taken
  | mainNodeReturn => exact law.event crew_mainNodeReturn taken
  | towerNodeReturn => exact law.event (f := towerNodeReturn) (fun s => s.crew_issueAll _) taken
  | estopAssertion => exact law.event (fun s => (inert_estopAssertion s).crew) taken
  | estopAtPu => exact towerLaw_linkFree.event (f := estopAtPu) (fun _ law => law.abortPush _) taken law
  | estopAtSu => exact law.event (f := estopAtSu) (fun s => s.crew_pauseSchedule 1 0) taken
  | estopAtQu => exact law.event (fun s => (inert_estopAtQu s).crew) taken
  | estopRelease => exact law.event (fun s => (inert_estopRelease s).crew) taken
  | estopReleaseAtQu => exact law.event (fun s => (inert_estopReleaseAtQu s).crew) taken
  | resetAsserted => cases taken; exact law.of_qu rfl
  | resetReleased => cases taken; exact resetReleased_tower _ _ _ law
  | powerUp => cases taken; exact powerUp_tower s _ _ _ _
  | _ => exact request taken

end

end

/-- Settles O9: what every command does to the cars at the tower and to the grant. -/
theorem everyStepKeepsTheTowerLaw : Obligations.EveryStepKeepsTheTowerLaw :=
  fun _ _ law h => towerLaw_linkFree.step exec_tower h law

end Sys2Proof.Machine

/-!
SUPPORT. PUSH_NOW: its checks (R58), the car that QU offers (R142), and the push it starts (R59).
-/

namespace Sys2Proof.Machine

/-! ### What stands after a request taken -/

/-- The state after a request taken is what its owner left, with the reply in SL. -/
theorem afterRequest_of_reply {s u : State} {c : Instr} {f : Frame} {owner : State → Answer} {fields : List Byte}
    (taken : owner (s.taking c f) = u.reply fields) :
    s.afterRequest c f owner = u.withSl (u.sl.answer (replyFrame f (u.reply fields))) := by
  rw [State.afterRequest, serve_eq, taken]
  rfl

/-- A refusal with its extra bytes is answered and changes nothing but SL (R188). -/
theorem afterRequest_refused {s : State} {c : Instr} {f : Frame} {owner : State → Answer} {x : Status} {extra : List Byte}
    (refused : owner (s.taking c f) = ⟨s.taking c f, x, extra⟩) :
    FrameOf c [.sl] s (s.afterRequest c f owner) ∧ Answered s (s.afterRequest c f owner) f x extra :=
  ⟨frameOf_serve c f owner s (by rw [refused]; exact Keeps.refl _ _) (by simp) (by simp), answered_of_sl refused rfl⟩

/-! ### The car offered (R142) -/

/-- The car QU offers is read off its zone. -/
theorem State.offerCar_eq {s : State} {n : Nat} {z : Zone} (zone : s.qu.zones[min 7 ((n - 1) >>> s.qu.zoneShift)]? = some z) :
    s.offerCar n = (if (s.car z.preferred).state = .parked then some z.preferred
      else match z.alternate with
        | some a => if (s.car a).state = .parked then some a else none
        | none => none) := by
  have found : s.qu.zones.getD (zoneOf s.qu.zoneShift n) ⟨.one, none⟩ = z := by
    rw [zoneOf, ← Nat.shiftRight_eq_div_pow, List.getD_eq_getElem?_getD, zone, Option.getD_some]
  cases alternate : z.alternate <;> simp only [State.offerCar, found, State.available, beq_iff_eq, alternate]

/-! ### The checks (R58) -/

section
variable {s : State} {n : Nat}

/-- The neighbours that fail the rule, told one by one. -/
theorem State.failing_eq (s : State) (n : Nat) : s.failing n =
    (if s.inRange (n - 1) = true ∧ s.braces (n - 1) = false then [n - 1] else []) ++
      (if s.inRange (n + 1) = true ∧ s.braces (n + 1) = false then [n + 1] else []) := by
  have one (m : Nat) : ([m].filter s.inRange).filter (fun m => !s.braces m) =
      if s.inRange m = true ∧ s.braces m = false then [m] else [] := by
    cases range : s.inRange m <;> cases braces : s.braces m <;> simp [range, braces]
  rw [← one, ← one, ← List.filter_append, ← List.filter_append]
  rfl

/-- The status PUSH_NOW is answered with, and its extra byte: R58's checks in order. -/
def State.pushStatus (s : State) (n : Nat) : Status × List Byte :=
  if ¬(s.bk.mode = .run ∧ s.su.mode = .manual) then (.wrongMode, [])
  else if ¬(1 ≤ n ∧ n ≤ s.ovenCount) then (.badOven, [])
  else if s.pu.push ≠ none ∨ s.pu.stall ≠ none then (.busy, [])
  else if s.pins.estop = true then (.busy, [])
  else if (s.oven n).phase ≠ .ready then (.wrongPhase, [0])
  else if s.inRange (n - 1) = true ∧ s.braces (n - 1) = false then (.wrongPhase, [byteOf (n - 1)])
  else if s.inRange (n + 1) = true ∧ s.braces (n + 1) = false then (.wrongPhase, [byteOf (n + 1)])
  else if s.live .pusher = false then (.nodeSilent, [1])
  else if s.live .guide = false then (.nodeSilent, [2])
  else if s.live (servingNode n) = false then (.nodeSilent, [byteOf (16 + (n - 1) / 8)])
  else if s.offerCar n = none then (.noCar, [])
  else (.ok, [])

/-- The first node of a push that is not live, in PUSH_NOW's order. -/
theorem State.silentNode_eq (high : n ≤ 96) :
    ([Node.pusher, Node.guide, servingNode n].find? (fun x => !s.live x)).map (fun x => (Status.nodeSilent, [byteOf x.id])) =
      if s.live .pusher = false then some (.nodeSilent, [1])
      else if s.live .guide = false then some (.nodeSilent, [2])
      else if s.live (servingNode n) = false then some (.nodeSilent, [byteOf (16 + (n - 1) / 8)])
      else none := by
  rw [← servingNode_id high]
  cases pusher : s.live .pusher with
  | false => simp [pusher, Node.id, byteOf]
  | true =>
    cases guide : s.live .guide with
    | false => simp [pusher, guide, Node.id, byteOf]
    | true => cases serving : s.live (servingNode n) <;> simp [pusher, guide, serving]

/-- The first failing check, the car's included. -/
theorem State.pushStatus_eq (shape : ShapeLaw s) (n : Nat) : s.pushStatus n =
    (s.pushRefusal n).getD (if s.offerCar n = none then (.noCar, []) else (.ok, [])) := by
  have running : (s.running && s.su.mode == .manual) = true ↔ s.bk.mode = .run ∧ s.su.mode = .manual := by
    simp [State.running]
  have range : s.inRange n = true ↔ 1 ≤ n ∧ n ≤ s.ovenCount := by simp [State.inRange]
  have pushing : s.pushing = true ↔ s.pu.push ≠ none ∨ s.pu.stall ≠ none := by
    simp [State.pushing, Option.isSome_iff_ne_none]
  have count : s.ovenCount ≤ 96 := shape.countHigh
  have split (p : Prop) [Decidable p] (a b : Option (Status × List Byte)) (d : Status × List Byte) :
      (if p then a else b).getD d = if p then a.getD d else b.getD d := apply_ite (Option.getD · d) p a b
  unfold State.pushRefusal State.pushStatus
  simp only [Bool.not_eq_true', ← Bool.not_eq_true, running, range, pushing]
  by_cases within : 1 ≤ n ∧ n ≤ s.ovenCount
  · by_cases lower : s.inRange (n - 1) = true ∧ ¬ s.braces (n - 1) = true
    · have failing := s.failing_eq n
      rw [if_pos (by simpa using lower)] at failing
      simp only [failing, List.cons_append, split, Option.getD_some, if_pos lower]
    · by_cases upper : s.inRange (n + 1) = true ∧ ¬ s.braces (n + 1) = true
      · have failing := s.failing_eq n
        rw [if_neg (by simpa using lower), if_pos (by simpa using upper)] at failing
        simp only [failing, List.nil_append, split, Option.getD_some, if_neg lower, if_pos upper]
      · have failing := s.failing_eq n
        rw [if_neg (by simpa using lower), if_neg (by simpa using upper)] at failing
        have silent := State.silentNode_eq (s := s) (within.2.trans count)
        simp only [← Bool.not_eq_true] at silent
        simp only [failing, List.append_nil, silent, split, Option.getD_some, Option.getD_none, if_neg lower, if_neg upper]
  · simp only [if_pos within, split, Option.getD_some]

theorem pushNow_of_refused {n : Byte} {x : Status × List Byte} (shape : ShapeLaw s) (status : x = s.pushStatus n.toNat)
    (refused : x.1 ≠ .ok) : pushNow n s = ⟨s, x.1, x.2⟩ := by
  rw [State.pushStatus_eq shape] at status
  unfold pushNow
  dsimp only
  cases refusal : s.pushRefusal n.toNat with
  | some y =>
    rw [refusal, Option.getD_some] at status
    simp only [status]
  | none =>
    rw [refusal, Option.getD_none] at status
    cases offer : s.offerCar n.toNat with
    | none =>
      rw [if_pos offer] at status
      simp only [status, State.refuse]
    | some c =>
      rw [if_neg (by simp [offer])] at status
      exact absurd (congrArg Prod.fst status) refused

theorem pushNow_of_offer {n : Byte} {c : Car} (refusal : s.pushRefusal n.toNat = none) (offer : s.offerCar n.toNat = some c) :
    pushNow n s = (s.startPush n.toNat .manual c).reply (halfBytes (s.pu.counter + 1) ++ [n, byteOf c.code]) := by
  simp only [pushNow, refusal, offer]

/-- An oven whose every condition of R58 holds is not refused. -/
theorem State.pushRefusal_of_ready (run : s.bk.mode = .run) (manual : s.su.mode = .manual) (low : 1 ≤ n)
    (high : n ≤ s.ovenCount) (push : s.pu.push = none) (stall : s.pu.stall = none) (estop : s.pins.estop = false)
    (ready : (s.oven n).phase = .ready) (braced : s.braced n = true) (pusher : s.live .pusher = true)
    (guide : s.live .guide = true) (serving : s.live (servingNode n) = true) : s.pushRefusal n = none := by
  have failing : s.failing n = [] := by simpa [State.braced] using braced
  simp [State.pushRefusal, State.running, State.inRange, State.pushing, run, manual, low, high, push, stall, estop, ready, failing,
    pusher, guide, serving]

/-- What SL holds after a push start: its notice alone, while the queue has room for the commands. -/
theorem State.startPush_sl {o : Origin} {c : Car} (turn : s.pushTurn n o c = ((s.oven n).valve, [])) (field : s.FieldRoom 3) :
    (s.startPush n o c).sl = (s.raise (.pushStarted (s.pu.counter + 1) n o c)).sl := by
  have few : (s.startCommands n o c).length ≤ 3 := by
    have moves := s.moveCommands_length c (.oven n) (s.car c).travelTimer
    simp only [State.startCommands, turn, List.nil_append, List.length_append, toBoth, List.length_cons, List.length_nil]
    omega
  have room : (s.pushWritten n o c).FieldRoom (s.startCommands n o c).length := Nat.le_trans (Nat.add_le_add_left few _) field
  obtain ⟨_, sl⟩ := State.issueAll_of_room _ _ room
  rw [State.startPush_eq]
  exact State.raise_sl_congr _ (sl.trans State.pushWritten_sl) ((State.issueAll_bk _ _).trans State.pushWritten_bk)

/-- The state PU judges PUSH_NOW on. -/
def State.askedPush (s : State) (tag n : Byte) : State := s.taking (.pushNow tag n) ⟨0x30, tag, [n]⟩

end

/-- Settles O34: the checks by `pushStatus_eq`, the offer by its zone, and the push taken as R59 starts it. -/
theorem pushNowChecksAndStarts : Obligations.PushNowChecksAndStarts := by
  have takes {s : State} {tag n : Byte} (free : s.Free) (ht : tag ≠ 0) : exec (.pushNow tag n) s =
      .next (s.afterRequest (.pushNow tag n) ⟨0x30, tag, [n]⟩ (pushNow n)) := exec_of_free rfl rfl rfl free ht
  refine ⟨fun s tag n shape free ht x hx refused => ?refused, fun s n _ _ _ z zone => State.offerCar_eq zone,
    fun s tag n c shape free ht run manual low high push stall estop ready braced pusher guide serving offer field notice mode =>
      ?taken⟩
  case refused =>
    have shape' : ShapeLaw (s.askedPush tag n) := { shape with }
    obtain ⟨frame, answered⟩ := afterRequest_refused (pushNow_of_refused shape' hx refused)
    exact ⟨_, takes free ht, frame, answered⟩
  case taken =>
    have place : n.toNat - 1 < s.ovens.length := by
      have size := shape.ovens
      have count := shape.countHigh
      omega
    have answer := pushNow_of_offer (s := s.askedPush tag n)
      (State.pushRefusal_of_ready run manual low high push stall estop ready braced pusher guide serving) offer
    obtain ⟨keeps, pu, ovens, su, qu, issued, -⟩ := State.startPush_acts (s := s.askedPush tag n) (o := .manual) (c := c)
      place ready push estop mode field notice rfl
    have turn := State.pushTurn_of_mode (s := s.askedPush tag n) (o := .manual) (c := c) place ready push mode
    have sl := State.startPush_sl turn field
    have raised := State.raiseAll_noticed [.pushStarted (s.pu.counter + 1) n.toNat .manual c] (s.askedPush tag n) rfl notice
    have service : ((s.askedPush tag n).startPush n.toNat .manual c).sl.inService = some ⟨0x30, tag, [n]⟩ := by
      rw [sl]
      exact SupLink.raise_inService _ _ _
    have replied := replied_serve (.pushNow tag n) ⟨0x30, tag, [n]⟩ (pushNow n) s (by
      rw [show pushNow n (s.taking _ _) = _ from answer]
      exact service)
    rw [show pushNow n (s.taking _ _) = _ from answer] at replied
    refine ⟨_, takes free ht, frameOf_serve _ _ _ s ?_ (by simp) (by simp), ?_⟩
    · rw [show pushNow n (s.taking _ _) = _ from answer]
      exact keeps
    have same := afterRequest_of_reply (s := s) (c := .pushNow tag n) (f := ⟨0x30, tag, [n]⟩) answer
    refine ⟨?_, ?_, ?_, ?_, ?_, ?_, replied⟩ <;> rw [same]
    · exact (State.withSl_pu _ _).trans pu
    · exact (State.withSl_ovens _ _).trans ovens
    · exact (State.withSl_su _ _).trans su
    · exact (State.withSl_qu _ _).trans qu
    · exact issued
    · rw [Noticed, State.withSl_sl, SupLink.answer_eq, sl]
      exact raised

end Sys2Proof.Machine

/-!
SUPPORT. ESTOP# at the pins and at QU (R161, R162, R218): the level and what it brings about, and the moves halted and resumed.
-/

namespace Sys2Proof.Machine

/-! ### The level (R218) -/

/-- A new level of ESTOP# is written, and brings its events about. -/
theorem keeps_withEstop (s : State) (i : Instr) (x : Bool) (cs : List Instr) :
    Keeps [.pins, .due] s (((s.passed i).withEstop x).bring cs) := by
  intro b hb
  cases b with
  | pins | due => simp at hb
  | _ => rfl

section
variable {n : Nat} {s t : State} {d : Deed}

/-! ### Moves halted (R161) -/

/-- A car record written as it stands writes nothing. -/
theorem State.setCar_car (s : State) (c : Car) : s.setCar c (s.car c) = s := by cases c <;> rfl

/-- HALT, for a car whose travel timer runs (R161). -/
def haltCommands (c : Car) (r : CarRecord) : List Outgoing := if r.travelTimer ≠ none then [⟨.car c, .halt⟩] else []

theorem haltCommands_length (c : Car) (r : CarRecord) : (haltCommands c r).length ≤ 1 := by
  unfold haltCommands
  split_ifs <;> simp

/-- A car halted: its timer stopped, target and state kept; one whose timer does not run is left. -/
theorem State.haltCar_eq (s : State) (c : Car) :
    s.haltCar c = (s.setCar c { s.car c with travelTimer := none }).issueAll (haltCommands c (s.car c)) := by
  unfold State.haltCar haltCommands
  cases timer : (s.car c).travelTimer with
  | some k => simp [State.issue]
  | none =>
    have same : { s.car c with travelTimer := none } = s.car c := by rw [← timer]
    rw [same, s.setCar_car]
    simp

theorem Does.haltCar (h : Does n s t d) (c : Car) : Does n s (t.haltCar c) (Deed.issue
    { d with qu := d.qu.setCar c { d.qu.car c with travelTimer := none } } (haltCommands c (d.qu.car c))) := by
  rw [State.haltCar_eq, h.car]
  exact (h.setCar c _).issueAll _

/-! ### Moves resumed (R162) -/

/-- MOVE, for a car with a target (R162). -/
def resumeCommands (c : Car) (r : CarRecord) : List Outgoing :=
  match r.target with
  | some l => [⟨.car c, .move l⟩]
  | none => []

theorem resumeCommands_length (c : Car) (r : CarRecord) : (resumeCommands c r).length ≤ 1 := by
  unfold resumeCommands
  split <;> simp

/-- The record of a car resumed: with a target, its timer afresh. -/
def CarRecord.resumed (r : CarRecord) (travel : Nat) : CarRecord :=
  if r.target = none then r else { r with travelTimer := some travel }

theorem State.resumeCar_eq (s : State) (c : Car) :
    s.resumeCar c = (s.setCar c ((s.car c).resumed s.qu.limits.travel)).issueAll (resumeCommands c (s.car c)) := by
  unfold State.resumeCar CarRecord.resumed resumeCommands
  cases target : (s.car c).target with
  | some l => simp [State.issue, target]
  | none => simp [s.setCar_car]

theorem Does.resumeCar (h : Does n s t d) (c : Car) : Does n s (t.resumeCar c) (Deed.issue
    { d with qu := d.qu.setCar c ((d.qu.car c).resumed d.qu.limits.travel) } (resumeCommands c (d.qu.car c))) := by
  rw [State.resumeCar_eq, h.car, h.qu]
  exact (h.setCar c _).issueAll _

/-- A deed that writes the two cars and sends each at most one command. -/
theorem Does.twoCars {i : Instr} {r1 r2 : CarRecord} {cs1 cs2 : List Outgoing}
    (h : Does 1 (s.passed i) t { (s.passed i).idle 1 with
      qu := (s.qu.setCar .one r1).setCar .two r2, commands := cs1 ++ cs2 })
    (few1 : cs1.length ≤ 1) (few2 : cs2.length ≤ 1) (room : s.FieldRoom 2) :
    FrameOf i [.qu, .fl] s t ∧ t.car .one = r1 ∧ t.car .two = r2 ∧
      t.qu = { s.qu with car1 := t.qu.car1, car2 := t.qu.car2 } ∧ Issued s t (cs1 ++ cs2) := by
  have field : (s.passed i).FieldRoom (cs1 ++ cs2).length := room.of_le (by rw [List.length_append]; omega)
  refine ⟨h.frameOf (.inr rfl) (.inr rfl) (.inr rfl) (.inl (by simp)) (by simp) (.inr (h.sl_of_quiet field rfl)), ?_, ?_, ?_,
    h.issued field⟩
  · rw [h.car]; rfl
  · rw [h.car]; rfl
  · rw [h.qu]; rfl

end

/-- Settles O52: the level with what it brings about, and the deeds of the two cars at QU. -/
theorem estopIsDeliveredAndActsOnCars : Obligations.EstopIsDeliveredAndActsOnCars := by
  refine ⟨fun s run => ⟨fun level => ?asserted, fun level => ?stays, fun level => ?released, fun level => ?idle⟩,
    fun s run room => ⟨?halts, ?resumes⟩⟩
  case asserted =>
    have step : estopAssertion (s.passed .estopAssertion) =
        ((s.passed .estopAssertion).withEstop true).bring [.estopAtPu, .estopAtSu, .estopAtQu] :=
      if_neg (by simp [State.passed, level])
    refine ⟨_, s.event_of_run .estopAssertion estopAssertion run, ?_⟩
    rw [← State.passed, step]
    exact ⟨keeps_withEstop _ _ _ _, rfl, rfl⟩
  case stays =>
    exact (s.event_of_run .estopAssertion estopAssertion run).trans (congrArg _ (if_pos (by exact level)))
  case released =>
    have step : estopRelease (s.passed .estopRelease) =
        ((s.passed .estopRelease).withEstop false).bring [.estopReleaseAtQu] := if_pos (by exact level)
    refine ⟨_, s.event_of_run .estopRelease estopRelease run, ?_⟩
    rw [← State.passed, step]
    exact ⟨keeps_withEstop _ _ _ _, rfl, rfl⟩
  case idle =>
    exact (s.event_of_run .estopRelease estopRelease run).trans (congrArg _ (if_neg (by simp [level])))
  case halts =>
    have done := (((s.passed .estopAtQu).does_idle 1).haltCar .one).haltCar .two
    obtain ⟨frame, one, two, qu, issued⟩ :=
      Does.twoCars (i := .estopAtQu) done (haltCommands_length _ _) (haltCommands_length _ _) room
    refine ⟨_, s.event_of_run .estopAtQu estopAtQu run, frame, fun c => ?_, qu, ?_⟩
    · cases c
      · exact one
      · exact two
    · rw [allCars, List.flatMap_cons, List.flatMap_singleton]
      exact issued
  case resumes =>
    have done := (((s.passed .estopReleaseAtQu).does_idle 1).resumeCar .one).resumeCar .two
    obtain ⟨frame, one, two, qu, issued⟩ :=
      Does.twoCars (i := .estopReleaseAtQu) done (resumeCommands_length _ _) (resumeCommands_length _ _) room
    refine ⟨_, s.event_of_run .estopReleaseAtQu estopReleaseAtQu run, frame, fun c => ?_, qu, ?_⟩
    · cases c
      · exact one
      · exact two
    · rw [allCars, List.flatMap_cons, List.flatMap_singleton]
      exact issued

end Sys2Proof.Machine

/-!
SUPPORT. The tower and the bays handed on as deeds (R150, R152, R156): what QU is left with, and the commands.
-/

namespace Sys2Proof.Machine

/-! ### What a hand-over makes of QU -/

theorem QuenchUnit.setCar_comm (q : QuenchUnit) {c d : Car} (other : c ≠ d) (k j : CarRecord) :
    (q.setCar c k).setCar d j = (q.setCar d j).setCar c k := by
  match c, d with
  | .one, .two | .two, .one => rfl
  | .one, .one | .two, .two => exact absurd rfl other

/-- The grant released and handed on to the first waiter, which moves to TOWER (R150). -/
def State.handTower (s : State) (q : QuenchUnit) : QuenchUnit × List Outgoing :=
  match q.waiters with
  | [] => ({ q with holder := none }, [])
  | w :: rest => (({ q with holder := some w, waiters := rest } : QuenchUnit).setCar w
      { q.car w with state := .toTower, target := some .tower, travelTimer := s.moveTimer },
    s.moveCommands w .tower (q.car w).travelTimer)

/-- Bay b reserved for car c, which moves to it (R152, R156). -/
def State.giveBay (s : State) (b : Nat) (c : Car) (q : QuenchUnit) : QuenchUnit :=
  (q.setBay b ⟨.reserved, some c, none⟩).setCar c
    { q.car c with state := .toWharf, reservedBay := some b, target := some (.bay b), travelTimer := s.moveTimer }

/-- Bay b freed and handed on to the first car of the bay waiting list (R156). -/
def State.handBay (s : State) (b : Nat) (q : QuenchUnit) : QuenchUnit × List Outgoing :=
  match q.bayWaiters with
  | [] => (q.setBay b ⟨.free, none, none⟩, [])
  | w :: rest => (s.giveBay b w { q with bayWaiters := rest }, s.moveCommands w (.bay b) (q.car w).travelTimer)

section
variable {n b : Nat} {s t : State} {d : Deed} {c : Car} {q : QuenchUnit} {k : CarRecord}

@[simp] theorem State.handTower_limits : (s.handTower q).1.limits = q.limits := by
  unfold State.handTower
  split <;> simp

@[simp] theorem State.handTower_bays : (s.handTower q).1.bays = q.bays := by
  unfold State.handTower
  split <;> simp

@[simp] theorem State.handTower_bayWaiters : (s.handTower q).1.bayWaiters = q.bayWaiters := by
  unfold State.handTower
  split <;> simp

theorem State.handTower_of_nil (list : q.waiters = []) : s.handTower q = ({ q with holder := none }, []) := by
  simp only [State.handTower, list]

theorem State.handTower_of_cons {w : Car} {rest : List Car} (list : q.waiters = w :: rest) : s.handTower q =
    (({ q with holder := some w, waiters := rest } : QuenchUnit).setCar w
      { q.car w with state := .toTower, target := some .tower, travelTimer := s.moveTimer },
    s.moveCommands w .tower (q.car w).travelTimer) := by
  simp only [State.handTower, list]

theorem State.handBay_of_nil (list : q.bayWaiters = []) : s.handBay b q = (q.setBay b ⟨.free, none, none⟩, []) := by
  simp only [State.handBay, list]

theorem State.handBay_of_cons {w : Car} {rest : List Car} (list : q.bayWaiters = w :: rest) : s.handBay b q =
    (s.giveBay b w { q with bayWaiters := rest }, s.moveCommands w (.bay b) (q.car w).travelTimer) := by
  simp only [State.handBay, list]

theorem State.handTower_length : (s.handTower q).2.length ≤ 1 := by
  cases list : q.waiters with
  | nil => simp [State.handTower_of_nil list]
  | cons w rest =>
    rw [State.handTower_of_cons list]
    exact s.moveCommands_length _ _ _

theorem State.handBay_length : (s.handBay b q).2.length ≤ 1 := by
  cases list : q.bayWaiters with
  | nil => simp [State.handBay_of_nil list]
  | cons w rest =>
    rw [State.handBay_of_cons list]
    exact s.moveCommands_length _ _ _

/-- A car that does not wait keeps its record through the hand-over of the tower. -/
theorem State.handTower_car (out : c ∉ q.waiters) : (s.handTower q).1.car c = q.car c := by
  unfold State.handTower
  split
  · cases c <;> rfl
  · next w rest list =>
    have other : c ≠ w := fun same => out (by rw [list, same]; exact .head _)
    rw [QuenchUnit.car_setCar_ne _ _ _ _ other]
    cases c <;> rfl

/-- The record of a car that does not wait may be written before the hand-over or after it. -/
theorem State.handTower_setCar (out : c ∉ q.waiters) :
    s.handTower (q.setCar c k) = ((s.handTower q).1.setCar c k, (s.handTower q).2) := by
  unfold State.handTower
  rw [QuenchUnit.setCar_waiters]
  split
  · cases c <;> rfl
  · next w rest list =>
    have other : c ≠ w := fun same => out (by rw [list, same]; exact .head _)
    have lists (r : QuenchUnit) (h : Option Car) (ws : List Car) :
        ({ r.setCar c k with holder := h, waiters := ws } : QuenchUnit) =
          ({ r with holder := h, waiters := ws } : QuenchUnit).setCar c k := by
      cases c <;> rfl
    rw [lists, QuenchUnit.car_setCar_ne _ _ _ _ other.symm, QuenchUnit.setCar_comm _ other]

theorem State.handBay_setCar (out : c ∉ q.bayWaiters) :
    s.handBay b (q.setCar c k) = ((s.handBay b q).1.setCar c k, (s.handBay b q).2) := by
  unfold State.handBay
  rw [QuenchUnit.setCar_bayWaiters]
  split
  · cases c <;> rfl
  · next w rest list =>
    have other : c ≠ w := fun same => out (by rw [list, same]; exact .head _)
    have lists (r : QuenchUnit) (ws : List Car) :
        ({ r.setCar c k with bayWaiters := ws } : QuenchUnit) = ({ r with bayWaiters := ws } : QuenchUnit).setCar c k := by
      cases c <;> rfl
    rw [lists, QuenchUnit.car_setCar_ne _ _ _ _ other.symm, State.giveBay, State.giveBay, ← QuenchUnit.setBay_setCar,
      QuenchUnit.car_setCar_ne _ _ _ _ other.symm, QuenchUnit.setCar_comm _ other]

/-! ### As deeds -/

theorem Does.releaseTower (h : Does n s t d) (limits : d.qu.limits = s.qu.limits) :
    Does n s t.releaseTower (Deed.issue { d with qu := (s.handTower d.qu).1 } (s.handTower d.qu).2) := by
  have qu := h.qu
  cases list : d.qu.waiters with
  | nil =>
    have released := (h.withQu { d.qu with holder := none, waiters := [] }).issueAll []
    simp only [State.releaseTower, State.handTower, qu, list]
    exact released
  | cons w rest =>
    have granted := h.withQu { d.qu with holder := some w, waiters := rest }
    have moved := granted.moveCar limits w .tower { d.qu.car w with state := .toTower }
    simp only [State.releaseTower, State.handTower, qu, list]
    exact moved

theorem Does.leaveTower_of_holder (h : Does n s t d) (limits : d.qu.limits = s.qu.limits) (holder : d.qu.holder = some c) :
    Does n s (t.leaveTower c) (Deed.issue { d with qu := (s.handTower d.qu).1 } (s.handTower d.qu).2) := by
  rw [State.leaveTower, h.qu, if_pos holder]
  exact h.releaseTower limits

theorem Does.reserveBay (h : Does n s t d) (limits : d.qu.limits = s.qu.limits) (b : Nat) (c : Car) :
    Does n s (t.reserveBay b c) (Deed.issue { d with qu := s.giveBay b c d.qu }
      (s.moveCommands c (.bay b) (d.qu.car c).travelTimer)) := by
  unfold State.reserveBay State.giveBay
  rw [h.qu, h.car]
  exact (h.withQu (d.qu.setBay b ⟨.reserved, some c, none⟩)).moveCar limits c (.bay b)
    { d.qu.car c with state := .toWharf, reservedBay := some b }

theorem Does.freeBay (h : Does n s t d) (limits : d.qu.limits = s.qu.limits) (b : Nat) :
    Does n s (t.freeBay b) (Deed.issue { d with qu := (s.handBay b d.qu).1 } (s.handBay b d.qu).2) := by
  have qu := h.qu
  cases list : d.qu.bayWaiters with
  | nil =>
    have freed := (h.withQu (d.qu.setBay b ⟨.free, none, none⟩)).issueAll []
    simp only [State.freeBay, State.handBay, qu, list]
    exact freed
  | cons w rest =>
    have reserved := (h.withQu { d.qu with bayWaiters := rest }).reserveBay limits b w
    simp only [State.freeBay, State.handBay, qu, list]
    exact reserved

end

end Sys2Proof.Machine

/-!
SUPPORT. The quench, the drain and the bays handed on (R149 to R152, R156, R158).
-/

namespace Sys2Proof.Machine

section
variable {n b : Nat} {s t : State} {d : Deed} {c : Car} {i : Instr} {q : QuenchUnit} {k : CarRecord}

/-! ### A deed of QU alone -/

/-- What an event that only QU acts on leaves, with the commands of it. -/
theorem Does.quOnly {cs : List Outgoing} (h : Does 1 (s.passed i) t { (s.passed i).idle 1 with qu := q, commands := cs })
    (room : s.FieldRoom cs.length) : FrameOf i [.qu, .fl] s t ∧ t.qu = q ∧ Issued s t cs :=
  ⟨h.frameOf (.inr rfl) (.inr rfl) (.inr rfl) (.inl (by simp)) (by simp) (.inr (h.sl_of_quiet room rfl)), h.qu, h.issued room⟩

/-- The frame of an event that writes QU and raises notices. -/
theorem frameOf_raiseAll (s : State) (i : Instr) (q : QuenchUnit) (bs : List NoticeBody) :
    FrameOf i [.qu, .sl] s (((s.passed i).withQu q).raiseAll bs) := by
  refine ⟨fun b hb => ?_, rfl⟩
  cases b with
  | qu | sl | due => simp at hb
  | _ => rfl

theorem lateNotice_length (c : Car) (l : Option Load) : (lateNotice c l).length ≤ 1 := by
  cases l <;> simp [lateNotice]

/-! ### The lowest-numbered FREE bay (R152) -/

theorem QuenchUnit.firstFree_of_bays {q p : QuenchUnit} (bays : q.bays = p.bays) : q.firstFree = p.firstFree := by
  unfold QuenchUnit.firstFree QuenchUnit.bay
  rw [bays]

theorem QuenchUnit.firstFree_eq_some (low : 0 < b) (high : b < 5) (free : (q.bay b).state = .free)
    (first : ∀ a < b, 0 < a → (q.bay a).state ≠ .free) : q.firstFree = some b := by
  have within : b = 1 ∨ b = 2 ∨ b = 3 ∨ b = 4 := by omega
  rcases within with rfl | rfl | rfl | rfl
  · simp [QuenchUnit.firstFree, allBays, free]
  · simp [QuenchUnit.firstFree, allBays, free, first 1]
  · simp [QuenchUnit.firstFree, allBays, free, first 1, first 2]
  · simp [QuenchUnit.firstFree, allBays, free, first 1, first 2, first 3]

theorem QuenchUnit.firstFree_eq_none (taken : ∀ b < 5, 0 < b → (q.bay b).state ≠ .free) : q.firstFree = none := by
  rw [QuenchUnit.firstFree, List.find?_eq_none]
  intro b mem
  have within : b < 5 ∧ 0 < b := by
    simp only [allBays, List.mem_cons, List.not_mem_nil, or_false] at mem
    omega
  simpa using taken b within.1 within.2

/-! ### A drained car's way to the wharf (R152) -/

/-- Bay b given to a car whose record was just written. -/
theorem State.giveBay_setCar : s.giveBay b c (q.setCar c k) = (q.setBay b ⟨.reserved, some c, none⟩).setCar c
    { k with state := .toWharf, reservedBay := some b, target := some (.bay b), travelTimer := s.moveTimer } := by
  rw [State.giveBay, QuenchUnit.car_setCar_self, ← QuenchUnit.setBay_setCar, QuenchUnit.setCar_setCar]

/-- A drained car sent to the lowest-numbered FREE bay, else to wait at the wharf approach (R152). -/
def State.seek (s : State) (c : Car) (q : QuenchUnit) : QuenchUnit × List Outgoing :=
  match q.firstFree with
  | some b => (s.giveBay b c q, s.moveCommands c (.bay b) (q.car c).travelTimer)
  | none => (({ q with bayWaiters := q.bayWaiters ++ [c] } : QuenchUnit).setCar c
      { q.car c with state := .waitingBay, target := some .approachW, travelTimer := s.moveTimer },
    s.moveCommands c .approachW (q.car c).travelTimer)

theorem State.seek_length : (s.seek c q).2.length ≤ 1 := by
  unfold State.seek
  split <;> exact s.moveCommands_length _ _ _

theorem State.seek_of_free (first : q.firstFree = some b) :
    s.seek c q = (s.giveBay b c q, s.moveCommands c (.bay b) (q.car c).travelTimer) := by
  simp only [State.seek, first]

theorem State.seek_of_full (full : q.firstFree = none) : s.seek c q =
    (({ q with bayWaiters := q.bayWaiters ++ [c] } : QuenchUnit).setCar c
      { q.car c with state := .waitingBay, target := some .approachW, travelTimer := s.moveTimer },
    s.moveCommands c .approachW (q.car c).travelTimer) := by
  simp only [State.seek, full]

theorem Does.seekBay (h : Does n s t d) (limits : d.qu.limits = s.qu.limits) :
    Does n s (t.seekBay c) (Deed.issue { d with qu := (s.seek c d.qu).1 } (s.seek c d.qu).2) := by
  have qu := h.qu
  have car := h.car c
  cases first : d.qu.firstFree with
  | some b =>
    have reserved := h.reserveBay limits b c
    simp only [State.seekBay, qu, State.seek_of_free first, first]
    exact reserved
  | none =>
    have moved := (h.withQu { d.qu with bayWaiters := d.qu.bayWaiters ++ [c] }).moveCar limits c .approachW
      { d.qu.car c with state := .waitingBay }
    simp only [State.seekBay, qu, car, State.seek_of_full first, first]
    exact moved

/-- What the drain's end leaves of QU before the car's own way on: the grant handed on, the drain timer stopped. -/
def State.drained (s : State) (c : Car) : QuenchUnit := (s.handTower s.qu).1.setCar c { s.car c with drainTimer := none }

@[simp] theorem State.drained_car : (s.drained c).car c = { s.car c with drainTimer := none } :=
  QuenchUnit.car_setCar_self _ _ _

theorem State.drained_bayWaiters : (s.drained c).bayWaiters = s.qu.bayWaiters :=
  (QuenchUnit.setCar_bayWaiters _ _ _).trans State.handTower_bayWaiters

theorem State.drained_firstFree : (s.drained c).firstFree = s.qu.firstFree :=
  QuenchUnit.firstFree_of_bays ((QuenchUnit.setCar_bays _ _ _).trans State.handTower_bays)

/-- The drained car given bay b. -/
theorem State.seek_drained_of_free (first : s.qu.firstFree = some b) : s.seek c (s.drained c) =
    (((s.handTower s.qu).1.setBay b ⟨.reserved, some c, none⟩).setCar c { s.car c with
      state := .toWharf, drainTimer := none, reservedBay := some b, target := some (.bay b), travelTimer := s.moveTimer },
    s.moveCommands c (.bay b) (s.car c).travelTimer) := by
  rw [State.seek_of_free (State.drained_firstFree.trans first), State.drained_car, State.drained, State.giveBay_setCar]

/-- The drained car sent to wait at the wharf approach. -/
theorem State.seek_drained_of_full (full : s.qu.firstFree = none) : s.seek c (s.drained c) =
    (({ (s.handTower s.qu).1 with bayWaiters := s.qu.bayWaiters ++ [c] } : QuenchUnit).setCar c { s.car c with
      state := .waitingBay, drainTimer := none, target := some .approachW, travelTimer := s.moveTimer },
    s.moveCommands c .approachW (s.car c).travelTimer) := by
  have lists (q : QuenchUnit) (ws : List Car) (k j : CarRecord) :
      ({ q.setCar c k with bayWaiters := ws } : QuenchUnit).setCar c j = ({ q with bayWaiters := ws } : QuenchUnit).setCar c j := by
    cases c <;> rfl
  rw [State.seek_of_full (State.drained_firstFree.trans full), State.drained_car, State.drained_bayWaiters, State.drained, lists]

theorem Does.drainEnds (holder : s.qu.holder = some c) (out : c ∉ s.qu.waiters) :
    Does 1 s ((s.setCar c { s.car c with drainTimer := none }).leaveTower c)
      { s.idle 1 with qu := s.drained c, commands := (s.handTower s.qu).2 } := by
  have left : Does 1 s ((s.setCar c { s.car c with drainTimer := none }).leaveTower c) (Deed.issue
      { s.idle 1 with qu := (s.handTower (s.qu.setCar c { s.car c with drainTimer := none })).1 }
      (s.handTower (s.qu.setCar c { s.car c with drainTimer := none })).2) :=
    ((s.does_idle 1).setCar c _).leaveTower_of_holder (QuenchUnit.setCar_limits _ _ _)
      ((QuenchUnit.setCar_holder _ _ _).trans holder)
  rw [State.handTower_setCar out] at left
  exact left

/-! ### The timers that run out -/

theorem State.freeBay_of_nil (list : s.qu.bayWaiters = []) : s.freeBay b = s.withQu (s.qu.setBay b ⟨.free, none, none⟩) := by
  simp only [State.freeBay, list]

theorem quenchTimerExpiry_of_quenching (run : s.bk.mode = .run) (timer : (s.car c).quenchTimer = some 0)
    (state : (s.car c).state = .quenching) : quenchTimerExpiry c s = (s.setCar c { s.car c with
      state := .draining, quenchTimer := none, drainTimer := some s.qu.limits.drain }).issueAll [⟨.tower, .spray false⟩] := by
  simp [quenchTimerExpiry, State.running, State.issue, ranOut, run, timer, state]

theorem drainTimerExpiry_of_draining (run : s.bk.mode = .run) (timer : (s.car c).drainTimer = some 0)
    (state : (s.car c).state = .draining) : drainTimerExpiry c s =
      ((s.setCar c { s.car c with drainTimer := none }).leaveTower c).seekBay c := by
  simp [drainTimerExpiry, State.running, ranOut, run, timer, state]

theorem hotCokeTimerExpiry_of_late (run : s.bk.mode = .run) (timer : (s.car c).hotTimer = some 0) : hotCokeTimerExpiry c s =
    (s.setCar c { s.car c with hotTimer := none, hotLate := true }).raiseAll (lateNotice c (s.car c).load) := by
  simp [hotCokeTimerExpiry, State.running, ranOut, run, timer]

theorem bayHoldTimerExpiry_of_held (run : s.bk.mode = .run) (timer : (s.qu.bay b).holdTimer = some 0) :
    bayHoldTimerExpiry b s = s.freeBay b := by
  simp [bayHoldTimerExpiry, State.running, ranOut, run, timer]

theorem bayHoldTimerExpiry_of_passed (passes : s.bk.mode = .config ∨ (s.qu.bay b).holdTimer ≠ some 0) :
    bayHoldTimerExpiry b s = s := by
  rcases passes with mode | timer
  · simp [bayHoldTimerExpiry, State.running, mode]
  · simp [bayHoldTimerExpiry, ranOut, timer]

end

/-! ### The tower's reports (R151) -/

section
variable {s : State} {c : Car} {x : TowerReport}

/-- What QU records of a tower report. -/
def QuenchUnit.told (q : QuenchUnit) (x : TowerReport) : QuenchUnit :=
  { q with sprayReported := x.spray, carInTower := x.carInTower }

theorem State.awaitsSpray_iff : s.awaitsSpray c = true ↔
    s.qu.holder = some c ∧ (s.car c).state = .toTower ∧ (s.car c).target = none := by
  simp [State.awaitsSpray, and_assoc]

theorem towerReport_eq_told (car : x.carInTower = some c) : towerReport x s =
    if x.spray = true ∧ s.awaitsSpray c = true then (s.withQu (s.qu.told x)).beginQuench c else s.withQu (s.qu.told x) := by
  simp only [towerReport, car, QuenchUnit.told]
  rfl

theorem towerReport_of_awaited (spray : x.spray = true) (car : x.carInTower = some c) (awaits : s.awaitsSpray c = true) :
    towerReport x s = s.withQu ((s.qu.told x).setCar c { s.car c with
      state := .quenching, quenchTimer := some s.qu.limits.quench, hotTimer := none, hotLate := false }) :=
  (towerReport_eq_told car).trans (if_pos ⟨spray, awaits⟩)

theorem towerReport_of_recorded (quiet : ∀ c, x.carInTower = some c → x.spray = true → s.awaitsSpray c = false) :
    towerReport x s = s.withQu (s.qu.told x) := by
  cases car : x.carInTower with
  | none => simp only [towerReport, QuenchUnit.told, car]
  | some c =>
    refine (towerReport_eq_told car).trans (if_neg ?_)
    rintro ⟨spray, awaits⟩
    exact Bool.false_ne_true ((quiet c car spray).symm.trans awaits)

end

/-- Settles O51: the tower's reports and the timers of the quench, the drain, the hot coke and the bays. -/
theorem towerQuenchesAndBaysAreHandedOn : Obligations.TowerQuenchesAndBaysAreHandedOn := by
  refine ⟨fun s c x shape run room => ⟨?report, ?quench, ?drain, ?late⟩, fun s b run low high => ⟨?passes, ?ends⟩⟩
  case report =>
    have taken : exec (.towerReport x) s = .next (towerReport x (s.passed (.towerReport x))) := s.event_of_run _ _ run
    rintro q rfl
    refine ⟨fun spray car holder state target => ?_, fun quiet => ?_⟩
    · have awaits : s.awaitsSpray c = true := State.awaitsSpray_iff.mpr ⟨holder, state, target⟩
      rw [towerReport_of_awaited (s := s.passed _) spray car awaits] at taken
      exact ⟨_, taken, frameOf_withQu _ _ _, rfl⟩
    · have recorded (d : Car) (car : x.carInTower = some d) (spray : x.spray = true) : s.awaitsSpray d = false := by
        rw [← Bool.not_eq_true, State.awaitsSpray_iff]
        rintro ⟨holder, state, target⟩
        rcases quiet with off | none | ⟨named, not⟩
        · exact absurd spray (by simp [off])
        · exact absurd car (by simp [none])
        · cases named.symm.trans car
          rcases not with h | h | h
          · exact h holder
          · exact h state
          · exact h target
      rw [towerReport_of_recorded (s := s.passed _) recorded] at taken
      exact ⟨_, taken, frameOf_withQu _ _ _, rfl⟩
  case quench =>
    intro mode timer state
    have taken : exec (.quenchTimerExpiry c) s = .next (quenchTimerExpiry c (s.passed (.quenchTimerExpiry c))) :=
      s.event_of_run _ _ run
    rw [quenchTimerExpiry_of_quenching (s := s.passed _) mode timer state] at taken
    exact ⟨_, taken, Does.quOnly ((((s.passed _).does_idle 1).setCar c _).issueAll _) (room.of_le (by decide))⟩
  case drain =>
    rintro mode timer state holder out travel rfl first hfirst halt rfl
    have taken : exec (.drainTimerExpiry c) s = .next (drainTimerExpiry c (s.passed (.drainTimerExpiry c))) :=
      s.event_of_run _ _ run
    rw [drainTimerExpiry_of_draining (s := s.passed _) mode timer state] at taken
    have ended := Does.drainEnds (s := s.passed (.drainTimerExpiry c)) holder out
    have done := ended.seekBay (c := c) ((QuenchUnit.setCar_limits _ _ _).trans State.handTower_limits)
    have fits : ((s.handTower s.qu).2 ++ (s.seek c (s.drained c)).2).length ≤ 2 := by
      rw [List.length_append]
      exact Nat.add_le_add State.handTower_length State.seek_length
    obtain ⟨frame, qu, issued⟩ := Does.quOnly (q := (s.seek c (s.drained c)).1)
      (cs := (s.handTower s.qu).2 ++ (s.seek c (s.drained c)).2) done (room.of_le fits)
    have command : first = (s.handTower s.qu).2 := by
      rw [hfirst]
      cases list : s.qu.waiters with
      | nil => exact (congrArg Prod.snd (State.handTower_of_nil list)).symm
      | cons w rest => exact (congrArg Prod.snd (State.handTower_of_cons list)).symm
    refine ⟨_, taken, frame, fun q hq => ?_⟩
    have handed : q = (s.handTower s.qu).1 := by
      rw [hq]
      cases list : s.qu.waiters with
      | nil => exact (congrArg Prod.fst (State.handTower_of_nil list)).symm
      | cons w rest => exact (congrArg Prod.fst (State.handTower_of_cons list)).symm
    rw [handed, command]
    refine ⟨fun b high low free lowest => ?_, fun full => ?_⟩
    · rw [State.seek_drained_of_free (QuenchUnit.firstFree_eq_some low high free lowest)] at qu issued
      exact ⟨qu, issued⟩
    · rw [State.seek_drained_of_full (QuenchUnit.firstFree_eq_none full)] at qu issued
      exact ⟨qu, issued⟩
  case late =>
    intro mode timer notice wait
    have taken : exec (.hotCokeTimerExpiry c) s = .next (hotCokeTimerExpiry c (s.passed (.hotCokeTimerExpiry c))) :=
      s.event_of_run _ _ run
    rw [hotCokeTimerExpiry_of_late (s := s.passed _) mode timer] at taken
    refine ⟨_, taken, frameOf_raiseAll _ _ _ _, rfl, ?_⟩
    have fits : s.NoticeRoom (lateNotice c (s.car c).load).length := notice.of_le (lateNotice_length _ _)
    exact State.raiseAll_noticesOnly _ _ fits wait
  case passes =>
    intro passes
    exact ((s.checked_of_wf _ _ (by simp [Instr.wf, wfBay, low, high])).trans (s.event_of_run _ _ run)).trans
      (congrArg _ (bayHoldTimerExpiry_of_passed (s := s.passed _) passes))
  case ends =>
    intro mode timer
    have taken : exec (.bayHoldTimerExpiry b) s = .next (bayHoldTimerExpiry b (s.passed (.bayHoldTimerExpiry b))) :=
      (s.checked_of_wf _ _ (by simp [Instr.wf, wfBay, low, high])).trans (s.event_of_run _ _ run)
    rw [bayHoldTimerExpiry_of_held (s := s.passed _) mode timer] at taken
    refine ⟨fun none => ?_, fun w head room => ?_⟩
    · rw [State.freeBay_of_nil (s := s.passed _) none] at taken
      exact ⟨_, taken, frameOf_withQu _ _ _, rfl⟩
    · have list : s.qu.bayWaiters = w :: s.qu.bayWaiters.tail := List.eq_cons_of_mem_head? head
      have freed : Does 1 (s.passed (.bayHoldTimerExpiry b)) ((s.passed (.bayHoldTimerExpiry b)).freeBay b)
          { (s.passed (.bayHoldTimerExpiry b)).idle 1 with
            qu := (s.handBay b s.qu).1, commands := (s.handBay b s.qu).2 } := (State.does_idle _ 1).freeBay rfl b
      obtain ⟨frame, qu, issued⟩ := freed.quOnly (room.of_le State.handBay_length)
      rw [State.handBay_of_cons list] at qu issued
      exact ⟨_, taken, frame, qu, issued⟩

end Sys2Proof.Machine

/-!
SUPPORT. CAR_SERVICE (R140, R141): the car taken in, taken out, and the recovery of a FAULTED one as a deed.
-/

namespace Sys2Proof.Machine

section
variable {n b : Nat} {s t u : State} {d : Deed} {c : Car} {i : Instr} {f : Frame} {owner : State → Answer} {fields : List Byte}
  {q : QuenchUnit} {k : CarRecord}

/-! ### Requests that QU answers -/

/-- A request that writes QU alone: the frame, QU, and the answer. -/
theorem afterRequest_withQu (taken : owner (s.taking i f) = ((s.taking i f).withQu q).reply fields) :
    FrameOf i [.qu, .sl] s (s.afterRequest i f owner) ∧ (s.afterRequest i f owner).qu = q ∧
      Answered s (s.afterRequest i f owner) f .ok fields := by
  have writes : Keeps [.qu, .sl] (s.taking i f) (owner (s.taking i f)).state := by
    rw [taken]
    intro b hb
    cases b with
    | qu => simp at hb
    | _ => rfl
  refine ⟨frameOf_serve i f owner s writes (by simp) (by simp), ?_, answered_of_sl taken rfl⟩
  have kept := s.keeps_afterRequest i f owner .qu (by simp)
  rw [taken] at kept
  exact kept

theorem Car.ofCode_of_other {b : Byte} (one : b ≠ 1) (two : b ≠ 2) : Car.ofCode b.toNat = none := by
  have notOne : b.toNat ≠ 1 := fun same => one (BitVec.eq_of_toNat_eq same)
  have notTwo : b.toNat ≠ 2 := fun same => two (BitVec.eq_of_toNat_eq same)
  unfold Car.ofCode
  split
  · exact absurd ‹_› notOne
  · exact absurd ‹_› notTwo
  · rfl

theorem Car.byte_of_code {b : Byte} (code : c.code = b.toNat) : b = byteOf c.code := by
  rw [code]
  exact BitVec.eq_of_toNat_eq (by simp [byteOf])

/-! ### CAR_SERVICE case by case -/

theorem carServiceIn_of_other {b : Byte} (other : Car.ofCode b.toNat = none) : carServiceIn b s = s.refuse .badValue := by
  simp only [carServiceIn, other]

theorem carServiceIn_of_inService (state : (s.car c).state ≠ .outOfService) :
    carServiceIn (byteOf c.code) s = s.reply (s.carFields c) := by
  simp only [carServiceIn, Car.ofCode_code]
  exact if_pos state

theorem carServiceOut_of_other {b : Byte} (other : Car.ofCode b.toNat = none) : carServiceOut b s = s.refuse .badValue := by
  simp only [carServiceOut, other]

theorem carServiceOut_of_out (state : (s.car c).state = .outOfService) :
    carServiceOut (byteOf c.code) s = s.reply [byteOf c.code, 0, 0] := by
  simp only [carServiceOut, Car.ofCode_code, state]
  rfl

theorem carServiceOut_of_parked (state : (s.car c).state = .parked) : carServiceOut (byteOf c.code) s =
    (s.setCar c { s.car c with state := .outOfService }).reply [byteOf c.code, 0, 0] := by
  simp only [carServiceOut, Car.ofCode_code, state]
  rfl

theorem carServiceOut_of_faulted (state : (s.car c).state = .faulted) : carServiceOut (byteOf c.code) s =
    (s.recoverCar c).reply [byteOf c.code, 0, byteOf (s.recoverFlags c)] := by
  simp only [carServiceOut, Car.ofCode_code, state]
  rfl

theorem carServiceOut_of_busy (out : (s.car c).state ≠ .outOfService) (parked : (s.car c).state ≠ .parked)
    (faulted : (s.car c).state ≠ .faulted) : carServiceOut (byteOf c.code) s = s.refuse .busy := by
  simp only [carServiceOut, Car.ofCode_code]
  cases state : (s.car c).state with
  | outOfService => exact absurd state out
  | parked => exact absurd state parked
  | faulted => exact absurd state faulted
  | _ => rfl

theorem State.parkCar_of_clear (clear : s.su.slotFlag = false) :
    s.parkCar c = s.withQu (s.qu.setCar c { s.car c with state := .parked }) := State.evaluate_of_clear clear

/-- A car whose node is heard is PARKED, and no push takes it while no slot is pending (R140). -/
theorem carServiceIn_of_live (state : (s.car c).state = .outOfService) (live : s.live (.car c) = true)
    (clear : s.su.slotFlag = false) : carServiceIn (byteOf c.code) s =
      (s.withQu (s.qu.setCar c { s.car c with state := .parked })).reply
        [byteOf c.code, 1, byteOf (s.car c).position.code] := by
  have record : (s.withQu (s.qu.setCar c { s.car c with state := .parked })).car c = { s.car c with state := .parked } :=
    QuenchUnit.car_setCar_self _ _ _
  rw [carServiceIn_of_out state, if_pos live, State.parkCar_of_clear clear, State.carFields, record]
  rfl

/-! ### The recovery's parts (R141) -/

/-- The grant handed on, if the car recovered holds it. -/
def State.yieldTower (s : State) (c : Car) : QuenchUnit × List Outgoing :=
  if s.qu.holder = some c then s.handTower s.qu else (s.qu, [])

/-- The bay that a record k reserves: OCCUPIED if the car stands at it, else handed on. -/
def State.yieldBay (s : State) (k : CarRecord) (q : QuenchUnit) : QuenchUnit × List Outgoing :=
  match k.reservedBay with
  | none => (q, [])
  | some b => if k.position = .bay b then (q.occupy b, [⟨.tower, .gate b false⟩]) else s.handBay b q

/-- A stall that claims the car claims it no more. -/
def PushUnit.unclaim (p : PushUnit) (c : Car) : PushUnit :=
  { p with stall := p.stall.map (fun r => if r.car = c then { r with claimed := false } else r) }

/-- The load of a car discarded with its hot-coke timer (R141, step 2). -/
def CarRecord.discard (k : CarRecord) : CarRecord := { k with load := none, hotTimer := none, hotLate := false }

theorem discardedNotice_length (c : Car) (l : Option Load) : (discardedNotice c l).length ≤ 1 := by
  cases l <;> simp [discardedNotice]

theorem State.yieldTower_length : (s.yieldTower c).2.length ≤ 1 := by
  unfold State.yieldTower
  split_ifs
  · exact State.handTower_length
  · simp

theorem State.yieldTower_limits : (s.yieldTower c).1.limits = s.qu.limits := by
  unfold State.yieldTower
  split_ifs
  · exact State.handTower_limits
  · rfl

theorem State.yieldTower_bayWaiters : (s.yieldTower c).1.bayWaiters = s.qu.bayWaiters := by
  unfold State.yieldTower
  split_ifs
  · exact State.handTower_bayWaiters
  · rfl

theorem State.yieldTower_car (out : c ∉ s.qu.waiters) : (s.yieldTower c).1.car c = s.car c := by
  unfold State.yieldTower
  split_ifs
  · exact State.handTower_car out
  · rfl

theorem State.yieldBay_length : (s.yieldBay k q).2.length ≤ 1 := by
  unfold State.yieldBay
  split
  · simp
  · split_ifs
    · simp
    · exact State.handBay_length

theorem PushUnit.unclaim_of_free {p : PushUnit} (free : ∀ r, p.stall = some r → r.car = c → r.claimed = false) :
    p.unclaim c = p := by
  have same : p.stall.map (fun r => if r.car = c then { r with claimed := false } else r) = p.stall := by
    cases stall : p.stall with
    | none => rfl
    | some r =>
      rw [Option.map_some]
      split_ifs with car
      · rw [← free r stall car]
      · rfl
  rw [PushUnit.unclaim, same]

theorem State.clearStallClaim_eq (s : State) (c : Car) : s.clearStallClaim c = s.withPu (s.pu.unclaim c) := by
  rw [State.clearStallClaim]
  split_ifs with claims
  · obtain ⟨r, stall, claim⟩ := (Option.any_eq_true _ _).mp claims
    obtain ⟨car, _⟩ : r.car = c ∧ r.claimed = true := by simpa using claim
    simp only [PushUnit.unclaim, stall, Option.map_some, if_pos car]
  · have free (r : StallRecord) (stall : s.pu.stall = some r) (car : r.car = c) : r.claimed = false := by
      simpa [State.stallClaims, stall, car] using claims
    rw [PushUnit.unclaim_of_free free]
    rfl

theorem State.yieldBay_of_none (bay : k.reservedBay = none) : s.yieldBay k q = (q, []) := by
  simp only [State.yieldBay, bay]

theorem State.yieldBay_of_some (bay : k.reservedBay = some b) : s.yieldBay k q =
    if k.position = .bay b then (q.occupy b, [⟨.tower, .gate b false⟩]) else s.handBay b q := by
  simp only [State.yieldBay, bay]

/-! ### As deeds -/

theorem State.does_yieldTower (s : State) (n : Nat) (c : Car) :
    Does n s (s.leaveTower c) { s.idle n with qu := (s.yieldTower c).1, commands := (s.yieldTower c).2 } := by
  unfold State.yieldTower
  split_ifs with holder
  · exact (s.does_idle n).leaveTower_of_holder rfl holder
  · rw [State.leaveTower, if_neg holder]
    exact s.does_idle n

theorem Does.fillBay (h : Does n s t d) (b : Nat) :
    Does n s (t.fillBay b) (Deed.issue { d with qu := d.qu.occupy b } [⟨.tower, .gate b false⟩]) := by
  rw [State.fillBay, h.qu]
  exact (h.withQu _).issueAll _

/-- The reservation of a car that does not wait for a bay, its record k just written. -/
theorem Does.endReservation (h : Does n s t d) (written : d.qu = q.setCar c k) (limits : q.limits = s.qu.limits)
    (out : c ∉ q.bayWaiters) : Does n s (t.endReservation c) (Deed.issue
      { d with qu := (s.yieldBay k q).1.setCar c { k with reservedBay := none } } (s.yieldBay k q).2) := by
  have car : t.car c = k := by rw [h.car, written, QuenchUnit.car_setCar_self]
  cases bay : k.reservedBay with
  | none =>
    simp only [State.endReservation, car, bay, State.yieldBay_of_none bay]
    rw [← bay, ← written]
    exact h.issueAll []
  | some b =>
    have freed : Does n s (t.setCar c { k with reservedBay := none })
        { d with qu := q.setCar c { k with reservedBay := none } } := by
      have freed := h.setCar c { k with reservedBay := none }
      rwa [written, QuenchUnit.setCar_setCar] at freed
    simp only [State.endReservation, car, bay]
    rw [State.yieldBay_of_some bay]
    split_ifs with here
    · have occupied : (q.setCar c { k with reservedBay := none }).occupy b =
          (q.occupy b).setCar c { k with reservedBay := none } := by
        rw [QuenchUnit.occupy, QuenchUnit.setCar_limits, ← QuenchUnit.setBay_setCar, QuenchUnit.occupy]
      have filled := freed.fillBay b
      simp only [occupied] at filled
      exact filled
    · have handed := freed.freeBay ((QuenchUnit.setCar_limits _ _ _).trans limits) b
      simp only [State.handBay_setCar out] at handed
      exact handed

/-- The recovery as a deed: the tower and the bay handed on, the load discarded, the stall's claim cleared, the car retired. -/
theorem State.does_recoverCar (s : State) (n : Nat) (tower : c ∉ s.qu.waiters) (wharf : c ∉ s.qu.bayWaiters) :
    Does n s (s.recoverCar c) { s.idle n with
      qu := (s.yieldBay (s.car c) (s.yieldTower c).1).1.setCar c
        { (s.car c).discard with reservedBay := none }.retire
      pu := s.pu.unclaim c
      commands := (s.yieldTower c).2 ++ (s.yieldBay (s.car c) (s.yieldTower c).1).2
      notices := discardedNotice c (s.car c).load } := by
  have left := s.does_yieldTower n c
  have car : (s.leaveTower c).car c = s.car c := (left.car c).trans (State.yieldTower_car tower)
  have discarded : Does n s (((s.leaveTower c).setCar c (s.car c).discard).raiseAll (discardedNotice c (s.car c).load))
      { s.idle n with
        qu := (s.yieldTower c).1.setCar c (s.car c).discard
        commands := (s.yieldTower c).2
        notices := discardedNotice c (s.car c).load } := Does.raiseAll _ (left.setCar c (s.car c).discard)
  have ended := discarded.endReservation rfl State.yieldTower_limits (by rwa [State.yieldTower_bayWaiters])
  have record := ended.car c
  simp only [Deed.issue, QuenchUnit.car_setCar_self] at record
  have retired := (ended.withPu (s.pu.unclaim c)).setCar c ({ (s.car c).discard with reservedBay := none } : CarRecord).retire
  simp only [Deed.issue, QuenchUnit.setCar_setCar] at retired
  have step : s.recoverCar c = ((((((s.leaveTower c).setCar c (s.car c).discard).raiseAll
      (discardedNotice c (s.car c).load)).endReservation c).withPu (s.pu.unclaim c)).setCar c
        ({ (s.car c).discard with reservedBay := none } : CarRecord).retire) := by
    rw [← record, ← show _ = s.pu from ended.pu, ← car]
    unfold State.recoverCar
    simp only [State.clearStallClaim_eq]
    rfl
  rw [step]
  exact retired

/-- The flags of the reply (R141). -/
theorem State.recoverFlags_eq (s : State) (c : Car) : s.recoverFlags c = bits [s.qu.holder == some c, (s.car c).load.isSome,
    (s.car c).reservedBay.any (fun k => (s.car c).position == .bay k),
    (s.car c).reservedBay.any (fun k => (s.car c).position != .bay k),
    s.pu.stall.any (fun r => r.car == c && r.claimed)] := by
  have away : (s.car c).reservedBay.any (fun k => (s.car c).position != .bay k) =
      ((s.car c).reservedBay.isSome && !(s.car c).reservedBay.any (fun k => (s.car c).position == .bay k)) := by
    cases (s.car c).reservedBay <;> rfl
  rw [away]
  rfl

end

/-- Settles O48: each request case by case; the recovery by the deeds of its parts. -/
theorem carServiceTakesCarsInAndOut : Obligations.CarServiceTakesCarsInAndOut := by
  have into {s : State} {tag b : Byte} (free : s.Free) (ht : tag ≠ 0) : exec (.carServiceIn tag b) s =
      .next (s.afterRequest (.carServiceIn tag b) ⟨0x62, tag, [b, 1]⟩ (carServiceIn b)) := exec_of_free rfl rfl rfl free ht
  have out {s : State} {tag b : Byte} (free : s.Free) (ht : tag ≠ 0) : exec (.carServiceOut tag b) s =
      .next (s.afterRequest (.carServiceOut tag b) ⟨0x62, tag, [b, 0]⟩ (carServiceOut b)) := exec_of_free rfl rfl rfl free ht
  refine ⟨fun s tag b free ht => ⟨fun one two => ?inOther, fun c code => ?inCar⟩,
    fun s tag b shape free ht => ⟨fun one two => ?outOther, fun c code => ?outCar⟩⟩
  case inOther =>
    exact ⟨_, into free ht, serve_of_refuse _ _ _ s _ (carServiceIn_of_other (Car.ofCode_of_other one two))⟩
  case inCar =>
    cases Car.byte_of_code code
    refine ⟨fun state => ?_, fun state silent => ?_, fun state live clear => ?_⟩
    · obtain ⟨frame, answered⟩ := afterRequest_refused (carServiceIn_of_inService (s := s.taking _ _) state)
      exact ⟨_, into free ht, frame, answered⟩
    · have answer := (carServiceIn_of_out (s := s.taking (.carServiceIn tag (byteOf c.code)) ⟨0x62, tag, [byteOf c.code, 1]⟩)
        state).trans (if_neg (by
          rw [Bool.not_eq_true]
          exact silent))
      exact ⟨_, into free ht, serve_of_refuse _ _ _ s _ answer⟩
    · exact ⟨_, into free ht, afterRequest_withQu (carServiceIn_of_live (s := s.taking _ _) state live clear)⟩
  case outOther =>
    exact ⟨_, out free ht, serve_of_refuse _ _ _ s _ (carServiceOut_of_other (Car.ofCode_of_other one two))⟩
  case outCar =>
    cases Car.byte_of_code code
    refine ⟨fun state => ?_, fun state => ?_, fun notOut notParked notFaulted => ?_,
      fun state tower wharf notice field => ?_⟩
    · obtain ⟨frame, answered⟩ := afterRequest_refused (carServiceOut_of_out (s := s.taking _ _) state)
      exact ⟨_, out free ht, frame, answered⟩
    · exact ⟨_, out free ht, afterRequest_withQu (carServiceOut_of_parked (s := s.taking _ _) state)⟩
    · exact ⟨_, out free ht, serve_of_refuse _ _ _ s _ (carServiceOut_of_busy notOut notParked notFaulted)⟩
    · have done := State.does_recoverCar (s.taking (.carServiceOut tag (byteOf c.code)) ⟨0x62, tag, [byteOf c.code, 0]⟩)
        1 tower wharf
      have answer := carServiceOut_of_faulted (s := s.taking (.carServiceOut tag (byteOf c.code))
        ⟨0x62, tag, [byteOf c.code, 0]⟩) state
      have place : 1 - 1 < s.ovens.length := by rw [shape.ovens]; decide
      have fits : ((s.yieldTower c).2 ++ (s.yieldBay (s.car c) (s.yieldTower c).1).2).length ≤ 2 := by
        rw [List.length_append]
        exact Nat.add_le_add State.yieldTower_length State.yieldBay_length
      have served := done.serves answer (by decide) place (field.of_le fits)
      have replied := served.replied
      rw [State.recoverFlags_eq] at replied
      refine ⟨_, out free ht, done.frameOf_request answer (.inr rfl) (.inr rfl) (.inl (by simp)) (.inl (by simp)) (by simp)
        (by simp) (by simp), ?_, served.pu, ?_, replied⟩
      · rintro travel rfl p hp q hq
        have yields : p = s.yieldTower c := by
          rw [hp, ite_not]
          refine ite_congr rfl (fun _ => ?_) (fun _ => rfl)
          cases list : s.qu.waiters with
          | nil => exact (State.handTower_of_nil list).symm
          | cons w rest => exact (State.handTower_of_cons list).symm
        have limits : p.1.limits = s.qu.limits := by rw [yields, State.yieldTower_limits]
        have waiting : p.1.bayWaiters = s.qu.bayWaiters := by rw [yields, State.yieldTower_bayWaiters]
        have reserved : q = s.yieldBay (s.car c) p.1 := by
          rw [hq]
          cases bay : (s.car c).reservedBay with
          | none => exact (State.yieldBay_of_none bay).symm
          | some k =>
            rw [State.yieldBay_of_some bay]
            refine ite_congr rfl (fun _ => by rw [QuenchUnit.occupy, limits]) (fun _ => ?_)
            cases list : s.qu.bayWaiters with
            | nil => exact (State.handBay_of_nil (waiting.trans list)).symm
            | cons w rest => exact (State.handBay_of_cons (waiting.trans list)).symm
        rw [reserved, yields]
        exact ⟨served.qu, served.issued⟩
      · exact served.noticed (notice.of_le (discardedNotice_length _ _))

end Sys2Proof.Machine
